-- ==== Sys2Proof/Word.lean ====
section
/-! DEFINITION. The byte of the two serial links and the plain integer helpers of the manual's arithmetic section. -/

namespace Sys2Proof

/-- A byte of the host link or of the stage link. -/
abbrev Byte := BitVec 8

/-- A temperature in half-degrees Celsius, signed (00_scope, Units and ranges). -/
abbrev HalfDeg := Int

end Sys2Proof
end

