-- ==== Sys2Proof/Syntax.lean ====
section
/-! DEFINITION. The commands of the CD740: one constructor of `Instr` for each row of spec/opcode_table.json.

A host request row carries the TAG of its frame and the fields of its payload as decoded by section 10.1
(numbers, not yet tested against their sets and ranges: the owner tests them, R194). An event row carries what the
event brings with it: what stood on an input through its dwell, a reading, the bytes of the wire. A row that stands for the expiry of a period or
timeout carries nothing, or the number of the row whose own period it is. -/

namespace Sys2Proof

/-- The six proximity classes (section 1.1, R1, R200). -/
inductive PlugClass where
  | noPlug | cable13 | cable20 | cable32 | cable63 | invalid
  deriving DecidableEq, Repr, Inhabited

/-- The four pilot classes (section 1.1, R3, R200). -/
inductive PilotClass where
  | absent | steady | offering | error
  deriving DecidableEq, Repr, Inhabited

/-- What stands on CP through its 20 ms dwell (section 10.4): a level without edges, in 0.1 V, or edges at a
frequency with a high level, and the high time and the period time of the last eight periods in one unit. -/
inductive PilotSignal where
  | level (deciVolt : Int)
  | pwm (hz : Nat) (highDeciVolt : Int) (highTime periodTime : Nat)
  deriving DecidableEq, Repr, Inhabited

/-- The three contactor feedback contacts KAC_FB, KDCP_FB and KDCN_FB (section 10.4). -/
inductive Contact where
  | ac | dcPos | dcNeg
  deriving DecidableEq, Repr, Inhabited

/-- The blocks that post to the budget input record (section 2.1); the host's fields arrive as requests. -/
inductive Writer where
  | session | meter | heating | insulation | billing | stage
  deriving DecidableEq, Repr, Inhabited

/-- What a byte on the host link did wrong (R182, R184): a LEN byte above 60, or a missing stop bit. -/
inductive LineError where
  | lenAbove60 | missingStopBit
  deriving DecidableEq, Repr, Inhabited

/-- The readings of the measurement front end at the end of one meter period (section 6.1). -/
structure FrontEnd where
  /-- phase voltages, 0.1 V -/
  v1 : Nat
  v2 : Nat
  v3 : Nat
  /-- phase currents, 0.1 A -/
  i1 : Nat
  i2 : Nat
  i3 : Nat
  /-- phase active powers, W, signed -/
  p1 : Int
  p2 : Int
  p3 : Int
  /-- DC inlet voltage and current -/
  vDc : Nat
  iDc : Int
  /-- pack channel valid, and its reading -/
  packValid : Bool
  vPack : Nat
  /-- HV inflow current and heater supply current -/
  iHv : Int
  iHeat : Int
  deriving DecidableEq, Repr, Inhabited

/-- A band entry of TARIFF_WRITE (R196): start minute, the three price bytes as one number, heat-preferred flag byte. -/
structure BandEntry where
  start : Nat
  price : Nat
  preferred : Nat
  deriving DecidableEq, Repr, Inhabited

/-- The commands. Requests first, in the table's order, then the events. -/
inductive Instr where
  -- power-state controller and host link requests
  | identify (tag : Byte)
  | partStatus (tag : Byte)
  | reset (tag : Byte)
  | setPowerState (tag : Byte) (target : Nat)
  | saveSettings (tag : Byte)
  | readLinkErrors (tag : Byte)
  | unknownKind (tag : Byte) (kind : Byte)
  -- session requests
  | authorise (tag : Byte) (mode phases unlock : Nat) (ref : List Byte)
  | deny (tag : Byte)
  | pause (tag : Byte)
  | resume (tag : Byte)
  | stop (tag : Byte)
  | restart (tag : Byte)
  | clearFault (tag : Byte)
  | dcStation (tag : Byte) (maxV maxI maxP flags : Nat)
  | dcConnect (tag : Byte)
  | sessionStatus (tag : Byte)
  -- budget requests
  | setPackLimits (tag : Byte) (packV maxI heat : Nat)
  | setDerateTable (tag : Byte) (points : List (Int × Nat))
  | setBudgetParams (tag : Byte) (cap aux share : Nat)
  | budgetStatus (tag : Byte) (page : Nat)
  -- heating requests
  | setZone (tag : Byte) (zone enabled : Nat) (target : Int) (hyst : Nat)
  | setHeatPolicy (tag : Byte) (gridMode gating packHeat : Nat)
  | setDeparture (tag : Byte) (count mode lead : Nat)
  | heatStatus (tag : Byte) (page : Nat)
  -- insulation requests
  | setIsoParams (tag : Byte) (enabled profMode fixed warn fault critical : Nat)
  | setSearchList (tag : Byte) (addrs : List Nat)
  | isoStatus (tag : Byte) (page : Nat)
  | clearIsolation (tag : Byte) (target : Nat)
  | startSearch (tag : Byte)
  -- stage link requests
  | setRoster (tag : Byte) (kinds : List Nat)
  | rollCall (tag : Byte)
  | rosterStatus (tag : Byte) (page : Nat)
  | readStageErrors (tag : Byte)
  -- meter requests
  | meterStatus (tag : Byte) (page : Nat)
  | readTotals (tag : Byte)
  -- billing requests
  | setClock (tag : Byte) (day minute second : Nat)
  | tariffWrite (tag : Byte) (page : Nat) (bands : List BandEntry)
  | tariffRead (tag : Byte) (page : Nat)
  | tariffCommit (tag : Byte)
  | tariffCancel (tag : Byte)
  | readRecord (tag : Byte) (number part half : Nat)
  | releaseRecord (tag : Byte) (number : Nat)
  | logStatus (tag : Byte)
  -- host link events
  | hostFrameReceived (bytes : List Byte)
  | receiveError (err : LineError)
  | rxTimeout
  | serveRequest
  | frameTransmit
  | frameSent
  | wakeLine (asserted : Bool)
  -- inlet events
  | proximityClassChange (ohms : Option Nat)
  | pilotClassChange (sig : PilotSignal)
  | pilotDutyChange (highTime periodTime : Nat)
  | inletTemperatureChange (t1 t2 : Option HalfDeg)
  | lockEngaged
  | lockReleased
  | lockTravelTimeout
  | energisingWaitExpiry
  | contactorClosed (k : Contact)
  | contactorOpened (k : Contact)
  | closingFeedbackTimeout
  | openingFeedbackTimeout
  | stopRampWaitExpiry
  | dcStationStale
  -- budget events
  | budgetPeriodExpiry
  | budgetPostingArrival (w : Writer)
  | packLimitsStale
  -- heating events
  | heatPeriodExpiry
  | heatGrantTaken
  | heaterReplyAgeExpiry (zone : Nat)
  | onTimeTick
  | departureMinute
  -- insulation events
  | packVoltagePosting
  | injectionPeriodEnd (pos3q posEnd neg3q negEnd : Int)
  | listenWindowExpiry (low high : Int)
  | isolateConfirmTimeout
  | resultDeadlineExpiry
  | reconnectWaitTimeout
  -- stage link events
  | transactionBegin
  | statusSlotReceived (status : Byte)
  | responseFrameReceived (bytes : List Byte)
  | slotWaitTimeout
  | retryWaitExpiry
  | pollTimeExpiry (addr : Nat)
  | refreshTimeExpiry (addr : Nat)
  | recallPeriodExpiry
  | safeStop
  | safeStopRepeat
  -- meter and billing events
  | meterSample (fe : FrontEnd)
  | clockSecond
  | checkpointPeriodExpiry
  | rewritePeriodExpiry
  -- supply, reset and NV events
  | supplyWarn
  | supplyWarnRelease
  | warningClearDwellExpiry
  | resetLineAssert
  | startUp (complete : Bool)
  | hostResetGo
  | nvWriteBegin
  | nvWriteComplete (verified : Bool)
  | supplyFailure
  deriving DecidableEq, Repr, Inhabited

end Sys2Proof
end

