-- ==== Sys2Proof/Config.lean ====
section
/-! DEFINITION. What an implementation fixes and the manual leaves open: the content of a record slot whose only
written copy was cut off (R164, R177). The constants have no body: nothing can be proved of their values. Also
the fixed times of the FIXED FIGURES table that a status page reports against. -/

namespace Sys2Proof.Config

/-- FREE VALUE (log 3): the record number read from the torn copy with index `k` (R164: "kept as read"). -/
opaque tornNumber : Nat → BitVec 32

/-- FREE VALUE (log 3): the flags word read from the torn copy with index `k`. -/
opaque tornFlags : Nat → BitVec 16

/-- FREE VALUE (log 3): byte `pos` of half `half` of part `part` of the record read from the torn copy `k`. -/
opaque tornByte : (k part half pos : Nat) → Byte

/-- The heat period, 10 s (R63), in ms. -/
def heatPeriodMs : Nat := 10000

/-- The missing or lost node re-call period, 5 s (R115), in ms. -/
def recallPeriodMs : Nat := 5000

end Sys2Proof.Config
end

