-- ==== Sys2Proof/Machine/State.lean ====
section
/-! DEFINITION. The state of the CD740, block by block, as plain data. Each field's default is its value after
reset: the value the manual states, or the value a log entry names. Times are stamps of the model's own
millisecond count `State.now`; an age or a running period is read as `now - stamp` (log 1). -/

namespace Sys2Proof.Machine

/-! ## Session controller (chapter 1) -/

/-- The eleven session states (section 1.2). -/
inductive SessState where
  | idle | connected | locking | authorising | energising | active | paused
  | stopping | unlocking | finished | faulted
  deriving DecidableEq, Repr, Inhabited

/-- AC or DC session. -/
inductive Mode where
  | ac | dc
  deriving DecidableEq, Repr, Inhabited

/-- The lock states (section 1.2). -/
inductive LockState where
  | notEngaged | lockTravel | engaged | unlockTravel
  deriving DecidableEq, Repr, Inhabited

/-- The contactor states OPEN, CLOSING, CLOSED, OPENING (section 1.2). -/
inductive KState where
  | opened | closing | closed | opening
  deriving DecidableEq, Repr, Inhabited

/-- The stop causes, in the order of the table of section 1.6. -/
inductive StopCause where
  | hostStop | stationFault | cableLost | inletOverheat | isoFault | isoCritical | isoExternal
  | stationTimeout | contactor | supplyLoss | hostReset
  deriving DecidableEq, Repr, Inhabited

/-- The fault kinds (section 1.2). -/
inductive FaultKind where
  | lockFail | lockStuck | contactor
  deriving DecidableEq, Repr, Inhabited

/-- The pause-cause set (section 1.5), one flag per cause. -/
structure PauseSet where
  noOffer : Bool := false
  hostPause : Bool := false
  searchHold : Bool := false
  nothingToDo : Bool := false
  noStages : Bool := false
  deriving DecidableEq, Repr, Inhabited

/-- The DC station record (R12). `stamp` is when it was last accepted. -/
structure Station where
  maxV : Nat
  maxI : Nat
  maxP : Nat
  monActive : Bool
  faultReported : Bool
  stamp : Nat
  stale : Bool
  deriving DecidableEq, Repr, Inhabited

/-- The state of the session controller (section 1.2), its inlet state (section 1.1) and its timeouts. -/
structure Session where
  st : SessState := .idle
  mode : Option Mode := none
  phases : Option Nat := none
  unlockOnStop : Bool := false
  ref : Option (List Byte) := none
  lock : LockState := .notEngaged
  acK : KState := .opened
  dcK : KState := .opened
  causes : PauseSet := {}
  stopCause : Option StopCause := none
  fault : Option FaultKind := none
  stopPending : Bool := false
  plugLossSeen : Bool := false
  /-- MODEL'S OWN: a CABLE_LOST taken in LOCKING, acted on at the end of the travel (R7). -/
  lockingLost : Bool := false
  station : Option Station := none
  dcRequest : Nat := 0
  /-- The classes the session last acted on, and the duty held with the pilot (R1, R3). -/
  prox : PlugClass := .noPlug
  pilot : PilotClass := .absent
  duty : Nat := 0
  /-- The classes held by the inlet class watch (R167, R170, R200). -/
  watchProx : PlugClass := .noPlug
  watchPilot : PilotClass := .absent
  watchDuty : Nat := 0
  /-- Whether each class has been taken from its first complete dwell since the reset (R29, R200). -/
  proxTaken : Bool := false
  pilotTaken : Bool := false
  /-- MODEL'S OWN: the session follows its inputs, both first classes having been taken (R29). -/
  following : Bool := false
  /-- The two inlet temperature sensors, absent when faulty (R5). -/
  temp1 : Option HalfDeg := none
  temp2 : Option HalfDeg := none
  /-- The timeouts: the stamp of their start, or not running. -/
  lockTimer : Option Nat := none
  energiseTimer : Option Nat := none
  closeTimer : Option Nat := none
  openTimer : Option Nat := none
  rampTimer : Option Nat := none
  deriving DecidableEq, Repr, Inhabited

/-- The drive of the inlet lock. -/
inductive LockDrive where
  | released | towardEngaged | towardReleased
  deriving DecidableEq, Repr, Inhabited

/-- The pins (section 10.4) that are levels: the drives the part puts out and the contacts and lines it reads. -/
structure Pins where
  lockDrive : LockDrive := .released
  kacDrive : Bool := false
  kdcpDrive : Bool := false
  kdcnDrive : Bool := false
  cpLoad : Bool := false
  /-- LOCK_FB reports engaged; the contactor contacts report closed. -/
  lockFb : Bool := false
  kacFb : Bool := false
  kdcpFb : Bool := false
  kdcnFb : Bool := false
  supplyWarn : Bool := false
  resetLine : Bool := false
  wake : Bool := false
  /-- What the two inlet temperature sensors read, absent when faulty (R5, R200). The session controller takes the
  readings in RUN (log 13). -/
  sensor1 : Option HalfDeg := none
  sensor2 : Option HalfDeg := none
  deriving DecidableEq, Repr, Inhabited

/-! ## Budget unit (chapter 2) -/

/-- Grid heating mode (R60). -/
inductive GridMode where
  | off | preheatOnly | always
  deriving DecidableEq, Repr, Inhabited

/-- State of the DC station fields of the budget input record (R33). -/
inductive StationState where
  | absent | fresh | stale
  deriving DecidableEq, Repr, Inhabited

/-- The pack limits record (R32). -/
structure PackLimits where
  packV : Nat := 0
  maxI : Nat := 0
  heat : Nat := 0
  stamp : Nat := 0
  present : Bool := false
  stale : Bool := true
  deriving DecidableEq, Repr, Inhabited

/-- One charger row (R36). -/
structure ChargerRow where
  eligible : Bool := false
  headroom : Nat := 0
  deriving DecidableEq, Repr, Inhabited

/-- The budget input record (section 2.1). -/
structure BudgetInput where
  sess : SessState := .idle
  mode : Option Mode := none
  offer : Nat := 0
  cable : Nat := 130
  derate : Nat := 0
  phases : Nat := 0
  stMaxV : Nat := 0
  stMaxI : Nat := 0
  stMaxP : Nat := 0
  stState : StationState := .absent
  v1 : Nat := 0
  v2 : Nat := 0
  v3 : Nat := 0
  packV : Option Nat := none
  limits : PackLimits := {}
  minTemp : Option HalfDeg := none
  demands : Bool := false
  gridMode : GridMode := .off
  gating : Bool := false
  window : Bool := false
  heatOn : Nat := 0
  searchHold : Bool := false
  preferred : Bool := false
  row1 : ChargerRow := {}
  row2 : ChargerRow := {}
  row3 : ChargerRow := {}
  deriving DecidableEq, Repr, Inhabited

/-- The budget parameters (R38) with their factory values. -/
structure BudgetParams where
  cap : Nat := 320
  aux : Nat := 250
  share : Nat := 300
  deriving DecidableEq, Repr, Inhabited

/-- One point of the derating table: temperature and per mille. -/
abbrev Point := Int × Nat

/-- The factory derating table (section 2.2). -/
def factoryTable : List Point :=
  [(-60, 0), (-40, 0), (-20, 100), (0, 400), (20, 800), (40, 1000), (90, 1000), (110, 0)]

/-- Where V_pack came from (R31, R52). -/
inductive PackSource where
  | meter | limits
  deriving DecidableEq, Repr, Inhabited

/-- The last evaluation record (R52); cleared at every reset (R37). -/
structure EvalRecord where
  sess : SessState := .idle
  mode : Option Mode := none
  iLim : Nat := 0
  nPh : Nat := 0
  vMin : Nat := 0
  vPack : Option Nat := none
  vSource : PackSource := .meter
  pInlet : Nat := 0
  pAvail : Nat := 0
  derate : Nat := 0
  tAbsent : Bool := false
  pPack : Nat := 0
  grant : Nat := 0
  grantPosted : Nat := 0
  heatOn : Nat := 0
  charge : Nat := 0
  chargePosted : Nat := 0
  set1 : Nat := 0
  set2 : Nat := 0
  set3 : Nat := 0
  dcRequest : Nat := 0
  dcRequestPosted : Nat := 0
  heatAllowance : Nat := 0
  permitted : Bool := false
  noOffer : Bool := false
  noDraw : Bool := false
  noStages : Bool := false
  drawWanted : Bool := false
  deriving DecidableEq, Repr, Inhabited

/-- The budget unit. -/
structure Budget where
  input : BudgetInput := {}
  params : BudgetParams := {}
  table : List Point := factoryTable
  last : EvalRecord := {}
  period : Option Nat := none
  deriving DecidableEq, Repr, Inhabited

/-- What one posting to the budget input record carries (R30, R33 to R36). -/
inductive BudgetPosting where
  | session (st : SessState) (mode : Option Mode)
  | offer (n : Nat)
  | cable (n : Nat)
  | inletDerate (n : Nat)
  | phases (n : Nat)
  | stationFresh (maxV maxI maxP : Nat)
  | stationStale
  | stationAbsent
  | phaseVolts (v1 v2 v3 : Nat)
  | packVolts (v : Option Nat)
  | minTemp (t : Option HalfDeg)
  | demands (b : Bool)
  | gridMode (m : GridMode)
  | gating (b : Bool)
  | window (b : Bool)
  | heatOn (w : Nat)
  | searchHold (b : Bool)
  | preferred (b : Bool)
  | chargerRow (addr : Nat) (row : ChargerRow)
  deriving DecidableEq, Repr, Inhabited

/-- The heat grant and pack heat allowance of one evaluation (R41, R51). -/
structure HeatPosting where
  grant : Nat
  allowance : Nat
  deriving DecidableEq, Repr, Inhabited

/-! ## Stage link controller (chapter 5) -/

/-- Expected and reported node kinds. -/
inductive NodeKind where
  | none | charger | heater
  deriving DecidableEq, Repr, Inhabited

/-- Node states (section 5.2). -/
inductive NodeState where
  | absent | missing | active | lost | mismatch
  deriving DecidableEq, Repr, Inhabited

/-- One row of the node table (section 5.2). `faultA` is OUTPUT_FAULT of a charger and SENSOR_FAULT of a heater,
`faultB` OVER_TEMPERATURE of a charger and DRIVER_FAULT of a heater. -/
structure Node where
  expected : NodeKind := .none
  st : NodeState := .absent
  rating : Option Nat := none
  headroom : Nat := 0
  temp : Option HalfDeg := none
  faultA : Bool := false
  faultB : Bool := false
  isolated : Bool := false
  commanded : Nat := 0
  acked : Option Nat := none
  replyStamp : Option Nat := none
  pollTimer : Option Nat := none
  refreshTimer : Option Nat := none
  deriving DecidableEq, Repr, Inhabited

/-- The commands to one node (section 5.1); SAFE_STOP is the broadcast's own. -/
inductive StageCmd where
  | rollCall | setpoint | statusQuery | isolate | reconnect
  deriving DecidableEq, Repr, Inhabited

/-- One entry of the urgent or the normal queue. -/
structure StageEntry where
  cmd : StageCmd
  addr : Nat
  deriving DecidableEq, Repr, Inhabited

/-- Where the transaction in flight stands (R109, R110). -/
inductive TxPhase where
  | awaitStatus | awaitResponse | retryWait
  deriving DecidableEq, Repr, Inhabited

/-- The transaction in flight. `value` is the commanded setpoint when it began (R122). -/
structure Transaction where
  cmd : StageCmd
  addr : Nat
  value : Nat
  attempt : Nat
  phase : TxPhase
  /-- the payload of every attempt, formed when the transaction began (R110, R122) -/
  payload : List Byte := []
  /-- cut short by a safe stop at the end of the current attempt (R119) -/
  abandon : Bool := false
  deriving DecidableEq, Repr, Inhabited

/-- The progress of the two safe-stop broadcasts (R119). -/
inductive SafeStopPhase where
  | idle | firstSent
  deriving DecidableEq, Repr, Inhabited

/-- The stage error summary (R124). -/
structure StageErrors where
  sendCheck : Bool := false
  noResponse : Bool := false
  rejected : Bool := false
  rxCheck : Bool := false
  lostEvent : Bool := false
  deriving DecidableEq, Repr, Inhabited

/-- The node a roster kind starts with (section 5.2, R127). -/
def Node.ofExpected (k : NodeKind) : Node :=
  { expected := k, st := if k = .none then .absent else .missing }

/-- The factory roster: CHARGER at 1 to 3, HEATER at 4 to 11 (section 5.2). -/
def factoryRoster : List NodeKind :=
  [.charger, .charger, .charger, .heater, .heater, .heater, .heater, .heater, .heater, .heater, .heater]

/-- The stage link controller. `nodes` holds addresses 1 to 11 in order. -/
structure Stage where
  nodes : List Node := factoryRoster.map Node.ofExpected
  urgent : List StageEntry := []
  normal : List StageEntry := []
  inFlight : Option Transaction := none
  safeStop : Bool := false
  broadcast : SafeStopPhase := .idle
  /-- No further transaction until the next start-up (R119). -/
  silent : Bool := false
  errors : StageErrors := {}
  recallTimer : Option Nat := none
  /-- STG_PWR_EN. -/
  supplyOn : Bool := false
  /-- An entry to STANDBY or SLEEP waits for the transaction in flight (R127, R169). -/
  entryWait : Bool := false
  /-- MODEL'S OWN: the bytes of the frame last put on the stage link (section 10.3). -/
  wire : List Byte := []
  deriving DecidableEq, Repr, Inhabited

/-! ## Heating controller (chapter 3) -/

/-- A zone's isolation (section 3.1). -/
inductive Isolation where
  | none | requested | confirmed
  deriving DecidableEq, Repr, Inhabited

/-- A zone's heat state (section 3.2). -/
inductive HeatState where
  | disabled | idle | waiting | heating | isolated | failed
  deriving DecidableEq, Repr, Inhabited

/-- One row of the zone table (section 3.1). -/
structure Zone where
  configured : Bool := false
  enabled : Bool := true
  target : HalfDeg := 20
  hyst : Nat := 4
  node : NodeState := .absent
  rating : Option Nat := none
  temp : Option HalfDeg := none
  replyStamp : Option Nat := none
  sensorFault : Bool := false
  driverFault : Bool := false
  isolation : Isolation := .none
  /-- MODEL'S OWN: the monitor's isolation request stands (R58). -/
  isoRequested : Bool := false
  heat : HeatState := .disabled
  deficit : Nat := 0
  rank : Option Nat := none
  onTime : Nat := 0
  deriving DecidableEq, Repr, Inhabited

/-- The heat policy (R60). -/
structure HeatPolicy where
  gridMode : GridMode := .always
  gating : Bool := false
  packHeat : Bool := true
  deriving DecidableEq, Repr, Inhabited

/-- Departure timer mode (R70). -/
inductive DepartMode where
  | oneShot | periodic
  deriving DecidableEq, Repr, Inhabited

/-- The departure timer (R70); `minuteStamp` is its minute phase, `window` the preheat window (R72). -/
structure Departure where
  initial : Nat := 0
  count : Nat := 0
  mode : DepartMode := .oneShot
  lead : Nat := 60
  minuteStamp : Nat := 0
  window : Bool := false
  deriving DecidableEq, Repr, Inhabited

/-- The heat source (R61). -/
inductive HeatSource where
  | grid | pack | none
  deriving DecidableEq, Repr, Inhabited

/-- The zone row a configured zone starts with in the factory roster: MISSING, IDLE, its rank in zone order (R53, R77). -/
def factoryZone (rank : Nat) : Zone :=
  { configured := true, node := .missing, heat := .idle, rank := some rank }

/-- The heating controller. `zones` holds zones 1 to 8 in order. -/
structure Heating where
  zones : List Zone := [7, 6, 5, 4, 3, 2, 1, 0].map factoryZone
  policy : HeatPolicy := {}
  departure : Departure := {}
  source : HeatSource := .none
  grant : Nat := 0
  allowance : Nat := 0
  /-- The session state posted to the heating controller (R61, R77). -/
  sess : SessState := .idle
  heatPeriod : Option Nat := none
  onTick : Option Nat := none
  /-- The values last posted to the budget input record (R55, R68). -/
  postedDemands : Bool := false
  postedMin : Option HalfDeg := none
  postedHeatOn : Nat := 0
  deriving DecidableEq, Repr, Inhabited

/-! ## Insulation monitor (chapter 4) -/

/-- Monitor states (section 4.1). -/
inductive MonState where
  | off | listening | measuring | yielded | searching
  deriving DecidableEq, Repr, Inhabited

/-- Measurement profiles (R80). -/
inductive Profile where
  | p0 | p1 | p2 | p3
  deriving DecidableEq, Repr, Inhabited

/-- Profile mode. -/
inductive ProfMode where
  | auto | fixed
  deriving DecidableEq, Repr, Inhabited

/-- Assessment (section 4.1). -/
inductive Assessment where
  | unknown | good | warning | fault | critical
  deriving DecidableEq, Repr, Inhabited

/-- Assessment source. -/
inductive AssessSource where
  | own | external
  deriving DecidableEq, Repr, Inhabited

/-- A measured result: a kΩ value or INVALID (R82). -/
inductive Reading where
  | kOhm (r : Nat)
  | invalid
  deriving DecidableEq, Repr, Inhabited

/-- The last result (section 4.1). -/
structure IsoResult where
  reading : Reading
  um : Int
  profile : Profile
  stamp : Nat
  external : Bool
  deriving DecidableEq, Repr, Inhabited

/-- Working thresholds in kΩ and the V_pack they were formed from (R85). -/
structure Working where
  warn : Nat
  fault : Nat
  critical : Nat
  recovery : Nat
  vPack : Nat
  deriving DecidableEq, Repr, Inhabited

/-- The streak counters (R86). -/
structure Streaks where
  belowFault : Nat := 0
  belowWarn : Nat := 0
  aboveCritical : Nat := 0
  aboveFault : Nat := 0
  aboveWarn : Nat := 0
  aboveRecovery : Nat := 0
  invalid : Nat := 0
  settled : Nat := 0
  p3Unsettled : Nat := 0
  deriving DecidableEq, Repr, Inhabited

/-- The insulation parameters with their factory values (section 4.1, R104). -/
structure IsoParams where
  enabled : Bool := true
  profMode : ProfMode := .auto
  fixed : Profile := .p1
  warn : Nat := 500
  fault : Nat := 100
  critical : Nat := 50
  deriving DecidableEq, Repr, Inhabited

/-- Search outcome (section 4.5). -/
inductive SearchOutcome where
  | none | running | found | notFound | aborted
  deriving DecidableEq, Repr, Inhabited

/-- What started a search (R96). -/
inductive SearchOrigin where
  | fault | host
  deriving DecidableEq, Repr, Inhabited

/-- Mark of a search list entry. -/
inductive Mark where
  | pending | skipped | cleared | culprit
  deriving DecidableEq, Repr, Inhabited

/-- Phase of a search step. -/
inductive StepPhase where
  | setpointWait | isolateWait | results | reconnectWait
  deriving DecidableEq, Repr, Inhabited

/-- Why a search was aborted. -/
inductive AbortCause where
  | critical | off | listen | external
  deriving DecidableEq, Repr, Inhabited

/-- A taken result of a search step: the reading, and whether it stood at or above the working warn threshold of
its own result (R98). -/
structure Taken where
  reading : Reading
  passes : Bool
  deriving DecidableEq, Repr, Inhabited

/-- The search record (section 4.5) and the three timeouts of a step. -/
structure Search where
  outcome : SearchOutcome := .none
  origin : SearchOrigin := .fault
  cursor : Nat := 0
  /-- MODEL'S OWN: the entries the search ran over, which the marks name (R100, log 21). -/
  entries : List Nat := []
  marks : List Mark := []
  under : Option Nat := none
  phase : Option StepPhase := none
  /-- MODEL'S OWN: the ISOLATE transaction of the step has ended ACCEPT (R97). -/
  accepted : Bool := false
  discarded : Option Reading := none
  first : Option Taken := none
  second : Option Taken := none
  culprit : Option Nat := none
  abort : Option AbortCause := none
  confirmTimer : Option Nat := none
  deadlineTimer : Option Nat := none
  reconnectTimer : Option Nat := none
  deriving DecidableEq, Repr, Inhabited

/-- The factory search list (section 4.1). -/
def factorySearchList : List Nat := [4, 5, 6, 7, 8, 9, 10, 11, 1, 2, 3]

/-- The insulation monitor. -/
structure Insulation where
  st : MonState := .off
  params : IsoParams := {}
  profile : Profile := .p1
  working : Option Working := none
  last : Option IsoResult := none
  streaks : Streaks := {}
  assess : Assessment := .unknown
  source : AssessSource := .own
  dcContext : Bool := false
  dcClosed : Bool := false
  stationMon : Bool := false
  stationFault : Bool := false
  searchList : List Nat := factorySearchList
  search : Search := {}
  memory : List Nat := []
  /-- V_pack as the meter last posted it to the monitor (section 4.1). -/
  vPack : Option Nat := none
  /-- Start of the injection period in progress; none while no injection is made (R80). -/
  period : Option Nat := none
  /-- Start of the listen window and its foreign-presence mark (R91). -/
  listenTimer : Option Nat := none
  foreign : Bool := false
  deriving DecidableEq, Repr, Inhabited

/-! ## Meter (chapter 6) -/

/-- The live measurement record (section 6.1). -/
structure Live where
  v1 : Nat := 0
  v2 : Nat := 0
  v3 : Nat := 0
  i1 : Nat := 0
  i2 : Nat := 0
  i3 : Nat := 0
  p1 : Int := 0
  p2 : Int := 0
  p3 : Int := 0
  vDc : Nat := 0
  iDc : Int := 0
  packV : Option Nat := none
  iHv : Int := 0
  iHeat : Int := 0
  pGrid : Nat := 0
  pHeat : Nat := 0
  pPackNet : Int := 0
  running : Bool := false
  deriving DecidableEq, Repr, Inhabited

/-- The session channel (section 6.3). -/
structure Channel where
  isOpen : Bool := false
  grid : Nat := 0
  heatGrid : Nat := 0
  heatPack : Nat := 0
  packNet : Int := 0
  posSat : Bool := false
  negSat : Bool := false
  gridMark : Nat := 0
  heatMark : Nat := 0
  deriving DecidableEq, Repr, Inhabited

/-- The lifetime totals (R137). -/
structure Totals where
  grid : Nat := 0
  heatGrid : Nat := 0
  heatPack : Nat := 0
  deriving DecidableEq, Repr, Inhabited

/-- State of an area's last write (R140, R180). -/
inductive WriteState where
  | none | pending | done | failed
  deriving DecidableEq, Repr, Inhabited

/-- The heat channel a sample went to. -/
inductive HeatChannel where
  | heatGrid | heatPack
  deriving DecidableEq, Repr, Inhabited

/-- The meter. -/
structure Meter where
  live : Live := {}
  /-- When the last sample was taken, the origin of the sample age; none before the first one, with the age 0 (R128). -/
  sampleStamp : Option Nat := none
  period : Option Nat := none
  posted1 : Nat := 0
  posted2 : Nat := 0
  posted3 : Nat := 0
  postedPack : Option Nat := none
  resGrid : Nat := 0
  resHeatGrid : Nat := 0
  resHeatPack : Nat := 0
  resPackNet : Int := 0
  channel : Channel := {}
  totals : Totals := {}
  satGrid : Bool := false
  satHeatGrid : Bool := false
  satHeatPack : Bool := false
  totalsLost : Bool := false
  lastWrite : WriteState := .none
  mode : Option Mode := none
  /-- After reset HEAT_PACK: the manual names no channel before the first sample (log 21). -/
  lastChannel : HeatChannel := .heatPack
  deriving DecidableEq, Repr, Inhabited

/-! ## Billing unit (chapter 7) -/

/-- The clock (R142); `secondStamp` is its second phase. -/
structure Clock where
  day : Nat := 0
  minute : Nat := 0
  second : Nat := 0
  valid : Bool := false
  secondStamp : Nat := 0
  deriving DecidableEq, Repr, Inhabited

/-- A time as a record holds it. -/
structure Time where
  day : Nat
  minute : Nat
  second : Nat
  deriving DecidableEq, Repr, Inhabited

/-- One band of a tariff page; `price` in units of 10⁻⁴ per kWh, 0 to 999,999 (section 7.2). -/
structure Band where
  start : Nat := 0
  price : Nat := 0
  preferred : Bool := false
  deriving DecidableEq, Repr, Inhabited

/-- The factory page (section 7.2). -/
def factoryPage : List Band := [{}]

/-- The tariff area: both pages and the selector (R144). -/
structure TariffArea where
  page0 : List Band := factoryPage
  page1 : List Band := factoryPage
  selector : Bool := false
  deriving DecidableEq, Repr, Inhabited

/-- A segment of a record (R152); costs in 10⁻⁷ units. -/
structure Segment where
  page : Bool := false
  band : Nat := 0
  price : Nat := 0
  chargeWh : Nat := 0
  heatWh : Nat := 0
  chargeCost : Nat := 0
  heatCost : Nat := 0
  deriving DecidableEq, Repr, Inhabited

/-- The record flags, in the order of the flags word (R197). -/
structure RecFlags where
  clockUnset : Bool := false
  clockAdjusted : Bool := false
  heatClamped : Bool := false
  segmentsMerged : Bool := false
  costSaturated : Bool := false
  posSat : Bool := false
  negSat : Bool := false
  fromCheckpoint : Bool := false
  damaged : Bool := false
  nvFault : Bool := false
  deriving DecidableEq, Repr, Inhabited

/-- End cause of a record (section 7.5). -/
inductive EndCause where
  | stop (c : StopCause)
  | unexpectedReset
  deriving DecidableEq, Repr, Inhabited

/-- A billing record (section 7.5). -/
structure Record where
  number : Nat := 0
  mode : Mode := .ac
  ref : Option (List Byte) := none
  startTime : Option Time := none
  endTime : Option Time := none
  segments : List Segment := []
  grid : Nat := 0
  heatGrid : Nat := 0
  heatPack : Nat := 0
  packNet : Int := 0
  chargeCost : Nat := 0
  heatCost : Nat := 0
  chargeTotal : Nat := 0
  heatTotal : Nat := 0
  grandTotal : Nat := 0
  flags : RecFlags := {}
  endCause : Option EndCause := none
  /-- checkpoint part: unpriced amounts and the remainders as last checkpointed -/
  unpricedGrid : Nat := 0
  unpricedHeat : Nat := 0
  cpRemC : Nat := 0
  cpRemH : Nat := 0
  /-- current remainders rem_c and rem_h (section 7.4) -/
  remC : Nat := 0
  remH : Nat := 0
  /-- MODEL'S OWN: the contents were read from the torn copy with this index and are not known (R164, log 3). -/
  garbled : Option Nat := none
  deriving DecidableEq, Repr, Inhabited

/-- Slot states (section 7.5). -/
inductive SlotState where
  | free | opened | closed | collected
  deriving DecidableEq, Repr, Inhabited

/-- A slot image: its state, its record (default while FREE). -/
structure Slot where
  st : SlotState := .free
  record : Record := {}
  deriving DecidableEq, Repr, Inhabited

/-- The band cursor (R149). -/
structure Cursor where
  page : Bool := false
  band : Nat := 0
  deriving DecidableEq, Repr, Inhabited

/-- The billing unit. `slots` are the images of slots 1 to 24, `behind` marks their NV copies behind (R161). -/
structure Billing where
  clock : Clock := {}
  tariff : TariffArea := {}
  commitPending : Bool := false
  cursor : Cursor := {}
  slots : List Slot := List.replicate 24 {}
  behind : List Bool := List.replicate 24 false
  nextNumber : Nat := 1
  reservation : Option Nat := none
  lastClosed : Option Nat := none
  checkpoint : Option Nat := none
  rewrite : Option Nat := none
  deriving DecidableEq, Repr, Inhabited

/-! ## NV store (section 8.4) -/

/-- The parameters of one zone as the settings area holds them. -/
structure ZoneParams where
  enabled : Bool := true
  target : HalfDeg := 20
  hyst : Nat := 4
  deriving DecidableEq, Repr, Inhabited

/-- The settings area (R180); the defaults are the factory settings of the owning chapters. -/
structure Settings where
  table : List Point := factoryTable
  params : BudgetParams := {}
  policy : HeatPolicy := {}
  zones : List ZoneParams := List.replicate 8 {}
  iso : IsoParams := {}
  searchList : List Nat := factorySearchList
  roster : List NodeKind := factoryRoster
  deriving DecidableEq, Repr, Inhabited

/-- One of the two copies of an area (R177): erased, passing its check, or cut off or failed in writing (`k` names
the unknown content, log 3). -/
inductive Copy (α : Type) where
  | erased
  | good (seq : Nat) (content : α)
  | torn (seq k : Nat)
  deriving DecidableEq, Repr, Inhabited

/-- An area of the NV store as its two copies (R177). -/
structure Area (α : Type) where
  a : Copy α := .erased
  b : Copy α := .erased
  deriving DecidableEq, Repr, Inhabited

/-- The names of the 28 areas (section 8.4); slots are numbered 0 to 23 here, 1 to 24 in the manual. -/
inductive AreaName where
  | settings | tariff | slot (i : Nat) | totals | isoMemory
  deriving DecidableEq, Repr, Inhabited

/-- What a write hands to the store. -/
inductive NvContent where
  | settings (x : Settings)
  | tariff (x : TariffArea)
  | slot (i : Nat) (x : Slot)
  | totals (x : Totals)
  | isoMemory (x : List Nat)
  deriving DecidableEq, Repr, Inhabited

/-- A pending write with its class (R178), SUPPLY_LOSS or ORDINARY. -/
structure NvWrite where
  content : NvContent
  supplyLoss : Bool
  deriving DecidableEq, Repr, Inhabited

/-- A write in progress; `second` when it is the repeat after a verify mismatch (R179). -/
structure NvFlight where
  write : NvWrite
  second : Bool
  deriving DecidableEq, Repr, Inhabited

/-- The NV store. -/
structure Nv where
  settings : Area Settings := {}
  tariff : Area TariffArea := {}
  slots : List (Area Slot) := List.replicate 24 {}
  totals : Area Totals := {}
  isoMemory : Area (List Nat) := {}
  queue : List NvWrite := []
  inFlight : Option NvFlight := none
  /-- A failed first attempt held back behind the SUPPLY_LOSS writes in SUPPLY_HOLD (R178). -/
  deferred : Option NvFlight := none
  failSettings : Bool := false
  failTariff : Bool := false
  failTotals : Bool := false
  failIso : Bool := false
  deriving DecidableEq, Repr, Inhabited

/-! ## Host link port (chapter 9) -/

/-- The receive framer (R182): HUNT, or IN_FRAME with the bytes taken since SYNC. -/
inductive Framer where
  | hunt
  | inFrame (bytes : List Byte)
  deriving DecidableEq, Repr, Inhabited

/-- A request taken and not yet served. -/
structure Request where
  kind : Byte
  tag : Byte
  payload : List Byte
  deriving DecidableEq, Repr, Inhabited

/-- MODEL'S OWN: which replies the part waits to see sent (R168, R175). -/
inductive ReplyMark where
  | plain | sleepAck | resetAck
  deriving DecidableEq, Repr, Inhabited

/-- A reply formed and not yet sent; payload byte 0 is the status. -/
structure Reply where
  kind : Byte
  tag : Byte
  payload : List Byte
  mark : ReplyMark := .plain
  deriving DecidableEq, Repr, Inhabited

/-- The nine notice kinds (section 9.4). -/
inductive NoticeKind where
  | part | session | heat | departure | insulation | stage | record | tariff | link
  deriving DecidableEq, Repr, Inhabited

/-- The frame being sent. -/
structure TxFrame where
  kind : Byte
  tag : Byte
  payload : List Byte
  mark : ReplyMark := .plain
  /-- a notice, which no reset waits for (R193) -/
  notice : Bool := false
  deriving DecidableEq, Repr, Inhabited

/-- The link error record (R191). -/
structure LinkErrors where
  rxCheck : Bool := false
  rxTimeout : Bool := false
  rxLength : Bool := false
  queueFull : Bool := false
  unknownKind : Bool := false
  deriving DecidableEq, Repr, Inhabited

/-- The host link port. `on`: receiver and transmitter run (R192). -/
structure Link where
  framer : Framer := .hunt
  requests : List Request := []
  replies : List Reply := []
  notices : List NoticeKind := []
  tx : Option TxFrame := none
  errors : LinkErrors := {}
  on : Bool := true
  deriving DecidableEq, Repr, Inhabited

/-! ## Power-state controller (chapter 8) -/

/-- The four power states (R167), and the three conditions in which the part is in no power state: no supply,
held by the reset line (R173), and start-up under way (R176). -/
inductive PartState where
  | run | standby | sleep | supplyHold | startUp | heldInReset | off
  deriving DecidableEq, Repr, Inhabited

/-- Last wake source (R167). -/
inductive WakeSource where
  | none | hostFrame | wakeLine | plug | pilot | preheat
  deriving DecidableEq, Repr, Inhabited

/-- Reset kinds (section 8.3). -/
inductive ResetCause where
  | powerOn | supplyDip | resetLine | hostRequest
  deriving DecidableEq, Repr, Inhabited

/-- The start-up outcomes held for the report (R176); `false` is LOADED. -/
structure Outcomes where
  settingsDefaulted : Bool := true
  tariffDefaulted : Bool := true
  isoLost : Bool := true
  totalsLost : Bool := true
  damaged : Nat := 0
  recovered : Nat := 0
  deriving DecidableEq, Repr, Inhabited

/-- The power-state controller. -/
structure Power where
  part : PartState := .startUp
  /-- MODEL'S OWN: start-up has completed since the reset (R186). -/
  started : Bool := false
  lastWake : WakeSource := .none
  /-- A wake source held until an entry is complete (R169). -/
  heldWake : Option WakeSource := none
  hostReset : Bool := false
  /-- The reply to RESET has been transmitted (R175). -/
  resetAcked : Bool := false
  cause : ResetCause := .powerOn
  dwell : Option Nat := none
  /-- The dwell has expired and the SUPPLY_DIP start-up waits for the NV queue (R172). -/
  dipDue : Bool := false
  outcomes : Outcomes := {}
  settingsWrite : WriteState := .none
  deriving DecidableEq, Repr, Inhabited

/-! ## The whole part -/

/-- The state of the CD740. -/
structure State where
  session : Session := {}
  pins : Pins := {}
  budget : Budget := {}
  heating : Heating := {}
  iso : Insulation := {}
  stage : Stage := {}
  meter : Meter := { totalsLost := true }
  billing : Billing := {}
  nv : Nv := {}
  link : Link := {}
  power : Power := {}
  /-- Postings on their way to the budget input record, oldest first (R30). -/
  budgetIn : List BudgetPosting := []
  /-- Grants on their way to the heating controller, oldest first (R62). -/
  heatIn : List HeatPosting := []
  /-- Pack voltage postings on their way to the insulation monitor, oldest first (R78). -/
  isoIn : List (Option Nat) := []
  /-- MODEL'S OWN: milliseconds that have passed (log 1). -/
  now : Nat := 0
  /-- MODEL'S OWN: counter of the free values used so far (log 3). -/
  freeCount : Nat := 0
  /-- The commands waiting, first in, first out. -/
  pending : List Instr := []
  deriving DecidableEq, Repr, Inhabited

/-- The part at a POWER_ON reset with an erased NV store: start-up under way, steps 1 to 6 of R176 taken, every
field at its value after reset; `START_UP` completes it into RUN (log 2). -/
def State.reset : State := {}

/-- Why a step stops with a fault. No command of this part does: the manual gives every command an effect (safe). -/
inductive Fault where
  /-- Raised by nothing: the manual names no fault that stops the part. Safe. -/
  | noSuchFault
  deriving DecidableEq, Repr

/-- Why a command is refused by the model. -/
inductive Refusal where
  /-- Raised by `exec` for a command with no meaning yet; no arm does at present. Safe. -/
  | notModelled (mnemonic : String)
  deriving DecidableEq, Repr

end Sys2Proof.Machine
end

