-- ==== Sys2Proof/Machine/Operands.lean ====
section
/-! DEFINITION. Every operand form of the manual: how inputs are classed (section 10.4), how request fields are
decoded and clamped (R188, R194), how fields are put into bytes (section 10.1), and the two links' check sums. -/

namespace Sys2Proof.Machine

/-! ### Inlet inputs -/

/-- The proximity windows of R200; `none` is an open input. -/
def plugClassOf : Option Nat → PlugClass
  | none => .noPlug
  | some r =>
    if 3500 < r then .noPlug
    else if 1200 ≤ r ∧ r ≤ 1900 then .cable13
    else if 550 ≤ r ∧ r ≤ 900 then .cable20
    else if 180 ≤ r ∧ r ≤ 330 then .cable32
    else if 70 ≤ r ∧ r ≤ 130 then .cable63
    else .invalid

/-- The duty in per mille, floored (R200). -/
def dutyOf (highTime periodTime : Nat) : Nat := 1000 * highTime / periodTime

/-- The pilot windows of R200, with the duty held in OFFERING; `none` where the held class stands. -/
def pilotClassOf : PilotSignal → Option (PilotClass × Nat)
  | .level v =>
    if -20 ≤ v ∧ v ≤ 20 then some (.absent, 0)
    else if 40 < v then some (.steady, 0)
    else if v < -90 then some (.error, 0)
    else none
  | .pwm hz high ht pt =>
    if 900 ≤ hz ∧ hz ≤ 1100 ∧ 40 < high then some (.offering, dutyOf ht pt) else none

end Sys2Proof.Machine

namespace Sys2Proof

/-- Whether a class shows a plug; INVALID is treated as absent (section 1.1). -/
def PlugClass.present : PlugClass → Bool
  | .noPlug => false
  | .invalid => false
  | .cable13 => true
  | .cable20 => true
  | .cable32 => true
  | .cable63 => true

/-- The cable rating posted for each class, 0.1 A (section 1.1). -/
def PlugClass.rating : PlugClass → Nat
  | .noPlug => 130
  | .cable13 => 130
  | .cable20 => 200
  | .cable32 => 320
  | .cable63 => 630
  | .invalid => 130

end Sys2Proof

namespace Sys2Proof.Machine

/-- The offer table of R4. -/
def offerOfDuty (d : Nat) : Nat :=
  if d < 80 then 0
  else if d < 100 then 60
  else if d ≤ 850 then d * 6 / 10
  else if d ≤ 960 then (d - 640) * 25 / 10
  else 0

/-- The offer posted for a pilot class (R3): 0 in every class other than OFFERING. -/
def offerOf (c : PilotClass) (duty : Nat) : Nat := if c = .offering then offerOfDuty duty else 0

/-- A sensor reading outside −40.0 to +125.0 °C is a sensor fault (R200). -/
def sensorReading (t : Option HalfDeg) : Option HalfDeg := t.filter fun x => decide (-80 ≤ x ∧ x ≤ 250)

/-- The higher of the two present readings (R5). -/
def inletTemp : Option HalfDeg → Option HalfDeg → Option HalfDeg
  | some a, some b => some (max a b)
  | some a, none => some a
  | none, b => b

/-- The inlet derate in per mille (R5). -/
def inletDerate : Option HalfDeg → Nat
  | none => 0
  | some t => if t ≤ 140 then 1000 else if t < 180 then ((180 - t) * 1000 / 40).toNat else 0

/-- The overheated condition: above 95.0 °C (R5). -/
def overheated : Option HalfDeg → Bool
  | none => false
  | some t => decide (190 < t)

/-! ### Numbers -/

/-- A value clamped to a range (section Arithmetic). -/
def clampNat (lo hi v : Nat) : Nat := max lo (min hi v)

/-- A signed value clamped to a range. -/
def clampInt (lo hi v : Int) : Int := max lo (min hi v)

/-- The magnitude of the difference of two unsigned values. -/
def distance (a b : Nat) : Nat := (a - b) + (b - a)

/-- Ceiling division. -/
def ceilDiv (a b : Nat) : Nat := (a + b - 1) / b

/-! ### Codes of section 10.1 -/

def yesNo? : Nat → Option Bool
  | 0 => some false
  | 1 => some true
  | _ => none

def mode? : Nat → Option Mode
  | 0 => some .ac
  | 1 => some .dc
  | _ => none

def gridMode? : Nat → Option GridMode
  | 0 => some .off
  | 1 => some .preheatOnly
  | 2 => some .always
  | _ => none

def departMode? : Nat → Option DepartMode
  | 0 => some .oneShot
  | 1 => some .periodic
  | _ => none

def profMode? : Nat → Option ProfMode
  | 0 => some .auto
  | 1 => some .fixed
  | _ => none

def profile? : Nat → Option Profile
  | 0 => some .p0
  | 1 => some .p1
  | 2 => some .p2
  | 3 => some .p3
  | _ => none

def nodeKind? : Nat → Option NodeKind
  | 0 => some .none
  | 1 => some .charger
  | 2 => some .heater
  | _ => none

/-- The targets of SET_POWER_STATE. -/
def powerTarget? : Nat → Option PartState
  | 0 => some .run
  | 1 => some .standby
  | 2 => some .sleep
  | _ => none

/-- The value of a packed-decimal field of `n` digits, or nothing when a nibble is above 9 (R195). -/
def bcd? : Nat → Nat → Option Nat
  | 0, _ => some 0
  | n + 1, v =>
    match bcd? n (v / 16) with
    | none => none
    | some hi => if v % 16 ≤ 9 then some (10 * hi + v % 16) else none

/-! ### Bytes -/

/-- An unsigned quantity in `n` bytes, high byte first. -/
def be : Nat → Nat → List Byte
  | 0, _ => []
  | n + 1, v => BitVec.ofNat 8 (v / 256 ^ n) :: be n v

/-- A signed quantity in `n` bytes, two's complement, high byte first. -/
def beInt (n : Nat) (v : Int) : List Byte := be n (v % (256 ^ n : Nat)).toNat

/-- A packed-decimal quantity in `n` bytes, two digits to a byte, most significant first (R195). -/
def bcd : Nat → Nat → List Byte
  | 0, _ => []
  | n + 1, v => BitVec.ofNat 8 (v / 100 ^ n % 100 / 10 * 16 + v / 100 ^ n % 10) :: bcd n v

/-- The unsigned number that bytes, high byte first, spell. -/
def ofBe (l : List Byte) : Nat := l.foldl (fun acc b => acc * 256 + b.toNat) 0

/-- The signed number that two bytes spell. -/
def ofBeInt16 (l : List Byte) : Int := if ofBe l < 32768 then ofBe l else (ofBe l : Int) - 65536

/-- A flag or small code in one byte. -/
def byte (n : Nat) : Byte := BitVec.ofNat 8 n

/-- A presence or yes/no byte. -/
def flag (b : Bool) : Byte := if b then 1 else 0

/-- An optional quantity: its presence byte, then its value or zeros (R194, R198). -/
def optBytes (n : Nat) (x : Option Nat) : List Byte := flag x.isSome :: be n (x.getD 0)

/-- An optional signed quantity. -/
def optIntBytes (n : Nat) (x : Option Int) : List Byte := flag x.isSome :: beInt n (x.getD 0)

/-- An optional code. -/
def optCode (x : Option Nat) : List Byte := [flag x.isSome, byte (x.getD 0)]

/-! ### Check sums -/

/-- One step of an 8-bit ones' complement sum. -/
def add8 (a b : Nat) : Nat := if a + b < 256 then a + b else a + b - 255

/-- The ones' complement sum of the bytes of a stage link frame (R108). -/
def sum8 (l : List Byte) : Nat := l.foldl (fun acc b => add8 acc b.toNat) 0

/-- The check byte of a stage link frame (R108). -/
def check8 (l : List Byte) : Byte := byte (255 - sum8 l)

/-- A received stage link frame, check included, is good (R108). -/
def good8 (l : List Byte) : Bool := sum8 l == 255

/-- One step of a 16-bit ones' complement sum. -/
def add16 (a b : Nat) : Nat := if a + b < 65536 then a + b else a + b - 65535

/-- The ones' complement sum of bytes taken in pairs, first byte high; an odd last byte is a high byte (R183). -/
def sum16 : List Byte → Nat
  | [] => 0
  | [a] => a.toNat * 256
  | a :: b :: rest => add16 (a.toNat * 256 + b.toNat) (sum16 rest)

/-- The CHK field of a host link frame, over the bytes from LEN to the last payload byte (R183). -/
def chk16 (l : List Byte) : List Byte := be 2 (65535 - sum16 l)

/-- A received host frame is good: the sum of its words plus the received CHK is 0xFFFF (R183). -/
def good16 (l : List Byte) (chk : Nat) : Bool := add16 (sum16 l) chk == 65535

/-- The bytes of a host link frame with SYNC and CHK (section 10.2). -/
def hostFrame (kind tag : Byte) (payload : List Byte) : List Byte :=
  0xC3 :: (byte payload.length :: kind :: tag :: payload) ++ chk16 (byte payload.length :: kind :: tag :: payload)

/-- The command kind codes of section 10.3. -/
def StageCmd.code : StageCmd → Nat
  | .rollCall => 1
  | .setpoint => 2
  | .statusQuery => 3
  | .isolate => 4
  | .reconnect => 5

/-- The bytes of a stage link command frame with its check (section 10.3). -/
def stageFrame (addr code : Nat) (payload : List Byte) : List Byte :=
  let body := byte (addr * 16 + code) :: byte payload.length :: payload
  body ++ [check8 body]

/-- The SAFE_STOP broadcast frame: address 15, kind 6, no payload (section 10.3). -/
def safeStopFrame : List Byte := stageFrame 15 6 []

end Sys2Proof.Machine
end

