-- ==== Sys2Proof/Decode.lean ====
section
/-! DEFINITION. The decoding of a request frame's payload into a command (R194, R196). The opcode table gives no row
any bits, so a table word spells no command. -/

namespace Sys2Proof

open Machine

/-- The command that a word spells by the table's bits: none, since no row of the table has bits. -/
def decodeTableWord (_nbits _w : Nat) : Option Instr := none

/-- An unsigned field of a payload: `n` bytes from byte `i`. -/
def fieldAt (l : List Byte) (i n : Nat) : Nat := ofBe ((l.drop i).take n)

/-- A temperature field of a payload. -/
def temperatureAt (l : List Byte) (i : Nat) : Int := ofBeInt16 ((l.drop i).take 2)

/-- The points of SET_DERATE_TABLE, four bytes each. -/
def pointsOf (l : List Byte) : List (Int × Nat) :=
  (List.range (l.length / 4)).map fun i => (temperatureAt l (4 * i), fieldAt l (4 * i + 2) 2)

/-- The band entries of TARIFF_WRITE, six bytes each. -/
def bandsOf (l : List Byte) : List BandEntry :=
  (List.range (l.length / 6)).map fun i =>
    { start := fieldAt l (6 * i) 2, price := fieldAt l (6 * i + 2) 3, preferred := fieldAt l (6 * i + 5) 1 }

/-- R196: the payload length a request code calls for, given the payload (for the count it carries); `none` for a
code outside the catalogue. -/
def payloadLength (kind : Nat) (p : List Byte) : Option Nat :=
  match kind with
  | 0x04 => some 1
  | 0x10 => some (4 + fieldAt p 3 1)
  | 0x17 => some 9
  | 0x20 => some 6
  | 0x21 => some 32
  | 0x22 => some 6
  | 0x23 => some 1
  | 0x30 => some 5
  | 0x31 => some 3
  | 0x32 => some 4
  | 0x33 => some 1
  | 0x40 => some 9
  | 0x41 => some (1 + fieldAt p 0 1)
  | 0x42 => some 1
  | 0x43 => some 1
  | 0x50 => some 11
  | 0x52 => some 1
  | 0x60 => some 1
  | 0x70 => some 5
  | 0x71 => some (2 + 6 * fieldAt p 1 1)
  | 0x72 => some 1
  | 0x75 => some 6
  | 0x76 => some 4
  | 0x01 => some 0
  | 0x02 => some 0
  | 0x03 => some 0
  | 0x05 => some 0
  | 0x06 => some 0
  | 0x11 => some 0
  | 0x12 => some 0
  | 0x13 => some 0
  | 0x14 => some 0
  | 0x15 => some 0
  | 0x16 => some 0
  | 0x18 => some 0
  | 0x19 => some 0
  | 0x44 => some 0
  | 0x51 => some 0
  | 0x53 => some 0
  | 0x61 => some 0
  | 0x73 => some 0
  | 0x74 => some 0
  | 0x77 => some 0
  | _ => none

/-- R196: the fields of a request whose length is admitted, in the order of the table. -/
def requestOf (kind : Nat) (tag : Byte) (p : List Byte) : Instr :=
  match kind with
  | 0x01 => .identify tag
  | 0x02 => .partStatus tag
  | 0x03 => .reset tag
  | 0x04 => .setPowerState tag (fieldAt p 0 1)
  | 0x05 => .saveSettings tag
  | 0x06 => .readLinkErrors tag
  | 0x10 => .authorise tag (fieldAt p 0 1) (fieldAt p 1 1) (fieldAt p 2 1) (p.drop 4)
  | 0x11 => .deny tag
  | 0x12 => .pause tag
  | 0x13 => .resume tag
  | 0x14 => .stop tag
  | 0x15 => .restart tag
  | 0x16 => .clearFault tag
  | 0x17 => .dcStation tag (fieldAt p 0 2) (fieldAt p 2 2) (fieldAt p 4 4) (fieldAt p 8 1)
  | 0x18 => .dcConnect tag
  | 0x19 => .sessionStatus tag
  | 0x20 => .setPackLimits tag (fieldAt p 0 2) (fieldAt p 2 2) (fieldAt p 4 2)
  | 0x21 => .setDerateTable tag (pointsOf p)
  | 0x22 => .setBudgetParams tag (fieldAt p 0 2) (fieldAt p 2 2) (fieldAt p 4 2)
  | 0x23 => .budgetStatus tag (fieldAt p 0 1)
  | 0x30 => .setZone tag (fieldAt p 0 1) (fieldAt p 1 1) (temperatureAt p 2) (fieldAt p 4 1)
  | 0x31 => .setHeatPolicy tag (fieldAt p 0 1) (fieldAt p 1 1) (fieldAt p 2 1)
  | 0x32 => .setDeparture tag (fieldAt p 0 2) (fieldAt p 2 1) (fieldAt p 3 1)
  | 0x33 => .heatStatus tag (fieldAt p 0 1)
  | 0x40 =>
    .setIsoParams tag (fieldAt p 0 1) (fieldAt p 1 1) (fieldAt p 2 1) (fieldAt p 3 2) (fieldAt p 5 2) (fieldAt p 7 2)
  | 0x41 => .setSearchList tag ((p.drop 1).map BitVec.toNat)
  | 0x42 => .isoStatus tag (fieldAt p 0 1)
  | 0x43 => .clearIsolation tag (fieldAt p 0 1)
  | 0x44 => .startSearch tag
  | 0x50 => .setRoster tag (p.map BitVec.toNat)
  | 0x51 => .rollCall tag
  | 0x52 => .rosterStatus tag (fieldAt p 0 1)
  | 0x53 => .readStageErrors tag
  | 0x60 => .meterStatus tag (fieldAt p 0 1)
  | 0x61 => .readTotals tag
  | 0x70 => .setClock tag (fieldAt p 0 2) (fieldAt p 2 2) (fieldAt p 4 1)
  | 0x71 => .tariffWrite tag (fieldAt p 0 1) (bandsOf (p.drop 2))
  | 0x72 => .tariffRead tag (fieldAt p 0 1)
  | 0x73 => .tariffCommit tag
  | 0x74 => .tariffCancel tag
  | 0x75 => .readRecord tag (fieldAt p 0 4) (fieldAt p 4 1) (fieldAt p 5 1)
  | 0x76 => .releaseRecord tag (fieldAt p 0 4)
  | 0x77 => .logStatus tag
  | _ => .unknownKind tag (BitVec.ofNat 8 kind)

/-- What the port makes of a request frame before its owner sees it (R186 steps 1 and 2). -/
inductive Parsed where
  | unknown
  | badLength
  | request (i : Instr)
  deriving DecidableEq, Repr, Inhabited

/-- R186: KIND first, then LEN, then the fields. -/
def parseRequest (kind tag : Byte) (p : List Byte) : Parsed :=
  match payloadLength kind.toNat p with
  | none => .unknown
  | some n => if p.length = n then .request (requestOf kind.toNat tag p) else .badLength

end Sys2Proof
end

