-- ==== Sys2Proof/Machine/Flags.lean ====
section
/-! DEFINITION. The flag groups and enumerations of the manual as bits and codes (R187, R197, R198), and the set
operations on the pause-cause set (section 1.5) and the error records. -/

namespace Sys2Proof.Machine

/-- Bits as a number, bit 0 first. -/
def packBits : List Bool → Nat
  | [] => 0
  | b :: bs => b.toNat + 2 * packBits bs

/-- A group of flags, one bit per member from bit 0 of the first byte, in as few bytes as hold them (R198). -/
def flagBytes (l : List Bool) : List Byte :=
  (List.range ((l.length + 7) / 8)).map fun i => byte (packBits l / 256 ^ i)

/-! ### Pause-cause set -/

def PauseSet.isEmpty (p : PauseSet) : Bool :=
  !p.noOffer && !p.hostPause && !p.searchHold && !p.nothingToDo && !p.noStages

def PauseSet.bits (p : PauseSet) : List Bool := [p.noOffer, p.hostPause, p.searchHold, p.nothingToDo, p.noStages]

/-- R17: the load is engaged in PAUSED while neither HOST_PAUSE nor NOTHING_TO_DO is in the set. -/
def PauseSet.keepsLoad (p : PauseSet) : Bool := !p.hostPause && !p.nothingToDo

/-! ### Error records -/

/-- In the order of R191, whose listing R198 follows. -/
def LinkErrors.bits (e : LinkErrors) : List Bool := [e.rxCheck, e.rxTimeout, e.rxLength, e.queueFull, e.unknownKind]

def StageErrors.bits (e : StageErrors) : List Bool := [e.sendCheck, e.noResponse, e.rejected, e.rxCheck, e.lostEvent]

/-- The flags word of a record (R197), bit 0 first. -/
def RecFlags.bits (f : RecFlags) : List Bool :=
  [f.clockUnset, f.clockAdjusted, f.heatClamped, f.segmentsMerged, f.costSaturated, f.posSat, f.negSat,
   f.fromCheckpoint, f.damaged, f.nvFault]

/-- The flags word as two bytes, high byte first (R197). -/
def RecFlags.word (f : RecFlags) : List Byte := be 2 (packBits f.bits)

/-! ### Codes: from 0 in the order of listing, unless section 10.1 or R197 says otherwise (R198) -/

def SessState.code : SessState → Nat
  | .idle => 0 | .connected => 1 | .locking => 2 | .authorising => 3 | .energising => 4 | .active => 5
  | .paused => 6 | .stopping => 7 | .unlocking => 8 | .finished => 9 | .faulted => 10

def Mode.code : Mode → Nat
  | .ac => 0 | .dc => 1

def LockState.code : LockState → Nat
  | .notEngaged => 0 | .lockTravel => 1 | .engaged => 2 | .unlockTravel => 3

def KState.code : KState → Nat
  | .opened => 0 | .closing => 1 | .closed => 2 | .opening => 3

/-- R197: HOST_STOP is 1 through HOST_RESET 11. -/
def StopCause.code : StopCause → Nat
  | .hostStop => 1 | .stationFault => 2 | .cableLost => 3 | .inletOverheat => 4 | .isoFault => 5
  | .isoCritical => 6 | .isoExternal => 7 | .stationTimeout => 8 | .contactor => 9 | .supplyLoss => 10
  | .hostReset => 11

/-- R197: UNEXPECTED_RESET is 12. -/
def EndCause.code : EndCause → Nat
  | .stop c => c.code
  | .unexpectedReset => 12

/-- The four emergencies of section 1.6. -/
def StopCause.emergency : StopCause → Bool
  | .cableLost => true
  | .isoCritical => true
  | .contactor => true
  | .supplyLoss => true
  | .hostStop => false
  | .stationFault => false
  | .inletOverheat => false
  | .isoFault => false
  | .isoExternal => false
  | .stationTimeout => false
  | .hostReset => false

def FaultKind.code : FaultKind → Nat
  | .lockFail => 0 | .lockStuck => 1 | .contactor => 2

end Sys2Proof.Machine

namespace Sys2Proof

def PlugClass.code : PlugClass → Nat
  | .noPlug => 0 | .cable13 => 1 | .cable20 => 2 | .cable32 => 3 | .cable63 => 4 | .invalid => 5

def PilotClass.code : PilotClass → Nat
  | .absent => 0 | .steady => 1 | .offering => 2 | .error => 3

end Sys2Proof

namespace Sys2Proof.Machine

def GridMode.code : GridMode → Nat
  | .off => 0 | .preheatOnly => 1 | .always => 2

def DepartMode.code : DepartMode → Nat
  | .oneShot => 0 | .periodic => 1

def StationState.code : StationState → Nat
  | .absent => 0 | .fresh => 1 | .stale => 2

def PackSource.code : PackSource → Nat
  | .meter => 0 | .limits => 1

def HeatSource.code : HeatSource → Nat
  | .grid => 0 | .pack => 1 | .none => 2

/-- DESIGN CHOICE (log 11): the heat states are coded in the order of the field row of section 3.1, not of the table of
section 3.2 (R198). -/
def HeatState.code : HeatState → Nat
  | .disabled => 0 | .idle => 1 | .waiting => 2 | .heating => 3 | .isolated => 4 | .failed => 5

def Isolation.code : Isolation → Nat
  | .none => 0 | .requested => 1 | .confirmed => 2

def NodeKind.code : NodeKind → Nat
  | .none => 0 | .charger => 1 | .heater => 2

def NodeState.code : NodeState → Nat
  | .absent => 0 | .missing => 1 | .active => 2 | .lost => 3 | .mismatch => 4

def MonState.code : MonState → Nat
  | .off => 0 | .listening => 1 | .measuring => 2 | .yielded => 3 | .searching => 4

def Profile.code : Profile → Nat
  | .p0 => 0 | .p1 => 1 | .p2 => 2 | .p3 => 3

def ProfMode.code : ProfMode → Nat
  | .auto => 0 | .fixed => 1

def Assessment.code : Assessment → Nat
  | .unknown => 0 | .good => 1 | .warning => 2 | .fault => 3 | .critical => 4

def AssessSource.code : AssessSource → Nat
  | .own => 0 | .external => 1

def SearchOutcome.code : SearchOutcome → Nat
  | .none => 0 | .running => 1 | .found => 2 | .notFound => 3 | .aborted => 4

def SearchOrigin.code : SearchOrigin → Nat
  | .fault => 0 | .host => 1

def Mark.code : Mark → Nat
  | .pending => 0 | .skipped => 1 | .cleared => 2 | .culprit => 3

def StepPhase.code : StepPhase → Nat
  | .setpointWait => 0 | .isolateWait => 1 | .results => 2 | .reconnectWait => 3

def AbortCause.code : AbortCause → Nat
  | .critical => 0 | .off => 1 | .listen => 2 | .external => 3

def WriteState.code : WriteState → Nat
  | .none => 0 | .pending => 1 | .done => 2 | .failed => 3

def HeatChannel.code : HeatChannel → Nat
  | .heatGrid => 0 | .heatPack => 1

def SlotState.code : SlotState → Nat
  | .free => 0 | .opened => 1 | .closed => 2 | .collected => 3

/-- RUN, STANDBY, SLEEP, SUPPLY_HOLD from 0; a part in no power state sends no status. -/
def PartState.code : PartState → Nat
  | .run => 0 | .standby => 1 | .sleep => 2 | .supplyHold => 3 | .startUp => 0 | .heldInReset => 0 | .off => 0

def WakeSource.code : WakeSource → Nat
  | .none => 0 | .hostFrame => 1 | .wakeLine => 2 | .plug => 3 | .pilot => 4 | .preheat => 5

/-- R197. -/
def ResetCause.code : ResetCause → Nat
  | .powerOn => 0 | .supplyDip => 1 | .resetLine => 2 | .hostRequest => 3

/-- The area numbers in the order of the table of section 8.4. -/
def AreaName.code : AreaName → Nat
  | .settings => 0
  | .tariff => 1
  | .slot i => 2 + i
  | .totals => 26
  | .isoMemory => 27

/-- The notice KINDs of section 9.4. -/
def NoticeKind.code : NoticeKind → Nat
  | .part => 0xE0 | .session => 0xE1 | .heat => 0xE2 | .departure => 0xE3 | .insulation => 0xE4
  | .stage => 0xE5 | .record => 0xE6 | .tariff => 0xE7 | .link => 0xE8

/-- The reply statuses of R187. -/
inductive Status where
  | ok | busy | unknownKind | badLength | badValue | badTable | badDecimal | state | protectedPage | logFull | notFound
  deriving DecidableEq, Repr, Inhabited

def Status.code : Status → Nat
  | .ok => 0 | .busy => 1 | .unknownKind => 2 | .badLength => 3 | .badValue => 4 | .badTable => 5
  | .badDecimal => 6 | .state => 7 | .protectedPage => 8 | .logFull => 9 | .notFound => 10

end Sys2Proof.Machine
end

