-- ==== Sys2Proof/Machine/Ops.lean ====
section
/-! DEFINITION. The operations every block shares: changing one block's state, raising a notice, posting between
blocks, the node table and its two queues, and queuing a write to the NV store. -/

namespace Sys2Proof.Machine

/-- What a command answers. -/
abbrev Result := Host.Outcome State Fault Refusal

/-- The area a content is written to. -/
def NvContent.area : NvContent → AreaName
  | .settings _ => .settings
  | .tariff _ => .tariff
  | .slot i _ => .slot i
  | .totals _ => .totals
  | .isoMemory _ => .isoMemory

/-- R123: the two setpoints call for a SETPOINT: none acknowledged, 50 W apart or more, or exactly one of them 0. -/
def setpointDiffers (acked : Option Nat) (commanded : Nat) : Bool :=
  match acked with
  | none => true
  | some a => decide (50 ≤ distance a commanded) || (a == 0) != (commanded == 0)

namespace State

/-! ### One block at a time -/

def onSession (s : State) (f : Session → Session) : State := { s with session := f s.session }
def onPins (s : State) (f : Pins → Pins) : State := { s with pins := f s.pins }
def onBudget (s : State) (f : Budget → Budget) : State := { s with budget := f s.budget }
def onHeating (s : State) (f : Heating → Heating) : State := { s with heating := f s.heating }
def onIso (s : State) (f : Insulation → Insulation) : State := { s with iso := f s.iso }
def onStage (s : State) (f : Stage → Stage) : State := { s with stage := f s.stage }
def onMeter (s : State) (f : Meter → Meter) : State := { s with meter := f s.meter }
def onBilling (s : State) (f : Billing → Billing) : State := { s with billing := f s.billing }
def onNv (s : State) (f : Nv → Nv) : State := { s with nv := f s.nv }
def onLink (s : State) (f : Link → Link) : State := { s with link := f s.link }
def onPower (s : State) (f : Power → Power) : State := { s with power := f s.power }

/-- Do `f` only if the condition holds. -/
def doIf (s : State) (c : Bool) (f : State → State) : State := if c then f s else s

/-- Whether the part is in RUN, where every block runs (section 8.1). -/
def inRun (s : State) : Bool := s.power.part == .run

/-- An event acts in RUN alone: outside it its block, and so its period, does not run (section 8.1, log 5). -/
def whenRun (s : State) (f : State → State) : State := s.doIf s.inRun f

/-- Milliseconds since a stamp. -/
def since (s : State) (stamp : Nat) : Nat := s.now - stamp

/-! ### Notices and postings -/

/-- R190: a raise adds the kind at the tail, or is absorbed when the kind is queued. -/
def raise (s : State) (k : NoticeKind) : State :=
  s.onLink fun l => if k ∈ l.notices then l else { l with notices := l.notices ++ [k] }

/-- R30: a posting goes on its way to the budget input record. -/
def postBudget (s : State) (p : BudgetPosting) : State := { s with budgetIn := s.budgetIn ++ [p] }

/-- R41, R62: a grant and an allowance go on their way to the heating controller. -/
def postHeat (s : State) (p : HeatPosting) : State := { s with heatIn := s.heatIn ++ [p] }

/-- R78, R129: a pack voltage goes on its way to the insulation monitor. -/
def postIso (s : State) (v : Option Nat) : State := { s with isoIn := s.isoIn ++ [v] }

/-! ### The node table (section 5.2) -/

/-- The row of address `addr`, 1 to 11. -/
def node (s : State) (addr : Nat) : Node :=
  match addr with
  | 0 => {}
  | i + 1 => s.stage.nodes.getD i {}

/-- Change the row of address `addr`. -/
def onNode (s : State) (addr : Nat) (f : Node → Node) : State :=
  match addr with
  | 0 => s
  | i + 1 => s.onStage fun g => { g with nodes := g.nodes.modify i f }

/-- R117: a kind already standing for the node is absorbed; otherwise the entry goes to the tail. -/
def queueNormal (s : State) (cmd : StageCmd) (addr : Nat) : State :=
  s.onStage fun g =>
    if (⟨cmd, addr⟩ : StageEntry) ∈ g.normal then g else { g with normal := g.normal ++ [⟨cmd, addr⟩] }

/-- R116: a node's standing entry takes the newer command in place, otherwise the entry goes to the tail; a
command for a node that is not ACTIVE is not added. -/
def queueUrgent (s : State) (cmd : StageCmd) (addr : Nat) : State :=
  if (s.node addr).st = .active then
    s.onStage fun g =>
      if g.urgent.any fun e => e.addr == addr then
        { g with urgent := g.urgent.map fun e => if e.addr = addr then ⟨cmd, addr⟩ else e }
      else { g with urgent := g.urgent ++ [⟨cmd, addr⟩] }
  else s


/-- R123: the comparison of commanded and acknowledged setpoint that queues SETPOINT for an ACTIVE node. -/
def compareSetpoint (s : State) (addr : Nat) : State :=
  s.doIf ((s.node addr).st == .active && setpointDiffers (s.node addr).acked (s.node addr).commanded)
    fun s => s.queueNormal .setpoint addr

/-- R122: a write of a commanded setpoint by its owner, held as 0 while the isolated flag is set, and compared. -/
def writeSetpoint (s : State) (addr watts : Nat) : State :=
  (s.onNode addr fun n => { n with commanded := if n.isolated then 0 else watts }).compareSetpoint addr

/-- R36: a charger row is eligible when its node is ACTIVE, expected a CHARGER and not isolated. -/
def chargerRow (s : State) (addr : Nat) : ChargerRow :=
  { eligible := (s.node addr).st == .active && (s.node addr).expected == .charger && !(s.node addr).isolated
    headroom := (s.node addr).headroom }

/-- R36: post the charger row of an address, if it is a charger address. -/
def postCharger (s : State) (addr : Nat) : State :=
  s.doIf (decide (1 ≤ addr ∧ addr ≤ 3)) fun s => s.postBudget (.chargerRow addr (s.chargerRow addr))

/-! ### The zone table (section 3.1) -/

/-- The row of zone `n`, 1 to 8. -/
def zone (s : State) (n : Nat) : Zone :=
  match n with
  | 0 => {}
  | i + 1 => s.heating.zones.getD i {}

/-! ### The NV store's queue (R178) -/

/-- Queue a write: it replaces the content pending for its area, keeping the place, SUPPLY_LOSS if either was;
otherwise it goes to the tail. DEDUCED (log 10), the model's choice: R178's place is kept on the supply-loss path too, so a
totals write already pending from a checkpoint becomes SUPPLY_LOSS where it stands and is written before a closing slot queued
behind it, though R160 has the slot taken before all others with the totals following. The owner of the settings holds its
write PENDING; so does the owner of the totals, unless the last write FAILED and no later one has succeeded (R137). -/
def queueNv (s : State) (c : NvContent) (supplyLoss : Bool) : State :=
  let q := s.nv.queue
  let s := s.onNv fun v =>
    { v with queue :=
        if q.any fun w => w.content.area == c.area then
          q.map fun w => if w.content.area = c.area then ⟨c, w.supplyLoss || supplyLoss⟩ else w
        else q ++ [⟨c, supplyLoss⟩] }
  match c with
  | .settings _ => s.onPower fun p => { p with settingsWrite := .pending }
  | .totals _ => s.onMeter fun m => { m with lastWrite := if m.lastWrite = .failed then .failed else .pending }
  | .tariff _ => s
  | .slot _ _ => s
  | .isoMemory _ => s

/-- The NV queue is empty: nothing pending, in progress or held back (R172, R175). -/
def nvIdle (s : State) : Bool := s.nv.queue.isEmpty && s.nv.inFlight.isNone && s.nv.deferred.isNone

/-! ### Replies (R186, R187) -/

/-- A reply's KIND: the request's plus 0x80, and 0xFF for a request KIND of 0x80 or above (R187). -/
def replyKind (kind : Byte) : Byte := if kind.toNat < 0x80 then kind + 0x80 else 0xFF

/-- Place a reply at the tail of the reply queue. -/
def placeReply (s : State) (kind tag : Byte) (payload : List Byte) (mark : ReplyMark) : State :=
  s.onLink fun l => { l with replies := l.replies ++ [⟨replyKind kind, tag, payload, mark⟩] }

/-- Set one flag of the link error record; a change from clear to set raises a LINK notice (R191). -/
def linkError (s : State) (isSet : LinkErrors → Bool) (set : LinkErrors → LinkErrors) : State :=
  if isSet s.link.errors then s else (s.onLink fun l => { l with errors := set l.errors }).raise .link

end State

/-! ### Answers of the owning blocks (R187) -/

/-- What an owner answers a request: a status, the bytes that follow it when OK, and whether the part waits for
the reply to be sent. -/
structure Answer where
  status : Status
  body : List Byte
  mark : ReplyMark
  deriving DecidableEq, Repr, Inhabited

/-- The payload of a reply: the status byte, and nothing more unless it is OK (R187). -/
def Answer.payload (a : Answer) : List Byte := byte a.status.code :: if a.status = .ok then a.body else []

/-- An owner's outcome: the state after, and the answer. -/
abbrev Served := State × Answer

/-- OK with contents. -/
def okWith (s : State) (body : List Byte) : Served := (s, ⟨.ok, body, .plain⟩)

/-- A refusal: the state as it was. -/
def refuse (s : State) (st : Status) : Served := (s, ⟨st, [], .plain⟩)

end Sys2Proof.Machine
end

