-- ==== Sys2Proof/Machine/BillingOps.lean ====
section
/-! DEFINITION. The shared operations of the meter's session channel (sections 6.3, 6.4), the tariff pages and band
cursor (7.2, 7.3), pricing (7.4) and the record log (7.5). -/

namespace Sys2Proof.Machine

/-! ### Tariff pages (section 7.2) -/

/-- The bands of a page. -/
def TariffArea.page (t : TariffArea) (p : Bool) : List Band := if p then t.page1 else t.page0

/-- R149: the band of a page that contains a minute of day: the last of the leading bands that have started. -/
def bandAt (bands : List Band) (minute : Nat) : Nat :=
  (bands.takeWhile fun b => decide (b.start ≤ minute)).length - 1

/-- The band a cursor names. -/
def TariffArea.bandOf (t : TariffArea) (c : Cursor) : Band := (t.page c.page).getD c.band {}

/-- R146: band 0 starts at minute 0 and each later band after the one before it. -/
def pageValid : List Band → Bool
  | [] => false
  | b :: bs => b.start == 0 && ((b :: bs).zip bs).all fun p => decide (p.1.start < p.2.start)

/-- R144: the active page is PROTECTED; the standby page is WRITABLE exactly when no commit is pending. -/
def Billing.writable (b : Billing) (page : Bool) : Bool := page != b.tariff.selector && !b.commitPending

/-- R149: where the cursor stands on the active page by the clock. -/
def Billing.located (b : Billing) : Cursor :=
  { page := b.tariff.selector
    band := if b.clock.valid then bandAt (b.tariff.page b.tariff.selector) b.clock.minute else 0 }

/-! ### Pricing (section 7.4) -/

/-- The limit of a cost, 12 decimal digits (R153). -/
def costLimit : Nat := 999999999999

/-- A cost sum held at the limit (R153). -/
def satCost (a b : Nat) : Nat := min costLimit (a + b)

/-- Change the last segment of a list. -/
def modifyLast (f : Segment → Segment) : List Segment → List Segment
  | [] => []
  | [x] => [f x]
  | x :: y :: r => x :: modifyLast f (y :: r)

/-- R152: the segment that takes the energy of a pricing (page, band) becomes the last one. An empty last segment takes
the price with the pair, the pair being equal or not: a segment holds the price as the band held it when the segment took
energy, and R153's law of costs rests on it (log 21). -/
def Record.chooseSegment (r : Record) (c : Cursor) (price : Nat) : Record :=
  match r.segments.getLast? with
  | none => r
  | some l =>
    if l.chargeWh = 0 ∧ l.heatWh = 0 then
      { r with segments := modifyLast (fun x => { x with page := c.page, band := c.band, price := price }) r.segments }
    else if l.page = c.page ∧ l.band = c.band then r
    else if r.segments.length < 12 then
      { r with segments := r.segments ++ [{ page := c.page, band := c.band, price := price }] }
    else
      { r with
        segments := modifyLast (fun x => { x with page := c.page, band := c.band, price := price }) r.segments
        flags := { r.flags with segmentsMerged := true } }

/-- Whether one of the four sums of a pricing passes the limit (R153). -/
def Record.saturates (r : Record) (whC whH price : Nat) : Bool :=
  let l := r.segments.getLast?.getD {}
  decide (costLimit < l.chargeCost + whC * price) || decide (costLimit < l.heatCost + whH * price)
    || decide (costLimit < r.chargeCost + whC * price) || decide (costLimit < r.heatCost + whH * price)

/-- R153: the last segment and the record gain watt-hours and their costs at a price, each sum saturating. -/
def Record.addEnergy (r : Record) (whC whH price : Nat) : Record :=
  { r with
    segments := modifyLast (fun x =>
      { x with
        chargeWh := x.chargeWh + whC
        heatWh := x.heatWh + whH
        chargeCost := satCost x.chargeCost (whC * price)
        heatCost := satCost x.heatCost (whH * price) }) r.segments
    chargeCost := satCost r.chargeCost (whC * price)
    heatCost := satCost r.heatCost (whH * price)
    flags := { r.flags with costSaturated := r.flags.costSaturated || r.saturates whC whH price } }

/-- R151 to R153: one pricing point's grid and heat deltas under a (page, band) at a price. -/
def Record.pricePoint (r : Record) (c : Cursor) (price dGrid dHeat : Nat) : Record :=
  let heat := min dHeat dGrid
  let poolC := r.remC + (dGrid - heat)
  let poolH := r.remH + heat
  let r := { r with
    remC := poolC % 1000
    remH := poolH % 1000
    flags := { r.flags with heatClamped := r.flags.heatClamped || decide (dGrid < dHeat) } }
  if poolC / 1000 = 0 ∧ poolH / 1000 = 0 then r
  else (r.chooseSegment c price).addEnergy (poolC / 1000) (poolH / 1000) price

/-- R154: a cost rounded half-up to 0.01 and reported within seven digits. -/
def roundedTotal (cost : Nat) : Nat := min 9999999 ((cost + 50000) / 100000)

/-- R154: the watt-hour a remainder rounds to. -/
def remainderWh (rem : Nat) : Nat := if 500 ≤ rem then 1 else 0

/-- R154: settle the remainders at the last segment's price and form the rounded totals. -/
def Record.settle (r : Record) : Record :=
  let price := (r.segments.getLast?.getD {}).price
  let r := { r.addEnergy (remainderWh r.remC) (remainderWh r.remH) price with remC := 0, remH := 0 }
  { r with
    chargeTotal := roundedTotal r.chargeCost
    heatTotal := roundedTotal r.heatCost
    grandTotal := roundedTotal (r.chargeCost + r.heatCost) }

/-! ### The record log (section 7.5) -/

/-- The slot that holds the OPEN record, if any. -/
def Billing.openSlot (b : Billing) : Option Nat := b.slots.findIdx? fun x => x.st == .opened

/-- A slot's image. -/
def Billing.slot (b : Billing) (i : Nat) : Slot := b.slots.getD i {}

/-- R155: a number is left to issue. -/
def Billing.numberLeft (b : Billing) : Bool := decide (b.nextNumber ≤ 4294967295)

/-- The COLLECTED slot with the lowest record number, among slots counted from `i`. -/
def lowestCollected : List Slot → Nat → Option (Nat × Nat)
  | [], _ => none
  | x :: rest, i =>
    match lowestCollected rest (i + 1) with
    | none => if x.st = .collected then some (i, x.record.number) else none
    | some (j, n) => if x.st = .collected ∧ x.record.number < n then some (i, x.record.number) else some (j, n)

/-- R156: the slot the billing unit offers for a new record. -/
def Billing.offer (b : Billing) : Option Nat :=
  if b.numberLeft then
    match b.slots.findIdx? fun x => x.st == .free with
    | some i => some i
    | none => (lowestCollected b.slots 0).map Prod.fst
  else none

/-- The clock's time, absent while it is invalid (R142). -/
def Clock.time? (c : Clock) : Option Time := if c.valid then some ⟨c.day, c.minute, c.second⟩ else none

/-- The slot that holds a record number, FREE slots apart (R162). -/
def Billing.findNumber (b : Billing) (n : Nat) : Option Nat :=
  b.slots.findIdx? fun x => x.st != .free && x.record.number == n

/-- R159 step 4: the meter's figures and flags, the end time and cause, the checkpoint part cleared. -/
def Record.closed (r : Record) (d : Channel) (endTime : Option Time) (cause : EndCause) : Record :=
  { r with
    grid := d.grid, heatGrid := d.heatGrid, heatPack := d.heatPack, packNet := d.packNet
    flags := { r.flags with posSat := d.posSat, negSat := d.negSat }
    unpricedGrid := 0, unpricedHeat := 0, cpRemC := 0, cpRemH := 0
    endTime := endTime, endCause := some cause }

/-- R165: a record left OPEN, closed from its checkpoint at start-up. -/
def Record.recovered (r : Record) (endTime : Option Time) : Record :=
  let l := r.segments.getLast?.getD {}
  let r := { r with remC := r.cpRemC, remH := r.cpRemH }
  let r := (r.pricePoint ⟨l.page, l.band⟩ l.price r.unpricedGrid r.unpricedHeat).settle
  { r with
    unpricedGrid := 0, unpricedHeat := 0, cpRemC := 0, cpRemH := 0
    endTime := endTime, endCause := some .unexpectedReset
    flags := { r.flags with fromCheckpoint := true } }

/-- R136: the grid delta since the last pricing point; 0 of a closed channel. -/
def Channel.gridDelta (d : Channel) : Nat := if d.isOpen then d.grid - d.gridMark else 0

/-- R136: the heat delta since the last pricing point; 0 of a closed channel. -/
def Channel.heatDelta (d : Channel) : Nat := if d.isOpen then d.heatGrid - d.heatMark else 0

namespace State

/-- Change a slot's image. -/
def onSlot (s : State) (i : Nat) (f : Slot → Slot) : State :=
  s.onBilling fun b => { b with slots := b.slots.modify i f }

/-- Queue a slot's image for writing (R161, R178). -/
def queueSlot (s : State) (i : Nat) (supplyLoss : Bool) : State :=
  s.queueNv (.slot i (s.billing.slot i)) supplyLoss

/-- Queue the tariff area for writing (R148). -/
def queueTariff (s : State) : State := s.queueNv (.tariff s.billing.tariff) false

/-- Queue a snapshot of the lifetime totals (R137). -/
def queueTotals (s : State) (supplyLoss : Bool) : State := s.queueNv (.totals s.meter.totals) supplyLoss

/-- R149: post the heat-preferred flag of the band under the cursor. -/
def postPreferred (s : State) : State :=
  s.postBudget (.preferred (s.billing.tariff.bandOf s.billing.cursor).preferred)

/-- Relocate the cursor by the clock and the active page, and post the flag (R143, R148, R149). -/
def relocate (s : State) : State := (s.onBilling fun b => { b with cursor := b.located }).postPreferred

/-! ### The session channel (R135, R136) -/

/-- R135: the channel opens, cleared, the residues standing. -/
def openChannel (s : State) : State := s.onMeter fun m => { m with channel := { isOpen := true } }

/-- R136: the marks move to the accumulators. -/
def moveMarks (s : State) : State :=
  s.onMeter fun m =>
    { m with channel := { m.channel with gridMark := m.channel.grid, heatMark := m.channel.heatGrid } }

/-- R150: a pricing point of the open record, at the cursor's band and price. -/
def pricingPoint (s : State) : State :=
  match s.billing.openSlot with
  | none => s
  | some i =>
    let c := s.billing.cursor
    let price := (s.billing.tariff.bandOf c).price
    let d := s.meter.channel
    (s.onSlot i fun x =>
      { x with record := x.record.pricePoint c price d.gridDelta d.heatDelta }).moveMarks

/-- R158: a checkpoint of the open record: the meter's snapshot, the slot queued, the period restarted. -/
def checkpoint (s : State) : State :=
  match s.billing.openSlot with
  | none => s
  | some i =>
    let d := s.meter.channel
    let s := s.onSlot i fun x =>
      { x with record :=
        { x.record with
          grid := d.grid, heatGrid := d.heatGrid, heatPack := d.heatPack, packNet := d.packNet
          flags := { x.record.flags with posSat := d.posSat, negSat := d.negSat }
          unpricedGrid := d.gridDelta, unpricedHeat := d.heatDelta
          cpRemC := x.record.remC, cpRemH := x.record.remH } }
    let s := s.onBilling fun b => { b with checkpoint := some s.now }
    (s.queueTotals false).queueSlot i false

/-- R148, steps 2 to 5: the standby page becomes active; the pricing point before it is the caller's. -/
def swap (s : State) : State :=
  let s := s.onBilling fun b =>
    { b with tariff := { b.tariff with selector := !b.tariff.selector }, commitPending := false }
  s.relocate.queueTariff.raise .tariff

/-- R147: withdraw a pending commit. -/
def withdrawCommit (s : State) : State :=
  s.doIf s.billing.commitPending fun s =>
    (s.onBilling fun b => { b with commitPending := false }).raise .tariff

/-- R149: the step at a band boundary, if the band of the clock's minute differs from the cursor's. -/
def bandBoundary (s : State) : State :=
  if s.billing.clock.valid ∧ s.billing.located.band ≠ s.billing.cursor.band then
    let s := s.pricingPoint
    (if s.billing.commitPending then s.swap else s.relocate).checkpoint
  else s

/-- R157: open a record in the reserved slot. DESIGN CHOICE (log 21): when 4,294,967,295 is issued (R155) the next number holds
4,294,967,296, which LOG_STATUS shows as 0. -/
def openRecord (s : State) (i : Nat) (mode : Mode) (ref : Option (List Byte)) : State :=
  let b := s.billing
  let seg : Segment := { page := b.cursor.page, band := b.cursor.band, price := (b.tariff.bandOf b.cursor).price }
  let r : Record :=
    { number := b.nextNumber, mode := mode, ref := ref, startTime := b.clock.time?, segments := [seg]
      flags := { clockUnset := !b.clock.valid } }
  let s := s.onSlot i fun _ => { st := .opened, record := r }
  let s := s.onBilling fun b =>
    { b with nextNumber := b.nextNumber + 1, reservation := none, checkpoint := some s.now }
  (s.openChannel.queueSlot i false).raise .record

/-- R159, R160: close the open record with a cause. The totals are queued with the final pricing point, before a swap
queues the tariff. DESIGN CHOICE (log 21): the meter's POS_SAT and NEG_SAT stay with the accumulators (R136) until the next
opening clears them, where R133 has them set until the record closes. On the supply-loss path a pending commit is withdrawn
without a swap, and the slot's write and then the totals' are SUPPLY_LOSS writes; one of them already pending keeps its place
(R178 against R160: DEDUCED, log 10). -/
def closeRecord (s : State) (cause : StopCause) (supplyLoss : Bool) : State :=
  match s.billing.openSlot with
  | none => s
  | some i =>
    let s := s.pricingPoint
    let s := if supplyLoss then s.withdrawCommit else (s.queueTotals false).doIf s.billing.commitPending swap
    let d := s.meter.channel
    let s := s.onSlot i fun x =>
      { st := .closed
        record := x.record.settle.closed d s.billing.clock.time? (.stop cause) }
    let s := s.onMeter fun m => { m with channel := { m.channel with isOpen := false } }
    let s := s.onBilling fun b => { b with checkpoint := none, lastClosed := some (b.slot i).record.number }
    let s := if supplyLoss then (s.queueSlot i true).queueTotals true else s.queueSlot i false
    s.raise .record

end State

end Sys2Proof.Machine
end

