-- ==== Sys2Proof/Machine/HeatOps.lean ====
section
/-! DEFINITION. The shared operations of the heating controller (chapter 3): demand and heat state of a zone, the
step that follows every change, shedding, arbitration, ranks and the preheat window. -/

namespace Sys2Proof.Machine

/-! ### One zone -/

/-- R54: a heater rating of 200 to 2,000 W in 10 W steps. -/
def legalRating (r : Nat) : Bool := decide (200 ≤ r ∧ r ≤ 2000 ∧ r % 10 = 0)

/-- R55: whether a zone demands. DESIGN CHOICE (log 21): a zone in its hysteresis band that is not HEATING does not, though
it demanded before. -/
def Zone.demands (z : Zone) : Bool :=
  z.configured && z.enabled && z.isolation == .none && z.node == .active && z.rating.isSome &&
    match z.temp with
    | none => false
    | some t => if z.heat = .heating then decide (t < z.target) else decide (t ≤ z.target - z.hyst)

/-- R55: target minus temperature, 0 if negative or with the temperature absent. -/
def Zone.deficitNow (z : Zone) : Nat :=
  match z.temp with
  | none => 0
  | some t => (z.target - t).toNat

/-- R57: what a HEATING zone needs to stay HEATING between periods. -/
def Zone.keepsHeating (z : Zone) : Bool := z.heat == .heating && z.node == .active && z.temp.isSome

/-- R56: the conditions of the table of section 3.2, from the top. -/
def Zone.failed (z : Zone) : Bool :=
  z.node == .lost || z.node == .mismatch || (z.node == .active && z.rating.isNone) || z.driverFault

/-- R56, R57: the heat state a zone has by its row. DESIGN CHOICE (log 21): a focus zone shed inside its hysteresis band is
IDLE, as R66 and R67 say of a zone that no longer demands, where R64 says WAITING; and a zone whose isolation is not
NONE is ISOLATED, as R56 tests it first, when it is disabled, where R73 says DISABLED, and when it ceases to be configured,
where R53 says DISABLED. -/
def Zone.stateNow (z : Zone) : HeatState :=
  if z.isolation ≠ .none then .isolated
  else if !z.configured || !z.enabled then .disabled
  else if z.failed then .failed
  else if z.keepsHeating then .heating
  else if { z with heat := HeatState.idle }.demands then .waiting
  else .idle

/-- The recomputation that follows every arrival at a zone (R54, R55, R56). -/
def Zone.refresh (z : Zone) : Zone := { z with heat := z.stateNow, deficit := z.deficitNow }

/-- The watts a zone takes while HEATING (R59). -/
def Zone.watts (z : Zone) : Nat := if z.heat = .heating then z.rating.getD 0 else 0

/-- The sum of the ratings of the HEATING zones (R62, R68). -/
def heatSum (zs : List Zone) : Nat := (zs.map Zone.watts).sum

/-- R55: the lowest present temperature among the configured zones. -/
def minTemperature : List Zone → Option HalfDeg
  | [] => none
  | z :: zs =>
    match if z.configured then z.temp else none, minTemperature zs with
    | some t, some u => some (min t u)
    | some t, none => some t
    | none, r => r

/-- R34, R61: grid heating permitted by the mode and the window. -/
def gridPermitted (m : GridMode) (window : Bool) : Bool :=
  match m with
  | .always => true
  | .preheatOnly => window
  | .off => false

/-- The heat on figure (R68). -/
def Heating.heatOn (h : Heating) : Nat := if h.source = .grid then heatSum h.zones else 0

/-- The limit in force (R62): no zone may heat under source NONE. -/
def Heating.limit (h : Heating) : Nat :=
  match h.source with
  | .grid => h.grant
  | .pack => h.allowance
  | .none => 0

/-- R61: the source for the coming heat period. -/
def Heating.chooseSource (h : Heating) : HeatSource :=
  if h.sess = .active ∧ gridPermitted h.policy.gridMode h.departure.window then .grid
  else if h.departure.window ∧ h.policy.packHeat ∧ 0 < h.allowance then .pack
  else .none

/-! ### Shedding (R67) -/

/-- Whether HEATING zone `z` goes off before `best`: smaller deficit, and among equals the lower rank. -/
def shedBefore (z best : Zone) : Bool :=
  decide (z.deficit < best.deficit) ||
    (z.deficit == best.deficit && decide (z.rank.getD 0 < best.rank.getD 0))

/-- The index of the HEATING zone that is shed first, counted from `i`. -/
def shedIndex : List Zone → Nat → Option (Nat × Zone)
  | [], _ => none
  | z :: zs, i =>
    match shedIndex zs (i + 1) with
    | none => if z.heat = .heating then some (i, z) else none
    | some (j, b) => if z.heat = .heating ∧ !shedBefore b z then some (i, z) else some (j, b)

/-- Take a zone out of HEATING; it is then WAITING or IDLE by its demand (R67). -/
def Zone.takeOff (z : Zone) : Zone := { z with heat := if z.heat = .heating then .idle else z.heat }

/-- Shed one zone at a time until the sum is within the limit, at most one round for each zone; answers the zones and the
indexes of those shed, in order. -/
def shed : Nat → Nat → List Zone → List Zone × List Nat
  | 0, _, zs => (zs, [])
  | fuel + 1, limit, zs =>
    if heatSum zs ≤ limit then (zs, [])
    else
      match shedIndex zs 0 with
      | none => (zs, [])
      | some (i, _) =>
        let r := shed fuel limit (zs.modify i Zone.takeOff)
        (r.1, i :: r.2)

/-! ### Arbitration and ranks (R53, R65) -/

/-- R65: a candidate demands, is not HEATING and is rated no more than the remainder. A zone that R56 holds FAILED for a
driver fault is none: it could not become HEATING (DEDUCED, log 10). -/
def Zone.candidate (z : Zone) (remainder : Nat) : Bool :=
  z.demands && !z.failed && z.heat != .heating && decide (z.rating.getD 0 ≤ remainder)

/-- Whether candidate `z` wins over `best`: larger deficit, and among equals the higher rank. -/
def winsOver (z best : Zone) : Bool :=
  decide (best.deficit < z.deficit) ||
    (z.deficit == best.deficit && decide (best.rank.getD 0 < z.rank.getD 0))

/-- The index of the winner of a round, counted from `i`. -/
def winner : List Zone → Nat → Nat → Option (Nat × Zone)
  | [], _, _ => none
  | z :: zs, remainder, i =>
    match winner zs remainder (i + 1) with
    | none => if z.candidate remainder then some (i, z) else none
    | some (j, b) => if z.candidate remainder && !winsOver b z then some (i, z) else some (j, b)

/-- R65: every configured zone ranked below the winner is raised by one and the winner takes rank 0. -/
def rotate (i w : Nat) (zs : List Zone) : List Zone :=
  (zs.map fun z => { z with rank := z.rank.map fun r => if r < w then r + 1 else r }).modify i
    fun z => { z with rank := some 0 }

/-- R65: rounds until one finds no candidate; answers the zones and the numbers of the winners in order. -/
def arbitrate : Nat → Nat → List Zone → List Zone × List Nat
  | 0, _, zs => (zs, [])
  | fuel + 1, remainder, zs =>
    match winner zs remainder 0 with
    | none => (zs, [])
    | some (i, z) =>
      let zs := (rotate i (z.rank.getD 0) zs).modify i fun x => { x with heat := .heating }
      let r := arbitrate fuel (remainder - z.rating.getD 0) zs
      (r.1, (i + 1) :: r.2)

/-- R53: the ranks at a reset, in zone order among the configured zones. -/
def rankInOrder : List Zone → List Zone
  | [] => []
  | z :: zs =>
    { z with rank := if z.configured then some (zs.filter fun x => x.configured).length else none } :: rankInOrder zs

/-- R53: a zone becomes configured: rank 0, every other configured zone raised by one. -/
def configureZone (i : Nat) (zs : List Zone) : List Zone :=
  (zs.map fun z => { z with rank := z.rank.map (· + 1) }).modify i
    fun z => { z with configured := true, rank := some 0 }

/-- R53: a zone ceases to be configured: it gives up its rank and those above are lowered by one. -/
def unconfigureZone (i : Nat) (zs : List Zone) : List Zone :=
  let w := ((zs.getD i {}).rank).getD 0
  (zs.map fun z => { z with rank := z.rank.map fun r => if w < r then r - 1 else r }).modify i
    fun z => { z with configured := false, rank := none }

/-- R53: the zones take the roster's kinds for addresses 4 to 11, one zone at a time in zone order. -/
def configureZones : List NodeKind → Nat → List Zone → List Zone
  | [], _, zs => zs
  | k :: ks, i, zs =>
    match zs[i]? with
    | none => zs
    | some z =>
      configureZones ks (i + 1)
        (if k = .heater ∧ !z.configured then configureZone i zs
        else if k ≠ .heater ∧ z.configured then unconfigureZone i zs
        else zs)

/-! ### The departure timer (section 3.6) -/

/-- R72: the window is open while the count is above 0 and no greater than the lead. -/
def Departure.windowNow (d : Departure) : Bool := decide (0 < d.count ∧ d.count ≤ d.lead)

namespace State

/-! ### The step that follows a change at the heating controller -/

/-- R68: post the heat on figure when it changes, and at each change of source. -/
def postHeatOn (s : State) (sourceChanged : Bool) : State :=
  let w := s.heating.heatOn
  if w ≠ s.heating.postedHeatOn ∨ sourceChanged then
    (s.onHeating fun h => { h with postedHeatOn := w }).postBudget (.heatOn w)
  else s

/-- R55: post whether any zone demands, when it changes. -/
def postDemands (s : State) : State :=
  let d := s.heating.zones.any Zone.demands
  if d ≠ s.heating.postedDemands then
    (s.onHeating fun h => { h with postedDemands := d }).postBudget (.demands d)
  else s

/-- R55: post the minimum zone temperature, when it changes. -/
def postMinTemp (s : State) : State :=
  let t := minTemperature s.heating.zones
  if t ≠ s.heating.postedMin then
    (s.onHeating fun h => { h with postedMin := t }).postBudget (.minTemp t)
  else s

/-- R59, R67: OFF for the zones that left HEATING, those shed in the order they were shed. DESIGN CHOICE (log 21): the others
come before them, by zone number; a zone shed and chosen again in the same allocation has not left HEATING, so it gets no
OFF, and its rating once more. -/
def writeOffs (s : State) (old : List Zone) (shed : List Nat) : State :=
  ((List.range 8).filter (fun i => !shed.contains i) ++ shed).foldl
    (fun s i =>
      s.doIf ((old.getD i {}).heat == .heating && (s.heating.zones.getD i {}).heat != .heating)
        fun s => s.writeSetpoint (i + 4) 0) s

/-- R59: ON, held as the rating in watts, for the zones chosen, in the order they were chosen. -/
def writeOns (s : State) (chosen : List Nat) : State :=
  chosen.foldl (fun s n => s.writeSetpoint (n + 3) ((s.zone n).rating.getD 0)) s

/-- One step of the heating controller: a change of its rows, the states that follow (R56, R57), the setpoints OFF
before ON (R59), the postings that changed (R55, R68) and a HEAT notice (R75). `shed` are the indexes of the
zones shed and `chosen` the numbers of those chosen, each in order; `ranked` counts a change of rank. -/
def heatStep (s : State) (shed chosen : List Nat) (ranked : Bool) (f : Heating → Heating) : State :=
  let old := s.heating
  let s := s.onHeating fun h => let h := f h; { h with zones := h.zones.map Zone.refresh }
  let s := ((s.writeOffs old.zones shed).writeOns chosen).postHeatOn (decide (s.heating.source ≠ old.source))
  let s := s.postDemands.postMinTemp
  s.doIf
    (s.heating.zones.map Zone.heat != old.zones.map Zone.heat || s.heating.source != old.source ||
      (ranked && s.heating.zones.map Zone.rank != old.zones.map Zone.rank))
    fun s => s.raise .heat

/-- Change one zone's row, 1 to 8, with the step that follows. -/
def zoneStep (s : State) (n : Nat) (f : Zone → Zone) : State :=
  match n with
  | 0 => s
  | i + 1 => s.heatStep [] [] false fun h => { h with zones := h.zones.modify i f }

/-- The zone of a heater address, 4 to 11 (R53). -/
def atHeater (s : State) (addr : Nat) (f : Nat → State → State) : State :=
  if 4 ≤ addr ∧ addr ≤ 11 then f (addr - 3) s else s

/-- R58: the monitor requests the isolation of a heater address. -/
def heatIsolate (s : State) (addr : Nat) : State :=
  s.atHeater addr fun n s => s.zoneStep n fun z => { z with isolation := .requested, isoRequested := true }

/-- R58: the monitor withdraws its request for a heater address; a status reply then ends the isolation. -/
def heatRelease (s : State) (addr : Nat) : State :=
  s.atHeater addr fun n s => s.zoneStep n fun z => { z with isoRequested := false }

/-- R54: a node state change reaches the zone of a heater address. -/
def heatNodeState (s : State) (addr : Nat) (st : NodeState) : State :=
  s.atHeater addr fun n s => s.zoneStep n fun z =>
    if st = .active then { z with node := st }
    else { z with node := st, temp := none, sensorFault := false, driverFault := false }

/-- R54: a roll-call reply reaches the zone of a heater address with the node state it leads to. -/
def heatRollCall (s : State) (addr : Nat) (st : NodeState) (rating : Nat) : State :=
  s.atHeater addr fun n s => s.zoneStep n fun z =>
    let z := { z with node := st, rating := if legalRating rating then some rating else none }
    if st = .active then z else { z with temp := none, sensorFault := false, driverFault := false }

/-- R54, R58: a status reply reaches the zone of a heater address. DESIGN CHOICE (log 21): one that reports the branch
connected while the request stands leaves CONFIRMED. -/
def heatReply (s : State) (addr : Nat) (temp : Option HalfDeg) (sensorFault driverFault isolated : Bool) : State :=
  let now := s.now
  s.atHeater addr fun n s => s.zoneStep n fun z =>
    { z with
      temp := if sensorFault then none else temp
      replyStamp := some now
      sensorFault := sensorFault
      driverFault := driverFault
      isolation := if isolated then .confirmed else if z.isoRequested then z.isolation else .none }

/-- R53, R114: the roster's kinds reach the heating controller. -/
def heatConfigure (s : State) (kinds : List NodeKind) : State :=
  s.heatStep [] [] false fun h => { h with zones := configureZones (kinds.drop 3) 0 h.zones }

/-- R61: the session controller's posting of its state. -/
def heatSession (s : State) (st : SessState) : State := s.onHeating fun h => { h with sess := st }

/-- R76: the on-times are cleared at each entry to ENERGISING. -/
def clearOnTimes (s : State) : State :=
  s.onHeating fun h => { h with zones := h.zones.map fun z => { z with onTime := 0 } }

/-- R77: every HEATING zone off and the source NONE. -/
def heatAllOff (s : State) : State :=
  s.heatStep [] [] false fun h => { h with source := .none, zones := h.zones.map Zone.takeOff }

/-- R72: open or close the window by the count, with its notice and posting. -/
def evalWindow (s : State) : State :=
  let w := s.heating.departure.windowNow
  if w = s.heating.departure.window then s
  else
    ((s.onHeating fun h => { h with departure := { h.departure with window := w } }).raise .departure).postBudget
      (.window w)

end State

end Sys2Proof.Machine
end

