-- ==== Sys2Proof/Machine/SessionOps.lean ====
section
/-! DEFINITION. The shared operations of the session controller (chapter 1): entering a state, the pause-cause set,
the lock, the stops, and what a change of plug or pilot does. The monitor's report (R16, R90) stands here too,
since the end of a stop tells the monitor (R93) and the monitor reports to the session. -/

namespace Sys2Proof.Machine

/-- The states that clear plug loss seen on entry (section 1.2). -/
def SessState.clearsPlugLoss : SessState → Bool
  | .energising => true
  | .idle => true
  | .finished => true
  | .connected => false
  | .locking => false
  | .authorising => false
  | .active => false
  | .paused => false
  | .stopping => false
  | .unlocking => false
  | .faulted => false

/-- R17: the charge-request load a session's state calls for; in STOPPING it stays as it was. -/
def Session.loadFor (x : Session) (was : Bool) : Bool :=
  match x.st with
  | .energising => x.mode == some .ac
  | .active => x.mode == some .ac
  | .paused => x.mode == some .ac && x.causes.keepsLoad
  | .stopping => was
  | .idle => false
  | .connected => false
  | .locking => false
  | .authorising => false
  | .unlocking => false
  | .finished => false
  | .faulted => false

/-- Every contactor feedback reports open (R21, R25). -/
def Pins.allOpen (p : Pins) : Bool := !p.kacFb && !p.kdcpFb && !p.kdcnFb

/-- A contactor commanded open: CLOSED or CLOSING becomes OPENING (R21). -/
def KState.commandedOpen : KState → KState
  | .closed => .opening
  | .closing => .opening
  | .opened => .opened
  | .opening => .opening

/-- An OPENING contactor whose feedback reports open becomes OPEN (R21). -/
def KState.settled (k : KState) (fbClosed : Bool) : KState := if k = .opening ∧ !fbClosed then .opened else k

/-- R90: the search hold: SEARCHING, or the assessment FAULT or CRITICAL. -/
def Insulation.hold (x : Insulation) : Bool := x.st == .searching || x.assess == .fault || x.assess == .critical

/-- R93: what the monitor becomes when told that the DC contactors are open. -/
def Insulation.dcOpened (x : Insulation) (now : Nat) : Insulation :=
  let y := { x with dcContext := false, dcClosed := false, stationMon := false, stationFault := false }
  match x.st with
  | .yielded => { y with st := .measuring, period := some now }
  | .listening => { y with st := .measuring, period := some now, listenTimer := none, foreign := false }
  | .measuring => y
  | .searching => y
  | .off => y

namespace State

/-! ### States, causes and the load -/

/-- R17: re-evaluate the charge-request load. -/
def applyLoad (s : State) : State := s.onPins fun p => { p with cpLoad := s.session.loadFor p.cpLoad }

/-- Enter a session state: posted to the budget and the heating controller, a SESSION notice, the load (R14, R17,
R28, R61). -/
def enter (s : State) (st : SessState) : State :=
  let s := s.onSession fun x => { x with st := st, plugLossSeen := x.plugLossSeen && !st.clearsPlugLoss }
  (((s.postBudget (.session st s.session.mode)).heatSession st).raise .session).applyLoad

/-- R14: the pause-cause set takes a new value, and the state move it calls for follows at once. -/
def setCauses (s : State) (c : PauseSet) : State :=
  if c = s.session.causes then s
  else
    let s := (s.onSession fun x => { x with causes := c }).raise .session
    if s.session.st = .active ∧ !c.isEmpty then s.enter .paused
    else if s.session.st = .paused ∧ c.isEmpty then s.enter .active
    else s.applyLoad

/-! ### The monitor's report (R16, R35, R90, R106) -/

/-- One change at the monitor: if its state, assessment or source moved, SEARCH_HOLD follows at the session, the
search hold is posted to the budget and an INSULATION notice is raised. -/
def isoChange (s : State) (f : Insulation → Insulation) : State :=
  let old := s.iso
  let s := s.onIso f
  if s.iso.st = old.st ∧ s.iso.assess = old.assess ∧ s.iso.source = old.source then s
  else
    let h := s.iso.hold
    ((s.setCauses { s.session.causes with searchHold := h }).postBudget (.searchHold h)).raise .insulation

/-- R93: the monitor is told that the DC contactors are open. -/
def tellDcOpen (s : State) : State := s.isoChange fun x => x.dcOpened s.now

/-! ### The lock (R7, R23) -/

/-- The end of an unlocking (R23). DESIGN CHOICE (log 21): the feedback that ends the travel removes the lock drive, as an expired
timeout does. -/
def unlockDone (s : State) : State :=
  let s := s.onSession fun x => { x with lock := .notEngaged, lockTimer := none }
  let s := s.onPins fun p => { p with lockDrive := .released }
  if s.session.prox.present then s.enter .finished else s.enter .idle

/-- Entry to UNLOCKING (R23); a lock already reported not engaged completes at once (log 8). -/
def goUnlocking (s : State) : State :=
  let s := s.enter .unlocking
  let s := s.onSession fun x => { x with lock := .unlockTravel, lockTimer := some s.now }
  let s := s.onPins fun p => { p with lockDrive := .towardReleased }
  if s.pins.lockFb then s else s.unlockDone

/-- Entry to FAULTED (R25): contactors commanded open, load released, lock drive removed. DESIGN CHOICE (log 21): R7 names
no lock state after an expired travel, so LOCK_TRAVEL or UNLOCK_TRAVEL stands. -/
def goFaulted (s : State) (k : FaultKind) : State :=
  let s := s.onSession fun x =>
    { x with
      fault := some k, stopPending := false, lockingLost := false
      lockTimer := none, energiseTimer := none, closeTimer := none, openTimer := none, rampTimer := none }
  let s := s.onPins fun p =>
    { p with lockDrive := .released, kacDrive := false, kdcpDrive := false, kdcnDrive := false }
  s.enter .faulted

/-- The end of a locking (R7): AUTHORISING, or UNLOCKING with stop pending or after a CABLE_LOST. DESIGN CHOICE (log 21): the
feedback that ends the travel removes the lock drive, as an expired timeout does. DEDUCED (log 10), the model's choice: a
pilot that already stood ABSENT at the entry to LOCKING is no CABLE_LOST when the lock engages, and AUTHORISING stands with it:
R3 and R7 act on a change to ABSENT, though note 1 of the pilot table speaks of an ABSENT while the lock is engaged. -/
def lockDone (s : State) : State :=
  let away := s.session.stopPending || s.session.lockingLost
  let s := s.onSession fun x =>
    { x with lock := .engaged, lockTimer := none, stopPending := false, lockingLost := false }
  let s := s.onPins fun p => { p with lockDrive := .released }
  if away then s.goUnlocking else s.enter .authorising

/-- Entry to LOCKING (R7); a lock already reported engaged completes at once. -/
def goLocking (s : State) : State :=
  let s := s.enter .locking
  let s := s.onSession fun x =>
    { x with lock := .lockTravel, lockTimer := some s.now, stopPending := false, lockingLost := false }
  let s := s.onPins fun p => { p with lockDrive := .towardEngaged }
  if s.pins.lockFb then s.lockDone else s

/-! ### Stops (R20 to R23) -/

/-- The inlet current of R21: the greatest phase current in AC, the DC inlet current in DC. -/
def inletCurrent (s : State) : Int :=
  if s.session.mode = some .dc then s.meter.live.iDc
  else max s.meter.live.i1 (max s.meter.live.i2 s.meter.live.i3)

/-- R21, R22: the contactors are commanded open and the opening feedback timeout starts. -/
def commandOpen (s : State) : State :=
  let s := s.onSession fun x =>
    { x with
      acK := x.acK.commandedOpen, dcK := x.dcK.commandedOpen
      rampTimer := none, closeTimer := none, energiseTimer := none, openTimer := some s.now }
  s.onPins fun p => { p with kacDrive := false, kdcpDrive := false, kdcnDrive := false }

/-- The contactors whose feedback reports open are OPEN. -/
def settleContactors (s : State) : State :=
  s.onSession fun x =>
    { x with
      acK := x.acK.settled s.pins.kacFb
      dcK := x.dcK.settled (s.pins.kdcpFb || s.pins.kdcnFb) }

/-- R12, R33: the DC station record is cleared and posted ABSENT. -/
def clearStation (s : State) : State :=
  if s.session.station.isSome then
    (s.onSession fun x => { x with station := none }).postBudget .stationAbsent
  else s

/-- R23: where the session goes when a stop has closed its record. DEDUCED (log 10), the model's choice: a pilot ABSENT that
stands without having become the stop cause (R20) does not move a locked FINISHED, which acts on a change alone (R3). -/
def afterStop (s : State) (timedOut : Bool) : State :=
  if timedOut then s.goFaulted .contactor
  else
    match s.session.fault with
    | some k => s.goFaulted k
    | none =>
      if s.power.hostReset then s.enter .finished
      else if s.session.unlockOnStop || s.session.stopCause == some .cableLost || s.session.plugLossSeen then
        s.goUnlocking
      else s.enter .finished

/-- R21, R23: the end of a stop's contactor opening, by feedback or (`timedOut`) by the feedback timeout. -/
def stopEnd (s : State) (timedOut : Bool) : State :=
  let s := s.settleContactors.onSession fun x => { x with openTimer := none }
  let s := s.onPins fun p => { p with cpLoad := false }
  let s := s.doIf (s.session.mode == some .dc) fun s => s.tellDcOpen
  let s := s.closeRecord (s.session.stopCause.getD .hostStop) false
  ((s.afterStop timedOut).postBudget (.phases 0)).clearStation

/-- The stop ends as soon as every contactor reports open; in SUPPLY_HOLD `holdOpening` has its place (R22). -/
def openingCheck (s : State) : State :=
  s.doIf (s.inRun && s.session.st == .stopping && s.session.openTimer.isSome && s.pins.allOpen)
    fun s => s.stopEnd false

/-- Open the contactors, and end the stop at once if every feedback already reports open (log 8). -/
def openContactors (s : State) : State := s.commandOpen.openingCheck

/-- R15, R20 to R22: a stop begins in ENERGISING, ACTIVE or PAUSED; outside ACTIVE and PAUSED the DC current request is 0. -/
def beginStop (s : State) (c : StopCause) : State :=
  let atOnce := c.emergency || s.session.st == .energising || decide (s.inletCurrent < 10)
  let s := s.onSession fun x =>
    { x with
      stopCause := some c, causes := { x.causes with hostPause := false }, energiseTimer := none, dcRequest := 0 }
  let s := s.enter .stopping
  if atOnce then s.openContactors else s.onSession fun x => { x with rampTimer := some s.now }

/-- R22: in SUPPLY_HOLD the opening ends with every contactor reported open, or (`timedOut`) by the feedback timeout: the
contactors that report open are OPEN and the monitor is told in DC; the session holds STOPPING, its record having been
closed at the entry (R171). -/
def holdOpening (s : State) (timedOut : Bool) : State :=
  let s := s.settleContactors
  s.doIf (s.session.openTimer.isSome && (timedOut || s.pins.allOpen)) fun s =>
    (s.onSession fun x => { x with openTimer := none }).doIf (s.session.mode == some .dc) fun s => s.tellDcOpen

/-- R20: a stop cause arrives. DEDUCED (log 10): a CABLE_LOST in FINISHED with the lock ENGAGED goes to UNLOCKING, as R20 and
R24 say, also while a host reset is pending, where R175 says that the lock is not driven after the close. -/
def takeStop (s : State) (c : StopCause) : State :=
  match s.session.st with
  | .energising => s.beginStop c
  | .active => s.beginStop c
  | .paused => s.beginStop c
  | .stopping =>
    if c.emergency && !(s.session.stopCause.getD .hostStop).emergency then
      let s := s.onSession fun x => { x with stopCause := some c }
      if s.session.rampTimer.isSome then s.openContactors else s
    else s
  | .locking => s.doIf (c == .cableLost) fun s => s.onSession fun x => { x with lockingLost := true }
  | .authorising => s.doIf (c == .cableLost) goUnlocking
  | .finished => s.doIf (c == .cableLost && s.session.lock == .engaged) goUnlocking
  | .idle => s
  | .connected => s
  | .unlocking => s
  | .faulted => s

/-! ### Energising (R10, R13, R14) -/

/-- R14: the contactor or pair reports CLOSED: ACTIVE with an empty set, else PAUSED. -/
def enterActive (s : State) : State :=
  let c : PauseSet :=
    { s.session.causes with noOffer := false, nothingToDo := false, noStages := false, searchHold := s.iso.hold }
  let s := s.doIf (c != s.session.causes) fun s => (s.onSession fun x => { x with causes := c }).raise .session
  s.enter (if c.isEmpty then .active else .paused)

/-- R10, R14: the AC contactor's feedback reports closed while it is CLOSING. -/
def acClosedCheck (s : State) : State :=
  s.doIf (s.session.st == .energising && s.session.acK == .closing && s.pins.kacFb) fun s =>
    (s.onSession fun x => { x with acK := .closed, closeTimer := none }).enterActive

/-- R13, R14: both contacts of the DC pair report closed while it is CLOSING; the monitor is told. -/
def dcClosedCheck (s : State) : State :=
  s.doIf (s.session.st == .energising && s.session.dcK == .closing && s.pins.kdcpFb && s.pins.kdcnFb) fun s =>
    ((s.onSession fun x => { x with dcK := .closed, closeTimer := none }).onIso
      fun x => { x with dcClosed := true }).enterActive

/-- R6: AC inlet voltage is present when L1 is above 180.0 V. -/
def acVoltage (s : State) : Bool := decide (1800 < s.meter.live.v1)

/-- R10: with AC inlet voltage present the energising wait stops and the AC contactor is commanded closed. -/
def acVoltageCheck (s : State) : State :=
  s.doIf (s.session.st == .energising && s.session.mode == some .ac && s.session.energiseTimer.isSome && s.acVoltage)
    fun s =>
      let s := s.onSession fun x => { x with acK := .closing, energiseTimer := none, closeTimer := some s.now }
      (s.onPins fun p => { p with kacDrive := true }).acClosedCheck

/-- R21, R129: the ramp ends when a sample shows the inlet current below 1.0 A. -/
def rampCheck (s : State) : State :=
  s.doIf (s.session.st == .stopping && s.session.rampTimer.isSome && decide (s.inletCurrent < 10)) openContactors

/-! ### Plug and pilot (R1 to R3) -/

/-- R2: CONNECTED goes on to LOCKING as soon as the pilot is not ABSENT. -/
def connectedCheck (s : State) : State :=
  s.doIf (s.session.st == .connected && s.session.pilot != .absent) goLocking

/-- R2: a plug arrival. -/
def plugArrival (s : State) : State :=
  if s.session.st = .idle then (s.enter .connected).connectedCheck else s

/-- R2, R12, R24, R25: a plug loss. -/
def plugLoss (s : State) : State :=
  let s := s.clearStation
  match s.session.st with
  | .connected => s.enter .idle
  | .finished => if s.session.lock = .engaged then s.takeStop .cableLost else s.enter .idle
  | .stopping => (s.onSession fun x => { x with plugLossSeen := true }).takeStop .cableLost
  | .unlocking => s.onSession fun x => { x with plugLossSeen := true }
  | .faulted => s.onSession fun x => { x with plugLossSeen := true }
  | .locking => s.takeStop .cableLost
  | .authorising => s.takeStop .cableLost
  | .energising => s.takeStop .cableLost
  | .active => s.takeStop .cableLost
  | .paused => s.takeStop .cableLost
  | .idle => s

/-- ACTIVE or PAUSED. -/
def drawing (s : State) : Bool := s.session.st == .active || s.session.st == .paused

/-! ### Inlet temperature and lock feedback (R5, R19) -/

/-- R5: the session controller takes what the two temperature sensors read. -/
def takeTemperatures (s : State) : State :=
  let old := inletTemp s.session.temp1 s.session.temp2
  let new := inletTemp s.pins.sensor1 s.pins.sensor2
  let s := s.onSession fun x => { x with temp1 := s.pins.sensor1, temp2 := s.pins.sensor2 }
  let s := s.doIf (inletDerate new != inletDerate old) fun s => s.postBudget (.inletDerate (inletDerate new))
  let s := s.doIf (overheated new != overheated old || (old.isSome && new.isNone)) fun s => s.raise .session
  s.doIf (overheated new && !overheated old && (s.drawing || s.session.st == .energising))
    fun s => s.takeStop .inletOverheat

/-- R19: the lock feedback is lost while ENGAGED; the lock state becomes NOT_ENGAGED (log 9). -/
def lockLost (s : State) : State :=
  let s := s.onSession fun x => { x with lock := .notEngaged, fault := some .lockFail }
  match s.session.st with
  | .energising => (s.raise .session).takeStop .cableLost
  | .active => (s.raise .session).takeStop .cableLost
  | .paused => (s.raise .session).takeStop .cableLost
  | .stopping => (s.raise .session).takeStop .cableLost
  | .authorising => s.goFaulted .lockFail
  | .finished => s.goFaulted .lockFail
  | .idle => s
  | .connected => s
  | .locking => s
  | .unlocking => s
  | .faulted => s

/-- The states in which the lock feedback is watched (R19). -/
def watchesLock (s : State) : Bool :=
  s.session.lock == .engaged &&
    match s.session.st with
    | .authorising => true
    | .energising => true
    | .active => true
    | .paused => true
    | .stopping => true
    | .finished => true
    | .idle => false
    | .connected => false
    | .locking => false
    | .unlocking => false
    | .faulted => false

/-- R19: a lock feedback that reports not engaged while the lock is ENGAGED is a lock fault. -/
def lockCheck (s : State) : State := s.doIf (s.watchesLock && !s.pins.lockFb) lockLost

/-! ### The classes taken -/

/-- R1: hold a proximity class and post its cable rating; the notices of R1, R2 and R28. -/
def holdProx (s : State) (c : PlugClass) : State :=
  let old := s.session.prox
  let s := (s.onSession fun x => { x with prox := c }).postBudget (.cable c.rating)
  s.doIf (c != old && (c == .invalid || c.present || old.present)) fun s => s.raise .session

/-- R1, R2: act on a change of proximity class. -/
def takeProx (s : State) (c : PlugClass) : State :=
  let old := s.session.prox
  if c = old then s
  else
    let s := s.holdProx c
    if c.present && !old.present then s.plugArrival
    else if !c.present && old.present then s.plugLoss
    else s

/-- R3, R4: hold a pilot class and duty and post the offer; a change of class raises a SESSION notice. -/
def holdPilot (s : State) (c : PilotClass) (duty : Nat) : State :=
  let old := s.session.pilot
  let s := (s.onSession fun x => { x with pilot := c, duty := duty }).postBudget (.offer (offerOf c duty))
  s.doIf (c != old) fun s => s.raise .session

/-- R2, R3: act on a change of pilot class; a change to ERROR moves no CONNECTED session (R3, section 1.9, log 10). DEDUCED
(log 10), the model's choice: CABLE_LOST is raised by the change to ABSENT alone (R3, R7), not by an ABSENT that already
stands when the lock engages, as note 1 of the pilot table could be read; after a reset R29 makes it the standing class. -/
def takePilot (s : State) (c : PilotClass) (duty : Nat) : State :=
  let old := s.session.pilot
  if c = old then
    if duty = s.session.duty then s else s.holdPilot c duty
  else
    let s := s.holdPilot c duty
    match c with
    | .absent => s.takeStop .cableLost
    | .error =>
      match s.session.st with
      | .energising => s.takeStop .stationFault
      | .active => s.takeStop .stationFault
      | .paused => s.takeStop .stationFault
      | .stopping => s.takeStop .stationFault
      | .connected => s
      | .idle => s
      | .locking => s
      | .authorising => s
      | .unlocking => s
      | .finished => s
      | .faulted => s
    | .steady => s.connectedCheck
    | .offering => s.connectedCheck

/-- R29: the first move after a reset, on the classes taken from their first complete dwells. -/
def firstMove (s : State) : State :=
  let s := s.onSession fun x => { x with lock := if s.pins.lockFb then .engaged else .notEngaged }
  if s.session.prox.present then
    if s.pins.lockFb then
      let s := s.enter .authorising
      if s.session.pilot = .absent then s.takeStop .cableLost else s
    else (s.enter .connected).connectedCheck
  else if s.pins.lockFb then s.goUnlocking
  else s

/-- R29, R200: once both classes have been taken the session follows its inputs. -/
def tryFollow (s : State) : State :=
  s.doIf (!s.session.following && s.session.proxTaken && s.session.pilotTaken) fun s =>
    (s.onSession fun x => { x with following := true }).firstMove

/-- The session acts on the class the inlet class watch holds for PP (R1, R29, R170). -/
def actOnProx (s : State) : State :=
  if s.session.following then s.takeProx s.session.watchProx
  else if s.session.proxTaken then (s.holdProx s.session.watchProx).tryFollow
  else s

/-- The session acts on the class the inlet class watch holds for CP (R3, R29, R170). -/
def actOnPilot (s : State) : State :=
  if s.session.following then s.takePilot s.session.watchPilot s.session.watchDuty
  else if s.session.pilotTaken then (s.holdPilot s.session.watchPilot s.session.watchDuty).tryFollow
  else s

/-- R29, R168, R170: at the completion of start-up and at the return to RUN the session takes its inputs as they stand:
the temperatures, then the lock feedback and the two classes. Before it follows them, both classes taken are held before
the first move is made (R29). DESIGN CHOICE (log 22): R170 names no order among differences found together; the lock
feedback is taken first, the proximity class next and the pilot class last, so a plug arrival in IDLE found with a pilot
gone from ABSENT to ERROR leaves the session in CONNECTED, where the pilot first would lead to LOCKING (R2, R3). -/
def actOnInputs (s : State) : State :=
  let s := s.takeTemperatures
  if s.session.following then s.lockCheck.actOnProx.actOnPilot
  else
    let s := s.doIf s.session.proxTaken fun s => s.holdProx s.session.watchProx
    let s := s.doIf s.session.pilotTaken fun s => s.holdPilot s.session.watchPilot s.session.watchDuty
    s.tryFollow

end State

end Sys2Proof.Machine
end

