-- ==== Sys2Proof/Machine/InsulationOps.lean ====
section
/-! DEFINITION. The shared operations of the insulation monitor (chapter 4): the result of one period, thresholds,
streaks and grading, the profile, listening and yielding, the fault search and the isolation memory. -/

namespace Sys2Proof.Machine

/-! ### One period and its result (section 4.2) -/

/-- R81: a half-period is settled. -/
def halfSettled (s3q sEnd : Int) : Bool := decide ((sEnd - s3q).natAbs * 32 ≤ sEnd.natAbs)

/-- R82: the measured amplitude. -/
def amplitude (posEnd negEnd : Int) : Int := (posEnd - negEnd).tdiv 2

/-- R82: the result of an amplitude. -/
def readingOf (um : Int) : Reading :=
  if um < 0 then .invalid
  else if um < 40000 then .kOhm (min 10000 (200 * um.toNat / (40000 - um.toNat)))
  else .kOhm 10000

/-- R85: the working thresholds of the host's thresholds at a pack voltage. -/
def workingOf (p : IsoParams) (v : Nat) : Working :=
  let warn := ceilDiv (p.warn * v) 10000
  { warn := warn, fault := ceilDiv (p.fault * v) 10000, critical := ceilDiv (p.critical * v) 10000
    recovery := warn * 5 / 4, vPack := v }

/-- A streak counter: raised and held at its figure, or cleared (R86). -/
def streak (cond : Bool) (k figure : Nat) : Nat := if cond then min figure (k + 1) else 0

/-- R86: the counters take a value result. -/
def Streaks.value (k : Streaks) (r : Nat) (w : Working) : Streaks :=
  { k with
    belowFault := streak (decide (r < w.fault)) k.belowFault 2
    belowWarn := streak (decide (r < w.warn)) k.belowWarn 2
    aboveCritical := streak (decide (w.critical ≤ r)) k.aboveCritical 2
    aboveFault := streak (decide (w.fault ≤ r)) k.aboveFault 2
    aboveWarn := streak (decide (w.warn ≤ r)) k.aboveWarn 2
    aboveRecovery := streak (decide (w.recovery ≤ r)) k.aboveRecovery 4
    invalid := 0 }

/-- R86: an INVALID result or an unsettled period breaks the six value counters. -/
def Streaks.broken (k : Streaks) : Streaks := { invalid := k.invalid, settled := k.settled, p3Unsettled := k.p3Unsettled }

/-- R86: every counter cleared but the two profile counters. -/
def Streaks.profileOnly (k : Streaks) : Streaks := { settled := k.settled, p3Unsettled := k.p3Unsettled }

/-- R87: the assessment after a value result, the first row that applies; the counters have taken the result. -/
def gradedBy (a : Assessment) (k : Streaks) (r : Nat) (w : Working) : Assessment :=
  if a ≠ .critical ∧ r < w.critical then .critical
  else
    match a with
    | .unknown =>
      if 2 ≤ k.belowFault then .fault
      else if 2 ≤ k.belowWarn then .warning
      else if 2 ≤ k.aboveWarn then .good
      else .unknown
    | .good => if 2 ≤ k.belowFault then .fault else if 2 ≤ k.belowWarn then .warning else .good
    | .warning => if 2 ≤ k.belowFault then .fault else if 4 ≤ k.aboveRecovery then .good else .warning
    | .fault => if 2 ≤ k.aboveFault then .warning else .fault
    | .critical => if 2 ≤ k.aboveCritical then (if r < w.fault then .fault else .warning) else .critical

/-! ### Profile (R83, R84) -/

def Profile.slower : Profile → Profile
  | .p0 => .p1
  | .p1 => .p2
  | .p2 => .p3
  | .p3 => .p3

def Profile.faster : Profile → Profile
  | .p0 => .p0
  | .p1 => .p0
  | .p2 => .p1
  | .p3 => .p2

/-- The full period of a profile in ms (R80). -/
def Profile.periodMs : Profile → Nat
  | .p0 => 500
  | .p1 => 1000
  | .p2 => 2000
  | .p3 => 4000

/-- R78: the profile in use on leaving OFF. -/
def IsoParams.startProfile (p : IsoParams) : Profile := if p.profMode = .auto then .p1 else p.fixed

/-- A change of the profile in use starts a new period, if the monitor injects (R80). -/
def Insulation.useProfile (x : Insulation) (p : Profile) (now : Nat) : Insulation :=
  if p = x.profile then x else { x with profile := p, period := x.period.map fun _ => now }

/-- R83, R84: the profile rules of a settled period. DESIGN CHOICE (log 21): in FIXED mode it moves no profile counter. -/
def Insulation.profileSettled (x : Insulation) (now : Nat) : Insulation :=
  if x.params.profMode = .fixed then x
  else
    let n := x.streaks.settled + 1
    if x.profile = .p0 then { x with streaks := { x.streaks with settled := min 16 n, p3Unsettled := 0 } }
    else if 16 ≤ n then
      { x with streaks := { x.streaks with settled := 0, p3Unsettled := 0 } }.useProfile x.profile.faster now
    else { x with streaks := { x.streaks with settled := n, p3Unsettled := 0 } }

/-- R83, R84: the profile rules of an unsettled period; the third at P3 running gives up the assessment outside
SEARCHING. -/
def Insulation.profileUnsettled (x : Insulation) (now : Nat) : Insulation :=
  if x.params.profMode = .fixed then { x with streaks := { x.streaks with settled := 0 } }
  else if x.profile = .p3 then
    if 3 ≤ x.streaks.p3Unsettled + 1 then
      if x.st ≠ .searching ∧ (x.assess ≠ .unknown ∨ x.source ≠ .own) then
        { x with assess := .unknown, source := .own, streaks := {} }
      else { x with streaks := { x.streaks with settled := 0, p3Unsettled := 0 } }
    else { x with streaks := { x.streaks with settled := 0, p3Unsettled := x.streaks.p3Unsettled + 1 } }
  else { x with streaks := { x.streaks with settled := 0 } }.useProfile x.profile.slower now

/-! ### Monitor states -/

/-- R92, R93: entry to YIELDED: no injection, the result held and flagged EXTERNAL. -/
def Insulation.yielded (x : Insulation) : Insulation :=
  { x with
    st := .yielded, period := none, listenTimer := none
    last := x.last.map fun r => { r with external := true } }

/-- R78, R79: entry to OFF. DESIGN CHOICE (log 21): the working thresholds (R85) stay as they were formed when the last result
becomes absent. -/
def Insulation.offed (x : Insulation) : Insulation :=
  { x with
    st := .off, period := none, listenTimer := none, foreign := false
    assess := .unknown, source := .own, last := none, streaks := {} }

/-- R78, R79: exit from OFF; the working thresholds stay (log 21). -/
def Insulation.leftOff (x : Insulation) (now : Nat) : Insulation :=
  { x with
    st := .measuring, period := some now, profile := x.params.startProfile
    assess := .unknown, source := .own, last := none, streaks := {} }

/-- R91: entry to LISTENING. -/
def Insulation.listening (x : Insulation) (now : Nat) : Insulation :=
  { x with st := .listening, period := none, listenTimer := some now, foreign := false }

/-- R78: whether the pack voltage lets the monitor run. -/
def packAlive (v : Option Nat) : Bool :=
  match v with
  | none => false
  | some x => decide (500 < x)

/-- R100: the end of a search at the monitor: outcome and abort cause, the address under test released, the streaks
other than the profile counters cleared. -/
def Insulation.searchOver (x : Insulation) (o : SearchOutcome) (a : Option AbortCause) (culprit : Option Nat) :
    Insulation :=
  { x with
    streaks := x.streaks.profileOnly
    search :=
      { x.search with
        outcome := o, abort := a, culprit := culprit, under := none, phase := none, accepted := false
        confirmTimer := none, deadlineTimer := none, reconnectTimer := none } }

/-- R100: where a search that ends FOUND or NOT_FOUND leaves the monitor. -/
def Insulation.afterSearch (x : Insulation) : Insulation :=
  if x.dcContext ∧ x.stationMon then x.yielded else { x with st := .measuring }

namespace State

/-! ### Isolation commands (R58, R102, R116) -/

/-- Queue ISOLATE for an ACTIVE node; the heating controller is told for a heater address. -/
def queueIsolate (s : State) (addr : Nat) : State :=
  s.doIf ((s.node addr).st == .active) fun s => (s.queueUrgent .isolate addr).heatIsolate addr

/-- Queue RECONNECT if the node is ACTIVE; the heating controller's request is withdrawn for a heater address. -/
def queueReconnect (s : State) (addr : Nat) : State := (s.queueUrgent .reconnect addr).heatRelease addr

/-- Change the search record. -/
def onSearch (s : State) (f : Search → Search) : State := s.onIso fun x => { x with search := f x.search }

/-- Mark the entry under the cursor. -/
def markEntry (s : State) (m : Mark) : State := s.onSearch fun x => { x with marks := x.marks.set x.cursor m }

/-! ### Steps of a search (R97 to R100) -/

/-- R97: ISOLATE is queued for the address under test and the confirmation timeout starts. -/
def isolateNow (s : State) (addr : Nat) : State :=
  (s.queueIsolate addr).onSearch fun x =>
    { x with phase := some .isolateWait, accepted := false, confirmTimer := some s.now }

/-- R97: the entry becomes the address under test; a charger waits for its commanded setpoint to read 0. -/
def beginTest (s : State) (addr : Nat) : State :=
  let s := s.onSearch fun x =>
    { x with under := some addr, phase := some .setpointWait, accepted := false
             discarded := none, first := none, second := none }
  if addr ≤ 3 ∧ 0 < (s.node addr).commanded then s else s.isolateNow addr

/-- R97: whether the entry is passed over. -/
def skipsEntry (s : State) (addr : Nat) : Bool :=
  (s.node addr).st != .active || (s.node addr).isolated || s.iso.memory.contains addr

/-- R100: NOT_FOUND; with the assessment FAULT the stop cause ISO_FAULT is handed over. -/
def searchNotFound (s : State) : State :=
  let s := s.isoChange fun x => (x.searchOver .notFound none none).afterSearch
  s.doIf (s.iso.assess == .fault) fun s => s.takeStop .isoFault

/-- R97: work the entries from the cursor on: skip, or begin a test; past the last entry the search ends. -/
def searchFrom : List Nat → State → State
  | [], s => s.searchNotFound
  | a :: rest, s =>
    if s.skipsEntry a then
      searchFrom rest ((s.markEntry .skipped).onSearch fun x => { x with cursor := x.cursor + 1 })
    else s.beginTest a

/-- R99: the step is over: the address is released, the cursor advances and the next step begins. -/
def nextStep (s : State) : State :=
  let s := s.onSearch fun x =>
    { x with under := none, phase := none, accepted := false, cursor := x.cursor + 1
             confirmTimer := none, deadlineTimer := none, reconnectTimer := none }
  searchFrom (s.iso.searchList.drop s.iso.search.cursor) s

/-- R99: RECONNECT is queued and the reconnect wait starts. -/
def reconnectStep (s : State) (addr : Nat) : State :=
  (s.queueReconnect addr).onSearch fun x =>
    { x with phase := some .reconnectWait, confirmTimer := none, deadlineTimer := none, reconnectTimer := some s.now }

/-- R96: a search starts; its first step begins. -/
def beginSearch (s : State) (o : SearchOrigin) : State :=
  let s := s.isoChange fun x =>
    { x with
      st := .searching
      streaks := x.streaks.profileOnly
      search :=
        { outcome := .running, origin := o, entries := x.searchList, marks := x.searchList.map fun _ => Mark.pending } }
  searchFrom s.iso.searchList s

/-- R100: RECONNECT for the branch under test of an aborted search; left to the next join of a node not ACTIVE. -/
def dropBranch (s : State) : State :=
  match s.iso.search.under with
  | none => s
  | some a => s.doIf ((s.node a).st == .active) fun s => s.queueReconnect a

/-- R100: a search ends ABORTED; `f` gives the monitor's state after. -/
def abortSearch (s : State) (c : AbortCause) (f : Insulation → Insulation) : State :=
  s.dropBranch.isoChange fun x => f (x.searchOver .aborted (some c) none)

/-- R100, R102: the culprit joins the isolation memory, which is queued for NV. -/
def searchFound (s : State) (addr : Nat) : State :=
  let s := (s.markEntry .culprit).isoChange fun x =>
    { x.searchOver .found none (some addr) with
      memory := if x.memory.contains addr then x.memory else x.memory ++ [addr] }.afterSearch
  s.queueNv (.isoMemory s.iso.memory) false

/-! ### Grading (R86 to R90) -/

/-- R90: what a change of assessment made by the monitor's own results acts on. -/
def assessEffects (s : State) : State :=
  if s.iso.assess = .critical then s.takeStop .isoCritical
  else if s.iso.assess = .fault then
    if s.iso.searchList.isEmpty then s.takeStop .isoFault else s.beginSearch .fault
  else s

/-- R87, R88: grade a result in MEASURING. -/
def gradeResult (s : State) (rd : Reading) (w : Working) : State :=
  match rd with
  | .kOhm r =>
    let s := s.onIso fun x => { x with streaks := x.streaks.value r w }
    let a := gradedBy s.iso.assess s.iso.streaks r w
    if a = s.iso.assess then s
    else (s.isoChange fun x => { x with assess := a, source := .own, streaks := {} }).assessEffects
  | .invalid =>
    let s := s.onIso fun x =>
      { x with streaks := { x.streaks.broken with invalid := min 3 (x.streaks.invalid + 1) } }
    if s.iso.dcContext then
      if 2 ≤ s.iso.streaks.invalid then s.isoChange fun x => x.yielded else s
    else if 3 ≤ s.iso.streaks.invalid ∧ (s.iso.assess ≠ .unknown ∨ s.iso.source ≠ .own) then
      s.isoChange fun x => { x with assess := .unknown, source := .own, streaks := {} }
    else s

/-- R98: a result in the RESULTS phase of a step: the first is discarded, the second and third are taken, and the
culprit test is made. -/
def stepResult (s : State) (rd : Reading) (w : Working) : State :=
  let t : Taken := ⟨rd, match rd with | .kOhm r => decide (w.warn ≤ r) | .invalid => false⟩
  match s.iso.search.under, s.iso.search.discarded, s.iso.search.first with
  | some _, none, _ => s.onSearch fun x => { x with discarded := some rd }
  | some _, some _, none => s.onSearch fun x => { x with first := some t }
  | some a, some _, some u =>
    let s := s.onSearch fun x => { x with second := some t }
    if u.passes ∧ t.passes then s.searchFound a else (s.markEntry .cleared).reconnectStep a
  | none, _, _ => s

/-- R89, R98: a result in SEARCHING: tested for CRITICAL, and given to the step in its RESULTS phase. -/
def searchResult (s : State) (rd : Reading) (w : Working) : State :=
  let critical := match rd with | .kOhm r => decide (r < w.critical) | .invalid => false
  if critical then
    if s.iso.assess = .critical then
      s.abortSearch .critical fun x => { x with st := .measuring }
    else
      (s.abortSearch .critical fun x =>
        { x with st := .measuring, assess := .critical, source := .own, streaks := {} }).takeStop .isoCritical
  else if s.iso.search.phase = some .results then s.stepResult rd w
  else s

/-- R80 to R84: the end of one full injection period. DESIGN CHOICE (log 21): the result is graded before the settled streak
is raised, and an unsettled period clears the six value counters in FIXED mode too. -/
def injectionEnd (s : State) (pos3q posEnd neg3q negEnd : Int) : State :=
  let s := s.onIso fun x => { x with period := some s.now }
  if halfSettled pos3q posEnd && halfSettled neg3q negEnd then
    let um := amplitude posEnd negEnd
    let rd := readingOf um
    let w := workingOf s.iso.params (s.iso.vPack.getD 0)
    let s := s.onIso fun x =>
      { x with working := some w, last := some ⟨rd, um, x.profile, s.now, false⟩ }
    let s := if s.iso.st = .searching then s.searchResult rd w else s.gradeResult rd w
    s.onIso fun x => x.profileSettled s.now
  else
    (s.onIso fun x => { x with streaks := x.streaks.broken }).isoChange fun x => x.profileUnsettled s.now

/-! ### OFF, listening and the station's flags (R78, R91 to R94) -/

/-- R78, R100: the monitor enters OFF from any state. -/
def isoOff (s : State) : State :=
  if s.iso.st = .off then s
  else if s.iso.st = .searching then s.abortSearch .off Insulation.offed
  else s.isoChange Insulation.offed

/-- R78: the monitor is OFF while disabled or without pack voltage, and leaves OFF when neither holds. -/
def isoSupervise (s : State) : State :=
  if s.iso.params.enabled && packAlive s.iso.vPack then
    if s.iso.st = .off then s.isoChange fun x => x.leftOff s.now else s
  else s.isoOff

/-- R94: a station-reported insulation fault. -/
def stationFaultReport (s : State) : State :=
  if s.iso.assess = .critical ∨ (s.iso.assess = .fault ∧ s.iso.source = .external) then s
  else
    let f : Insulation → Insulation := fun x => { x with assess := .fault, source := .external, streaks := {} }
    let s :=
      match s.iso.st with
      | .searching => s.abortSearch .external fun x => (f x).yielded
      | .listening => s.isoChange fun x => (f x).yielded
      | .measuring => s.isoChange fun x => (f x).yielded
      | .yielded => s.isoChange f
      | .off => s.isoChange f
    s.takeStop .isoExternal

/-- R12, R91, R92: the flags of an accepted DC_STATION reach the monitor. -/
def stationFlags (s : State) (mon fault : Bool) : State :=
  let s := s.onIso fun x =>
    { x with stationMon := mon, stationFault := fault
             foreign := x.foreign || (mon && x.st == .listening) }
  let s := s.doIf (mon && s.iso.st == .measuring && s.iso.dcContext) fun s => s.isoChange fun x => x.yielded
  s.doIf fault stationFaultReport

/-- R91: the session controller tells the monitor to listen; the working thresholds outlast a held result given up (log 21). -/
def listenRequest (s : State) : State :=
  let s := s.onIso fun x => { x with dcContext := true, dcClosed := false }
  match s.iso.st with
  | .off => s
  | .measuring => s.isoChange fun x => x.listening s.now
  | .yielded => s.isoChange fun x => { x.listening s.now with last := none }
  | .searching => s.abortSearch .listen fun x => x.listening s.now
  | .listening => s.isoChange fun x => x.listening s.now

/-- R91: the end of the listen window. -/
def listenEnd (s : State) (low high : Int) : State :=
  s.isoChange fun x =>
    let x := { x with foreign := x.foreign || decide (4000 < high - low), listenTimer := none }
    if x.foreign || x.stationMon then x.yielded else { x with st := .measuring, period := some s.now }

/-! ### What the stage link controller posts to the monitor (R97 to R99, R102, R111) -/

/-- R102: a node has joined. -/
def isoJoin (s : State) (addr : Nat) : State :=
  if s.iso.memory.contains addr then s.queueIsolate addr else s.queueReconnect addr

/-- R97 to R99: a node leaves ACTIVE; only a running search has an address under test. -/
def isoNodeLeft (s : State) (addr : Nat) : State :=
  if s.iso.st = .searching ∧ s.iso.search.under = some addr then
    match s.iso.search.phase with
    | some .reconnectWait => s.nextStep
    | some .setpointWait => (s.markEntry .skipped).nextStep
    | some .isolateWait => (s.markEntry .skipped).nextStep
    | some .results => (s.markEntry .skipped).nextStep
    | none => s
  else s

/-- R97: the outcome of an isolation command reaches the monitor. -/
def isoOutcome (s : State) (cmd : StageCmd) (addr : Nat) (accepted : Bool) : State :=
  if s.iso.search.under = some addr ∧ s.iso.search.phase = some .isolateWait ∧ cmd = .isolate then
    if accepted then s.onSearch fun x => { x with accepted := true }
    else (s.markEntry .skipped).reconnectStep addr
  else s

/-- R97: a charger under test whose commanded setpoint has come to read 0 is isolated. -/
def setpointWaitCheck (s : State) : State :=
  match s.iso.search.under with
  | none => s
  | some a =>
    s.doIf (s.iso.search.phase == some .setpointWait && (s.node a).commanded == 0) fun s => s.isolateNow a

/-- R97 to R99, R102: a status reply reaches the monitor; one that reports the branch isolated has set a charger's commanded
setpoint to 0, which ends SETPOINT_WAIT. A reply in RESULTS does nothing (log 21). -/
def isoReply (s : State) (addr : Nat) (isolated : Bool) : State :=
  if s.iso.memory.contains addr then
    if isolated then s else s.queueIsolate addr
  else if s.iso.search.under = some addr then
    match s.iso.search.phase with
    | some .isolateWait =>
      s.doIf (isolated && s.iso.search.accepted) fun s =>
        s.onIso fun x =>
          { x with
            period := some s.now
            search := { x.search with phase := some .results, confirmTimer := none, deadlineTimer := some s.now } }
    | some .reconnectWait => if isolated then s else s.nextStep
    | some .setpointWait => s.setpointWaitCheck
    | some .results => s
    | none => s
  else if isolated then s.queueReconnect addr
  else s

end State

end Sys2Proof.Machine
end

