-- ==== Sys2Proof/Machine/StageOps.lean ====
section
/-! DEFINITION. The shared operations of the stage link controller (chapter 5): joins and departures, the judging of
replies, attempts and final outcomes, the choice of the next transaction, the safe stop and the roll calls. -/

namespace Sys2Proof.Machine

/-- The addresses 1 to 11 in order. -/
def addresses : List Nat := [1, 2, 3, 4, 5, 6, 7, 8, 9, 10, 11]

/-- The outcome of one attempt (R109). `reply` is the payload of a good response frame. -/
inductive AttemptOutcome where
  | accept (reply : List Byte)
  | retry
  | reject
  | checkError
  | noResponse
  | rxCheck
  deriving DecidableEq, Repr, Inhabited

/-- The final outcome of a transaction (R110). -/
inductive FinalOutcome where
  | accept (reply : List Byte)
  | reject
  | failed
  deriving DecidableEq, Repr, Inhabited

/-- R109, R124: the error flag of an attempt outcome. -/
def StageErrors.mark (e : StageErrors) : AttemptOutcome → StageErrors
  | .accept _ => e
  | .retry => e
  | .reject => { e with rejected := true }
  | .checkError => { e with sendCheck := true }
  | .noResponse => { e with noResponse := true }
  | .rxCheck => { e with rxCheck := true }

/-- The kinds whose ACCEPT is followed by a response frame (R109). -/
def StageCmd.responds : StageCmd → Bool
  | .rollCall => true
  | .statusQuery => true
  | .setpoint => false
  | .isolate => false
  | .reconnect => false

/-- The payload length of a response frame (section 10.3). -/
def StageCmd.responseLen : StageCmd → Nat
  | .rollCall => 3
  | .statusQuery => 6
  | .setpoint => 0
  | .isolate => 0
  | .reconnect => 0

/-- R108, R199: the payload of a good response frame to a transaction. -/
def responsePayload (t : Transaction) (bytes : List Byte) : Option (List Byte) :=
  match bytes with
  | head :: len :: rest =>
    if head = byte (t.addr * 16 + t.cmd.code) ∧ len.toNat = t.cmd.responseLen ∧
        rest.length = t.cmd.responseLen + 1 ∧ good8 bytes then
      some (rest.take t.cmd.responseLen)
    else none
  | _ => none

/-- The node kind of a reply byte (R199): a code other than 1 or 2 is a kind other than expected. -/
def replyNodeKind (b : Byte) : Option NodeKind :=
  if b = 1 then some .charger else if b = 2 then some .heater else none

/-- The payload of a SETPOINT (R122): watts for a charger, ON or OFF for a heater. -/
def setpointPayload (k : NodeKind) (watts : Nat) : List Byte :=
  if k = .heater then [flag (decide (0 < watts))] else be 2 watts

/-- The row a status reply leaves (R121, R199): headroom of a charger held to 7,400 W, temperature of a heater when
bit 0 is set, fault flags, isolated flag, the commanded setpoint 0 while isolated (R122), and the reply's stamp. -/
def Node.takeReply (n : Node) (reply : List Byte) (now : Nat) : Node :=
  let value := (reply.drop 3).take 2
  let flags := reply.getD 5 0
  { n with
    headroom := if n.expected = .charger then min 7400 (ofBe value) else n.headroom
    temp := if n.expected = .heater ∧ flags.getLsbD 0 then some (ofBeInt16 value) else none
    faultA := flags.getLsbD 2
    faultB := flags.getLsbD 3
    isolated := flags.getLsbD 1
    commanded := if flags.getLsbD 1 then 0 else n.commanded
    replyStamp := some now }

/-- R121: a status reply names the expected kind and the held rating. -/
def Node.agrees (n : Node) (reply : List Byte) : Bool :=
  replyNodeKind (reply.getD 0 0) == some n.expected && n.rating == some (ofBe ((reply.drop 1).take 2))

/-- The frame of one attempt, its payload the one formed when the transaction began (section 10.3, R110). -/
def Transaction.frame (t : Transaction) : List Byte := stageFrame t.addr t.cmd.code t.payload

namespace State

/-! ### The queues -/

/-- R113, R114: remove every entry of a node from both queues. -/
def dropEntries (s : State) (addr : Nat) : State :=
  s.onStage fun g =>
    { g with
      urgent := g.urgent.filter fun e => e.addr != addr
      normal := g.normal.filter fun e => e.addr != addr }

/-- R115: queue ROLL_CALL for addresses, in the order given. -/
def rollCallFor (s : State) (addrs : List Nat) : State :=
  addrs.foldl (fun s a => s.queueNormal .rollCall a) s

/-- R115: every expected address. -/
def fullRollCall (s : State) : State :=
  s.rollCallFor (addresses.filter fun a => (s.node a).expected != .none)

/-! ### Leaving ACTIVE and joining (R113) -/

/-- R113: a node's row leaves for a state other than ACTIVE, with its entries removed and its postings. -/
def leaveActive (s : State) (addr : Nat) (st : NodeState) : State :=
  let s := (s.dropEntries addr).onNode addr fun n =>
    { n with st := st, pollTimer := none, refreshTimer := none, temp := none, headroom := 0, acked := none }
  (((s.heatNodeState addr st).postCharger addr).isoNodeLeft addr).raise .stage

/-- R113: a join. -/
def join (s : State) (addr rating : Nat) : State :=
  let s := s.onNode addr fun n =>
    { n with
      st := .active, rating := some rating, headroom := 0, temp := none, faultA := false, faultB := false
      isolated := false, acked := none, replyStamp := none }
  let s := s.onStage fun g => { g with normal := g.normal.filter fun e => e != ⟨.rollCall, addr⟩ }
  let s := s.isoJoin addr
  let s := (s.heatRollCall addr .active rating).postCharger addr
  let s := (s.queueNormal .statusQuery addr).queueNormal .setpoint addr
  (s.onNode addr fun n => { n with pollTimer := some s.now, refreshTimer := some s.now }).raise .stage

/-- R112: a roll call reply that names a kind other than the expected one. -/
def mismatchReply (s : State) (addr rating : Nat) : State :=
  let changed := (s.node addr).st != .mismatch
  let s := s.onNode addr fun n => { n with st := .mismatch, rating := some rating }
  let s := s.heatRollCall addr .mismatch rating
  s.doIf changed fun s => (s.postCharger addr).raise .stage

/-- R112: a roll call that ended ACCEPT is judged. -/
def judgeRollCall (s : State) (addr : Nat) (reply : List Byte) : State :=
  let kind := replyNodeKind (reply.getD 0 0)
  let rating := ofBe ((reply.drop 1).take 2)
  match (s.node addr).st with
  | .absent => s
  | .active => s
  | .missing => if kind = some (s.node addr).expected then s.join addr rating else s.mismatchReply addr rating
  | .lost => if kind = some (s.node addr).expected then s.join addr rating else s.mismatchReply addr rating
  | .mismatch => if kind = some (s.node addr).expected then s.join addr rating else s.mismatchReply addr rating

/-! ### Status replies (R121) -/

/-- R121: the part of a status reply that is taken when its kind and rating agree. -/
def takeReply (s : State) (addr : Nat) (reply : List Byte) : State :=
  let old := s.node addr
  let s := s.onNode addr fun n => n.takeReply reply s.now
  let new := s.node addr
  let s := s.doIf (new.commanded != old.commanded) fun s => s.compareSetpoint addr
  let s := s.doIf (new.headroom != old.headroom || new.isolated != old.isolated) fun s => s.postCharger addr
  let s := s.heatReply addr new.temp new.faultA new.faultB new.isolated
  let s := s.isoReply addr new.isolated
  s.doIf (new.faultA != old.faultA || new.faultB != old.faultB || new.isolated != old.isolated)
    fun s => s.raise .stage

/-- R121: a status reply of a STATUS_QUERY that ended ACCEPT. -/
def statusReply (s : State) (addr : Nat) (reply : List Byte) : State :=
  if (s.node addr).agrees reply then s.takeReply addr reply else s.leaveActive addr .mismatch

/-! ### Final outcomes (R110, R111) -/

/-- R110: a FAILED transaction to an ACTIVE node makes it LOST. -/
def failedNode (s : State) (addr : Nat) : State :=
  s.doIf ((s.node addr).st == .active) fun s =>
    (s.onStage fun g => { g with errors := { g.errors with lostEvent := true } }).leaveActive addr .lost

/-- R111, R123: a SETPOINT ends ACCEPT: the value sent is acknowledged and the refresh time starts again. -/
def acknowledge (s : State) (t : Transaction) : State :=
  (s.onNode t.addr fun n => { n with acked := some t.value, refreshTimer := some s.now }).compareSetpoint t.addr

/-- R111, R123: a SETPOINT ends REJECT: the refresh sends it again, a value written in the meantime is compared
(log 10). -/
def rejectedSetpoint (s : State) (t : Transaction) : State :=
  s.doIf ((s.node t.addr).commanded != t.value) fun s => s.compareSetpoint t.addr

/-- R111: the final outcome of a transaction, by its kind; a node that has left ACTIVE takes R110 alone, and the
outcome of an ABSENT node is discarded. -/
def actFinal (s : State) (t : Transaction) (o : FinalOutcome) : State :=
  if (s.node t.addr).st = .absent then s
  else
    match o with
    | .failed => s.failedNode t.addr
    | .reject =>
      match t.cmd with
      | .rollCall => s
      | .statusQuery => s
      | .setpoint => s.doIf ((s.node t.addr).st == .active) fun s => s.rejectedSetpoint t
      | .isolate => s.doIf ((s.node t.addr).st == .active) fun s => s.isoOutcome .isolate t.addr false
      | .reconnect => s.doIf ((s.node t.addr).st == .active) fun s => s.isoOutcome .reconnect t.addr false
    | .accept reply =>
      match t.cmd with
      | .rollCall => s.judgeRollCall t.addr reply
      | .statusQuery => s.doIf ((s.node t.addr).st == .active) fun s => s.statusReply t.addr reply
      | .setpoint => s.doIf ((s.node t.addr).st == .active) fun s => s.acknowledge t
      | .isolate => s.doIf ((s.node t.addr).st == .active) fun s => s.isoOutcome .isolate t.addr true
      | .reconnect => s.doIf ((s.node t.addr).st == .active) fun s => s.isoOutcome .reconnect t.addr true

/-- The link is free again, and the final outcome acts. -/
def endTransaction (s : State) (t : Transaction) (o : FinalOutcome) : State :=
  (s.onStage fun g => { g with inFlight := none }).actFinal t o

/-- R110: a retried outcome: a wait before the next attempt, or FAILED after the fourth. -/
def retryOrFail (s : State) (t : Transaction) : State :=
  if t.attempt < 4 then s.onStage fun g => { g with inFlight := some { t with phase := .retryWait } }
  else s.endTransaction t .failed

/-- R109, R110, R119: the end of one attempt. Its error flag is set; a transaction cut short by a safe stop ends
ABANDONED with no other effect. -/
def attemptEnd (s : State) (t : Transaction) (o : AttemptOutcome) : State :=
  let s := s.onStage fun g => { g with errors := g.errors.mark o }
  if t.abandon then s.onStage fun g => { g with inFlight := none }
  else
    match o with
    | .accept reply => s.endTransaction t (.accept reply)
    | .reject => s.endTransaction t .reject
    | .retry => s.retryOrFail t
    | .checkError => s.retryOrFail t
    | .noResponse => s.retryOrFail t
    | .rxCheck => s.retryOrFail t

/-! ### Beginning work (R118, R122) -/

/-- Put a transaction's attempt on the wire. -/
def sendAttempt (s : State) (t : Transaction) : State :=
  s.onStage fun g => { g with inFlight := some t, wire := t.frame }

/-- A transaction begins with the commanded setpoint as it stands, which forms its payload (R122). -/
def beginTransaction (s : State) (e : StageEntry) : State :=
  s.sendAttempt
    { cmd := e.cmd, addr := e.addr, value := (s.node e.addr).commanded, attempt := 1, phase := .awaitStatus
      payload := if e.cmd = .setpoint then setpointPayload (s.node e.addr).expected (s.node e.addr).commanded else [] }

/-- R119: the first broadcast begins. -/
def safeStopFirst (s : State) : State :=
  s.onStage fun g =>
    { g with
      broadcast := .firstSent
      wire := safeStopFrame
      normal := g.normal.filter fun e => e.cmd != .setpoint
      nodes := g.nodes.map fun n => { n with acked := some 0, refreshTimer := none } }

/-- R119: the second broadcast has been sent: the flag is cleared and the controller falls silent; the node supply
goes off (section 8.1). -/
def safeStopSecond (s : State) : State :=
  s.onStage fun g =>
    { g with broadcast := .idle, wire := safeStopFrame, safeStop := false, silent := true, supplyOn := false }

/-- The link is free: node supply on, nothing in flight, no broadcast under way, not silent. -/
def linkFree (s : State) : Bool :=
  s.stage.supplyOn && s.stage.inFlight.isNone && s.stage.broadcast == .idle && !s.stage.silent

/-- R118: the next piece of work. -/
def nextWork (s : State) : State :=
  if s.linkFree then
    if s.stage.safeStop then s.safeStopFirst
    else if s.inRun then
      match s.stage.urgent, s.stage.normal with
      | e :: rest, _ => (s.onStage fun g => { g with urgent := rest }).beginTransaction e
      | [], e :: rest => (s.onStage fun g => { g with normal := rest }).beginTransaction e
      | [], [] => s
    else s
  else s

/-- R119: the safe stop is requested; a transaction in flight is cut short. -/
def safeStopRequest (s : State) : State :=
  if s.stage.safeStop then s
  else
    s.onStage fun g =>
      { g with
        safeStop := true
        inFlight := g.inFlight.bind fun t =>
          if t.phase = .retryWait then none else some { t with abandon := true } }

/-! ### The roster (R114) -/

/-- R114: one address whose expected kind changes. -/
def rosterChange (s : State) (addr : Nat) (k : NodeKind) : State :=
  let old := s.node addr
  let s := s.onNode addr fun n => { n with expected := k }
  if k = .none then
    if old.st = .active then s.leaveActive addr .absent
    else ((((s.dropEntries addr).onNode addr fun n => { n with st := .absent }).heatNodeState addr .absent).postCharger
      addr).raise .stage
  else
    ((((s.onNode addr fun n => { n with st := .missing }).queueNormal .rollCall addr).heatNodeState addr
      .missing).postCharger addr).raise .stage

/-- R114: the roster's kinds for addresses 1 to 11 are taken. DESIGN CHOICE (log 21): R114 has every changed address
dealt with in the same step and names no order; they are taken in address order, and so the ROLL_CALLs of several newly
named addresses are queued. -/
def setRoster (s : State) (kinds : List NodeKind) : State :=
  let s := (addresses.zip kinds).foldl
    (fun s p => s.doIf ((s.node p.1).expected != p.2) fun s => s.rosterChange p.1 p.2) s
  (((s.heatConfigure kinds).postCharger 1).postCharger 2).postCharger 3

/-! ### Entry to STANDBY or SLEEP (R127) -/

/-- R127, steps 2 to 4, once no transaction is in flight. -/
def stageStandby (s : State) : State :=
  let s := s.onStage fun g =>
    { g with
      urgent := [], normal := [], recallTimer := none, supplyOn := false, entryWait := false
      nodes := g.nodes.map fun n => { n with pollTimer := none, refreshTimer := none } }
  addresses.foldl
    (fun s a =>
      s.doIf ((s.node a).st == .active || (s.node a).st == .lost || (s.node a).st == .mismatch)
        fun s => s.leaveActive a .missing) s

/-- R127: the return to RUN at the stage link controller. -/
def stageReturn (s : State) : State :=
  (s.onStage fun g =>
    { g with supplyOn := true, errors := {}, recallTimer := some s.now, silent := false }).fullRollCall

/-- R127, R176: the completion of start-up at the stage link controller. -/
def stageStart (s : State) : State :=
  let s := s.onStage fun g => { g with supplyOn := true, recallTimer := some s.now }
  let s := s.heatConfigure (s.stage.nodes.map Node.expected)
  (((s.postCharger 1).postCharger 2).postCharger 3).fullRollCall

end State

end Sys2Proof.Machine
end

