-- ==== Sys2Proof/Machine/BudgetOps.lean ====
section
/-! DEFINITION. The budget unit's chain (section 2.3) as a pure function of its input record, its parameters and its
table, the posting of its outputs (R41, R51), and the arrival of a posting at the input record (R30). -/

namespace Sys2Proof.Machine

/-! ### What the chain reads (R31, R33, R34, R40) -/

/-- The declared phases' voltages that are present (R31). -/
def BudgetInput.presentPhases (i : BudgetInput) : List Nat :=
  let declared :=
    if i.phases = 1 then [i.v1] else if i.phases = 3 then [i.v1, i.v2, i.v3] else []
  declared.filter fun v => decide (1800 < v)

/-- The lowest of a list of voltages, 0 of an empty one. -/
def lowest : List Nat → Nat
  | [] => 0
  | [v] => v
  | v :: w :: r => min v (lowest (w :: r))

/-- R31: V_pack and where it came from; a source that holds 0 counts as absent. -/
def BudgetInput.vPack (i : BudgetInput) : Option Nat × PackSource :=
  match i.packV.filter fun v => decide (0 < v) with
  | some v => (some v, .meter)
  | none =>
    if i.limits.present ∧ ¬ i.limits.stale ∧ 0 < i.limits.packV then (some i.limits.packV, .limits)
    else (none, .meter)

/-- The interpolated derate between two points (R40); the division is floored. -/
def interpolate (p q : Point) (t : Int) : Nat :=
  ((p.2 : Int) + (t - p.1) * ((q.2 : Int) - p.2) / (q.1 - p.1)).toNat

/-- R40: the derate at or above the first point's temperature. -/
def derateFrom : List Point → Int → Nat
  | [], _ => 0
  | [p], _ => p.2
  | p :: q :: r, t => if t < q.1 then interpolate p q t else derateFrom (q :: r) t

/-- R40: the derate read from the table at the minimum zone temperature. -/
def derateAt (table : List Point) (t : Option HalfDeg) : Nat :=
  let p := table.headD (0, 0)
  match t with
  | none => p.2
  | some t => if t < p.1 then p.2 else derateFrom table t

/-- R43: the power the station record gives at a pack voltage. -/
def BudgetInput.stationPower (i : BudgetInput) (v : Option Nat) : Nat :=
  match v with
  | none => 0
  | some v =>
    if i.stState = .fresh ∧ v ≤ i.stMaxV then min i.stMaxP (i.stMaxI * v / 100) else 0

/-! ### The charger split (R48) -/

/-- The rows that take part in the split: address and headroom. -/
def BudgetInput.eligible (i : BudgetInput) : List (Nat × Nat) :=
  ([(1, i.row1), (2, i.row2), (3, i.row3)].filter fun p => p.2.eligible).map fun p => (p.1, p.2.headroom)

/-- One round's shares: the floored quotient, the watts left over one each from the lowest address. -/
def shares (q left : Nat) : List (Nat × Nat) → List (Nat × Nat × Nat)
  | [] => []
  | m :: r => (m.1, m.2, if 0 < left then q + 1 else q) :: shares q (left - 1) r

/-- The rounds of R48 over an open group: each address with its setpoint. -/
def splitRounds : Nat → Nat → List (Nat × Nat) → List (Nat × Nat)
  | 0, _, _ => []
  | fuel + 1, amount, group =>
    if group.isEmpty then []
    else
      let sh := shares (amount / group.length) (amount % group.length) group
      if sh.all fun m => decide (m.2.2 ≤ m.2.1) then sh.map fun m => (m.1, m.2.2)
      else
        let full := (sh.filter fun m => decide (m.2.1 < m.2.2)).map fun m => (m.1, m.2.1)
        let rest := (sh.filter fun m => decide (m.2.2 ≤ m.2.1)).map fun m => (m.1, m.2.1)
        full ++ splitRounds fuel (amount - (full.map Prod.snd).sum) rest

/-- The setpoint a split gives an address; 0 for a charger that took no part. -/
def shareOf (l : List (Nat × Nat)) (addr : Nat) : Nat := ((l.find? fun p => p.1 == addr).map Prod.snd).getD 0

/-- R48: the split of a charge target. -/
def split (i : BudgetInput) (charge : Nat) : List (Nat × Nat) := splitRounds 3 charge i.eligible

/-! ### The evaluation (R41 to R51) -/

/-- R42: the inlet current limit. -/
def currentLimit (i : BudgetInput) (p : BudgetParams) : Nat :=
  let x := min (min i.offer i.cable) p.cap * i.derate / 1000
  if x < 60 then 0 else x

/-- R43: the inlet power. -/
def inletPower (i : BudgetInput) (iLim : Nat) : Nat :=
  if i.sess = .active ∨ i.sess = .paused then
    match i.mode with
    | some .ac => i.presentPhases.length * lowest i.presentPhases * iLim / 100
    | some .dc => i.stationPower i.vPack.1
    | none => 0
  else 0

/-- R45: the pack allowance. -/
def packAllowance (i : BudgetInput) (derate : Nat) : Nat :=
  if i.limits.present ∧ ¬ i.limits.stale then i.vPack.1.getD 0 * i.limits.maxI * derate / 100000 else 0

/-- R46: band gating makes the grant 0. -/
def gated (i : BudgetInput) (derate : Nat) : Bool := i.gating && !i.preferred && derate != 0

/-- R46: the heat grant. -/
def heatGrant (i : BudgetInput) (p : BudgetParams) (avail pack derate : Nat) : Nat :=
  if !gridPermitted i.gridMode i.window || gated i derate || !i.demands then 0
  else if derate = 0 then avail
  else min avail (max (avail * p.share / 1000) (avail - pack))

/-- R42, R43: the no-offer flag. DESIGN CHOICE (log 21): whether a DC station offers is tested on the station's own figures,
whatever the session state. -/
def noOfferFlag (i : BudgetInput) (iLim : Nat) : Bool :=
  match i.mode with
  | some .ac => iLim == 0
  | some .dc => i.stationPower i.vPack.1 == 0
  | none => false

/-- R50: draw is wanted. -/
def wantsDraw (i : BudgetInput) (noOffer : Bool) (pInlet pack charge grant derate : Nat) : Bool :=
  if i.mode = some .ac ∧ (i.sess = .active ∨ i.sess = .paused) ∧ pInlet = 0 ∧ ¬ noOffer then
    decide (0 < pack) || (i.demands && gridPermitted i.gridMode i.window && !gated i derate)
  else decide (0 < charge) || (decide (0 < grant) && i.demands)

/-- R49: the DC current request formed. -/
def dcRequestOf (i : BudgetInput) (charge : Nat) : Nat :=
  match i.mode, i.vPack.1 with
  | some .dc, some v => charge * 100 / v
  | _, _ => 0

/-- R51: the pack heat allowance posted. -/
def heatAllowanceOf (i : BudgetInput) : Nat := if i.limits.present ∧ ¬ i.limits.stale then i.limits.heat else 0

/-- R41: one evaluation: every figure formed, and what R51 posts. -/
def evaluate (i : BudgetInput) (p : BudgetParams) (table : List Point) : EvalRecord :=
  let iLim := currentLimit i p
  let pInlet := inletPower i iLim
  let avail := if i.searchHold then 0 else pInlet - p.aux
  let derate := derateAt table i.minTemp
  let pack := packAllowance i derate
  let grant := heatGrant i p avail pack derate
  let charge := min (avail - i.heatOn) pack
  let sp := if i.mode = some .ac then split i charge else []
  let dc := dcRequestOf i charge
  let noOffer := noOfferFlag i iLim
  let draw := wantsDraw i noOffer pInlet pack charge grant derate
  let posts := i.sess == .active
  { sess := i.sess, mode := i.mode, iLim := iLim
    nPh := i.presentPhases.length, vMin := lowest i.presentPhases
    vPack := i.vPack.1, vSource := i.vPack.2
    pInlet := pInlet, pAvail := avail, derate := derate, tAbsent := i.minTemp.isNone, pPack := pack
    grant := grant, grantPosted := if posts then grant else 0
    heatOn := i.heatOn
    charge := charge, chargePosted := if posts then charge else 0
    set1 := shareOf sp 1, set2 := shareOf sp 2, set3 := shareOf sp 3
    dcRequest := dc, dcRequestPosted := if posts then dc else 0
    heatAllowance := heatAllowanceOf i
    permitted := gridPermitted i.gridMode i.window
    noOffer := noOffer, noDraw := !draw && !noOffer && !i.searchHold
    noStages := i.mode == some .ac && decide (0 < charge) && i.eligible.isEmpty
    drawWanted := draw }

/-- R51: the setpoint posted for an address. -/
def EvalRecord.posted (e : EvalRecord) (addr : Nat) : Nat :=
  if e.sess = .active then (if addr = 1 then e.set1 else if addr = 2 then e.set2 else e.set3) else 0

/-! ### Postings to the input record (R30) -/

/-- The writer of a posting (section 2.1). -/
def BudgetPosting.writer : BudgetPosting → Writer
  | .session _ _ => .session
  | .offer _ => .session
  | .cable _ => .session
  | .inletDerate _ => .session
  | .phases _ => .session
  | .stationFresh _ _ _ => .session
  | .stationStale => .session
  | .stationAbsent => .session
  | .phaseVolts _ _ _ => .meter
  | .packVolts _ => .meter
  | .minTemp _ => .heating
  | .demands _ => .heating
  | .gridMode _ => .heating
  | .gating _ => .heating
  | .window _ => .heating
  | .heatOn _ => .heating
  | .searchHold _ => .insulation
  | .preferred _ => .billing
  | .chargerRow _ _ => .stage

/-- R30: a posting replaces the fields it carries. DESIGN CHOICE (log 20): R33 has STALE and ABSENT posted as a state alone, so
the three station limits stand as last posted. -/
def BudgetInput.take (i : BudgetInput) : BudgetPosting → BudgetInput
  | .session st m => { i with sess := st, mode := m }
  | .offer n => { i with offer := n }
  | .cable n => { i with cable := n }
  | .inletDerate n => { i with derate := n }
  | .phases n => { i with phases := n }
  | .stationFresh v a w => { i with stMaxV := v, stMaxI := a, stMaxP := w, stState := .fresh }
  | .stationStale => { i with stState := .stale }
  | .stationAbsent => { i with stState := .absent }
  | .phaseVolts a b c => { i with v1 := a, v2 := b, v3 := c }
  | .packVolts v => { i with packV := v }
  | .minTemp t => { i with minTemp := t }
  | .demands b => { i with demands := b }
  | .gridMode m => { i with gridMode := m }
  | .gating b => { i with gating := b }
  | .window b => { i with window := b }
  | .heatOn w => { i with heatOn := w }
  | .searchHold b => { i with searchHold := b }
  | .preferred b => { i with preferred := b }
  | .chargerRow a r => if a = 1 then { i with row1 := r } else if a = 2 then { i with row2 := r } else { i with row3 := r }

/-- The oldest posting of a writer and the postings that stay on their way. -/
def takePosting (w : Writer) : List BudgetPosting → Option (BudgetPosting × List BudgetPosting)
  | [] => none
  | p :: r => if p.writer = w then some (p, r) else (takePosting w r).map fun x => (x.1, p :: x.2)

namespace State

/-- R15: the session controller takes the draw status of an evaluation. -/
def takeDraw (s : State) (e : EvalRecord) : State :=
  if s.session.st = .active ∨ s.session.st = .paused then
    (s.onSession fun x => { x with dcRequest := e.dcRequestPosted }).setCauses
      { s.session.causes with noOffer := e.noOffer, nothingToDo := e.noDraw, noStages := e.noStages }
  else s.onSession fun x => { x with dcRequest := 0 }

/-- R41: the outputs of an evaluation are posted. -/
def postOutputs (s : State) (e : EvalRecord) : State :=
  let s := s.postHeat ⟨e.grantPosted, e.heatAllowance⟩
  let s := ((s.writeSetpoint 1 (e.posted 1)).writeSetpoint 2 (e.posted 2)).writeSetpoint 3 (e.posted 3)
  (s.takeDraw e).setpointWaitCheck

/-- R41: an evaluation: the last evaluation record is replaced whole and the outputs are posted. -/
def evalBudget (s : State) : State :=
  let e := evaluate s.budget.input s.budget.params s.budget.table
  (s.onBudget fun b => { b with last := e }).postOutputs e

/-- R30: change the input record, with an evaluation if it then differs; none outside RUN (R37). -/
def changeInput (s : State) (f : BudgetInput → BudgetInput) : State :=
  let old := s.budget.input
  let s := s.onBudget fun b => { b with input := f b.input }
  s.doIf (s.inRun && s.budget.input != old) evalBudget

end State

end Sys2Proof.Machine
end

