-- ==== Sys2Proof/Machine/MeterOps.lean ====
section
/-! DEFINITION. The meter's sample (chapter 6): the powers, the integration of energy with its residues and limits,
the voltage postings, and the stop of the meter. -/

namespace Sys2Proof.Machine

/-! ### Powers (R131) -/

/-- R131: P_grid by the session mode. -/
def gridPower (mode : Option Mode) (f : FrontEnd) : Nat :=
  if mode = some .dc then (((f.vDc : Int) * f.iDc) / 100).toNat else (f.p1 + f.p2 + f.p3).toNat

/-- The pack voltage of a sample: present when the channel is valid and the reading above 0 (R128). -/
def packReading (f : FrontEnd) : Option Nat := if f.packValid ∧ 0 < f.vPack then some f.vPack else none

/-- R131: P_heat. -/
def heatPower (f : FrontEnd) : Nat :=
  match packReading f with
  | none => 0
  | some v => (((v : Int) * f.iHeat) / 100).toNat

/-- R131: P_packnet, the quotient truncated. -/
def packNetPower (f : FrontEnd) : Int :=
  match packReading f with
  | none => 0
  | some v => ((v : Int) * (f.iHv - f.iHeat)).tdiv 100

/-- R128: the front end holds each reading to the range of its field (section 6.1). -/
def heldReadings (f : FrontEnd) : FrontEnd :=
  { v1 := min 3000 f.v1, v2 := min 3000 f.v2, v3 := min 3000 f.v3
    i1 := min 1000 f.i1, i2 := min 1000 f.i2, i3 := min 1000 f.i3
    p1 := clampInt (-30000) 30000 f.p1, p2 := clampInt (-30000) 30000 f.p2, p3 := clampInt (-30000) 30000 f.p3
    vDc := min 10000 f.vDc, iDc := clampInt (-5000) 5000 f.iDc
    packValid := f.packValid, vPack := min 10000 f.vPack
    iHv := clampInt (-5000) 5000 f.iHv, iHeat := clampInt (-1000) 1000 f.iHeat }

/-- R128: the live measurement record of a sample. -/
def liveOf (mode : Option Mode) (f : FrontEnd) : Live :=
  { v1 := f.v1, v2 := f.v2, v3 := f.v3, i1 := f.i1, i2 := f.i2, i3 := f.i3, p1 := f.p1, p2 := f.p2, p3 := f.p3
    vDc := f.vDc, iDc := f.iDc, packV := packReading f, iHv := f.iHv, iHeat := f.iHeat
    pGrid := gridPower mode f, pHeat := heatPower f, pPackNet := packNetPower f, running := true }

/-! ### Energy (R132 to R134, R137) -/

/-- The limit of an unsigned session accumulator, 40 bits (R133). -/
def accLimit : Nat := 1099511627775

/-- The limits of the PACK_NET accumulator (R133). -/
def netMax : Int := 549755813887
def netMin : Int := -549755813888

/-- The limit of a lifetime total, 48 bits (R137). -/
def totalLimit : Nat := 281474976710655

/-- R132: the mWh a sample credits and the residue it leaves. -/
def credit (residue power : Nat) : Nat × Nat := ((residue + power) / 36, (residue + power) % 36)

/-- R133: the signed credit and residue of PACK_NET, worked toward zero from either side. -/
def creditNet (residue power : Int) : Int × Int := ((residue + power).tdiv 36, (residue + power).tmod 36)

/-- R134: the heat channel of a sample. -/
def heatChannelOf (src : HeatSource) (pGrid : Nat) : HeatChannel :=
  match src with
  | .grid => .heatGrid
  | .pack => .heatPack
  | .none => if 0 < pGrid then .heatGrid else .heatPack

/-- R133: the PACK_NET accumulator takes a credit. -/
def Channel.addNet (d : Channel) (n : Int) : Channel :=
  { d with
    packNet := clampInt netMin netMax (d.packNet + n)
    posSat := d.posSat || decide (netMax < d.packNet + n)
    negSat := d.negSat || decide (d.packNet + n < netMin) }

/-- R135: the session channel takes one sample's credits while it is open. -/
def Channel.take (d : Channel) (grid heatGrid heatPack : Nat) (net : Int) : Channel :=
  if d.isOpen then
    { d with
      grid := min accLimit (d.grid + grid)
      heatGrid := min accLimit (d.heatGrid + heatGrid)
      heatPack := min accLimit (d.heatPack + heatPack) }.addNet net
  else d

/-- R132 to R134, R137: the energy of one sample's powers. -/
def Meter.integrate (m : Meter) (src : HeatSource) (pGrid pHeat : Nat) (pNet : Int) : Meter :=
  let ch := heatChannelOf src pGrid
  let g := credit m.resGrid pGrid
  let hg := if ch = .heatGrid then credit m.resHeatGrid pHeat else (0, m.resHeatGrid)
  let hp := if ch = .heatPack then credit m.resHeatPack pHeat else (0, m.resHeatPack)
  let n := creditNet m.resPackNet pNet
  { m with
    resGrid := g.2, resHeatGrid := hg.2, resHeatPack := hp.2, resPackNet := n.2
    channel := m.channel.take g.1 hg.1 hp.1 n.1
    totals :=
      { grid := min totalLimit (m.totals.grid + g.1)
        heatGrid := min totalLimit (m.totals.heatGrid + hg.1)
        heatPack := min totalLimit (m.totals.heatPack + hp.1) }
    satGrid := m.satGrid || decide (totalLimit < m.totals.grid + g.1)
    satHeatGrid := m.satHeatGrid || decide (totalLimit < m.totals.heatGrid + hg.1)
    satHeatPack := m.satHeatPack || decide (totalLimit < m.totals.heatPack + hp.1)
    lastChannel := ch }

/-! ### Voltage postings (R129) -/

/-- R129: a phase voltage is posted against the value last posted. -/
def phaseTrigger (posted v : Nat) : Bool :=
  decide (5 ≤ distance posted v) || decide (1800 < posted) != decide (1800 < v)

/-- R129: a pack voltage is posted against the value last posted. -/
def packTrigger : Option Nat → Option Nat → Bool
  | none, none => false
  | some a, some b => decide (5 ≤ distance a b) || decide (500 < a) != decide (500 < b)
  | none, some _ => true
  | some _, none => true

namespace State

/-- R129: the phase voltages that meet their trigger go in one posting; the others carry the value last posted
(log 16). -/
def postPhases (s : State) (v1 v2 v3 : Nat) : State :=
  let m := s.meter
  let t1 := phaseTrigger m.posted1 v1
  let t2 := phaseTrigger m.posted2 v2
  let t3 := phaseTrigger m.posted3 v3
  let n1 := if t1 then v1 else m.posted1
  let n2 := if t2 then v2 else m.posted2
  let n3 := if t3 then v3 else m.posted3
  s.doIf (t1 || t2 || t3) fun s =>
    (s.onMeter fun m => { m with posted1 := n1, posted2 := n2, posted3 := n3 }).postBudget (.phaseVolts n1 n2 n3)

/-- R129: the pack voltage goes to the budget input record and to the insulation monitor. -/
def postPack (s : State) (v : Option Nat) : State :=
  s.doIf (packTrigger s.meter.postedPack v) fun s =>
    ((s.onMeter fun m => { m with postedPack := v }).postBudget (.packVolts v)).postIso v

/-- R128 to R134: one sample. -/
def sample (s : State) (f : FrontEnd) : State :=
  let f := heldReadings f
  let live := liveOf s.meter.mode f
  let src := s.heating.source
  let s := s.onMeter fun m =>
    { m.integrate src live.pGrid live.pHeat live.pPackNet with
      live := live, sampleStamp := some s.now, period := some s.now }
  let s := (s.postPhases live.v1 live.v2 live.v3).postPack live.packV
  s.acVoltageCheck.rampCheck

/-- R130, R138: the meter stops: the record reads 0, the period in progress is abandoned. -/
def meterStop (s : State) : State := s.onMeter fun m => { m with live := {}, period := none }

/-- R130: the stop on entry to STANDBY or SLEEP posts its voltages as 0 and absent. -/
def meterStandby (s : State) : State :=
  let s := s.meterStop.onMeter fun m => { m with posted1 := 0, posted2 := 0, posted3 := 0, postedPack := none }
  ((s.postBudget (.phaseVolts 0 0 0)).postBudget (.packVolts none)).postIso none

end State

end Sys2Proof.Machine
end

