-- ==== Sys2Proof/Machine/NvOps.lean ====
section
/-! DEFINITION. The NV store (section 8.4): the two copies of an area, the choice of the next write, its completion and
its failure, and the load of an area. -/

namespace Sys2Proof.Machine

/-! ### The two copies of an area (R177) -/

/-- The sequence count of a copy; 0 of an erased one. -/
def copySeq {α : Type} : Copy α → Nat
  | .erased => 0
  | .good q _ => q
  | .torn q _ => q

/-- R177: the newest good content, its sequence count, and whether the second copy holds it. -/
def newest {α : Type} (x : Area α) : Option (Nat × α × Bool) :=
  match x.a, x.b with
  | .good p u, .good q v => if q ≤ p then some (p, u, false) else some (q, v, true)
  | .good p u, _ => some (p, u, false)
  | _, .good q v => some (q, v, true)
  | _, _ => none

/-- R177: a write begins: the copy that does not hold the newest good content is being written, its content unknown
(`k`) until the write is complete; the sequence count is raised by one. DESIGN CHOICE (log 14): with neither copy good R177
leaves either copy to be written, and the first is. -/
def startCopy {α : Type} (x : Area α) (k : Nat) : Area α :=
  match newest x with
  | some (q, _, false) => { x with b := .torn (q + 1) k }
  | some (q, _, true) => { x with a := .torn (q + 1) k }
  | none => { x with a := .torn (max (copySeq x.a) (copySeq x.b) + 1) k }

/-- The copy being written takes its content. -/
def fillCopy {α : Type} (c : Copy α) (content : α) : Copy α :=
  match c with
  | .torn q _ => .good q content
  | .good q u => .good q u
  | .erased => .erased

/-- R177, R179: a write whose verify finds the content handed over is complete. -/
def endCopy {α : Type} (x : Area α) (content : α) : Area α :=
  match newest x with
  | some (_, _, false) => { x with b := fillCopy x.b content }
  | some (_, _, true) => { x with a := fillCopy x.a content }
  | none => { x with a := fillCopy x.a content }

/-- The index of the unknown content of the copy with the higher sequence count, for an area with no good copy. -/
def tornIndex {α : Type} (x : Area α) : Option Nat :=
  match x.a, x.b with
  | .torn p k, .torn q l => if q ≤ p then some k else some l
  | .torn _ k, _ => some k
  | _, .torn _ l => some l
  | _, _ => none

/-- The write of a content begins in its area. -/
def Nv.startWrite (v : Nv) (c : NvContent) (k : Nat) : Nv :=
  match c with
  | .settings _ => { v with settings := startCopy v.settings k }
  | .tariff _ => { v with tariff := startCopy v.tariff k }
  | .slot i _ => { v with slots := v.slots.modify i fun x => startCopy x k }
  | .totals _ => { v with totals := startCopy v.totals k }
  | .isoMemory _ => { v with isoMemory := startCopy v.isoMemory k }

/-- The write of a content is complete in its area; its failure flag is cleared (R179). -/
def Nv.endWrite (v : Nv) (c : NvContent) : Nv :=
  match c with
  | .settings x => { v with settings := endCopy v.settings x, failSettings := false }
  | .tariff x => { v with tariff := endCopy v.tariff x, failTariff := false }
  | .slot i x => { v with slots := v.slots.modify i fun y => endCopy y x }
  | .totals x => { v with totals := endCopy v.totals x, failTotals := false }
  | .isoMemory x => { v with isoMemory := endCopy v.isoMemory x, failIso := false }

/-! ### The order of service (R178) -/

/-- A record slot's write. -/
def NvWrite.isSlot (w : NvWrite) : Bool :=
  match w.content with
  | .slot _ _ => true
  | .settings _ => false
  | .tariff _ => false
  | .totals _ => false
  | .isoMemory _ => false

/-- What the store begins next. -/
inductive NextWrite where
  | queued (w : NvWrite)
  | held (f : NvFlight)
  deriving DecidableEq, Repr, Inhabited

/-- R178: SUPPLY_LOSS writes, the retry held back behind them, record slot writes, every other write; each in the
order first queued. DESIGN CHOICE (log 14): the retry's place before the ordinary slot writes, R178 giving only that it
follows every SUPPLY_LOSS write. -/
def Nv.next (v : Nv) : Option NextWrite :=
  match v.queue.find? NvWrite.supplyLoss with
  | some w => some (.queued w)
  | none =>
    match v.deferred with
    | some f => some (.held f)
    | none =>
      match v.queue.find? NvWrite.isSlot with
      | some w => some (.queued w)
      | none => v.queue.head?.map .queued

/-- R161: the record of a slot flagged NV_FAULT. -/
def Slot.faulted (x : Slot) : Slot :=
  { x with record := { x.record with flags := { x.record.flags with nvFault := true } } }

/-- R161: the image of slot `i` in a pending write flagged NV_FAULT. -/
def NvContent.faulted (i : Nat) (c : NvContent) : NvContent :=
  match c with
  | .slot j x => if j = i then .slot j x.faulted else c
  | .settings _ => c
  | .tariff _ => c
  | .totals _ => c
  | .isoMemory _ => c

/-- A retry held back for the area of a write that is over is given up, its content having been overtaken (log 14). -/
def Nv.overtaken (v : Nv) (c : NvContent) : Nv :=
  { v with deferred := v.deferred.filter fun f => f.write.content.area != c.area }

namespace State

/-- R178: with no write in progress, the store begins the next one. -/
def nvBegin (s : State) : State :=
  match s.nv.inFlight, s.nv.next with
  | some _, _ => s
  | none, none => s
  | none, some (.queued w) =>
    let k := s.freeCount
    let s := s.onNv fun v =>
      { v.startWrite w.content k with
        inFlight := some ⟨w, false⟩, queue := v.queue.filter fun x => x.content.area != w.content.area }
    { s with freeCount := k + 1 }
  | none, some (.held f) => s.onNv fun v => { v with inFlight := some f, deferred := none }

/-- Whether a write of an area waits in the queue. -/
def nvWaits (s : State) (a : AreaName) : Bool := s.nv.queue.any fun w => w.content.area == a

/-- R161: slot `i` is no longer behind; the rewrite period stops when none is. -/
def slotWritten (s : State) (i : Nat) : State :=
  s.onBilling fun b =>
    let behind := b.behind.set i false
    { b with behind := behind, rewrite := if behind.any id then b.rewrite else none }

/-- R161: a slot's write has failed: the record is flagged NV_FAULT and the slot is behind. A content that waits in the
queue for the slot carries the flag too, so that it reaches NV with the write that succeeds. DESIGN CHOICE (log 21): the rewrite
period starts here in every power state, during start-up too, where R167 has no block's period run. -/
def slotFailed (s : State) (i : Nat) : State :=
  let s := (s.onSlot i Slot.faulted).onBilling fun b =>
    { b with behind := b.behind.set i true, rewrite := some (b.rewrite.getD s.now) }
  s.onNv fun v => { v with queue := v.queue.map fun w => { w with content := w.content.faulted i } }

/-- R137, R161, R180: the owner learns of a completed write; a retry held back for the same area is given up, its
content having been overtaken (log 14). DESIGN CHOICE (log 21): the
write state is PENDING while a later write of the area waits (R137, R180). -/
def nvDone (s : State) (c : NvContent) : State :=
  let s := s.onNv fun v => { (v.endWrite c).overtaken c with inFlight := none }
  match c with
  | .settings _ => s.onPower fun p => { p with settingsWrite := if s.nvWaits .settings then .pending else .done }
  | .totals _ => s.onMeter fun m => { m with lastWrite := if s.nvWaits .totals then .pending else .done }
  | .slot i _ => s.slotWritten i
  | .tariff _ => s
  | .isoMemory _ => s

/-- R179: a write has failed: for a slot R161, for every other area its failure flag and a PART notice. DESIGN CHOICE
(log 21): a failed settings write is shown FAILED (R180) also while a later SAVE_SETTINGS waits. -/
def nvFailed (s : State) (c : NvContent) : State :=
  let s := s.onNv fun v => { v.overtaken c with inFlight := none }
  match c with
  | .settings _ =>
    ((s.onNv fun v => { v with failSettings := true }).onPower fun p => { p with settingsWrite := .failed }).raise .part
  | .tariff _ => (s.onNv fun v => { v with failTariff := true }).raise .part
  | .slot i _ => s.slotFailed i
  | .totals _ =>
    ((s.onNv fun v => { v with failTotals := true }).onMeter fun m => { m with lastWrite := .failed }).raise .part
  | .isoMemory _ => (s.onNv fun v => { v with failIso := true }).raise .part

/-- R179, R178: a first verify mismatch: the write is made once more to the same copy; in SUPPLY_HOLD an ordinary
one only after every SUPPLY_LOSS write. -/
def nvRetry (s : State) (f : NvFlight) : State :=
  s.onNv fun v =>
    if s.power.part = .supplyHold ∧ ¬ f.write.supplyLoss ∧ v.queue.any NvWrite.supplyLoss then
      { v with inFlight := none, deferred := some { f with second := true } }
    else { v with inFlight := some { f with second := true } }

/-- R179: a write and its verify are over. -/
def nvComplete (s : State) (verified : Bool) : State :=
  match s.nv.inFlight with
  | none => s
  | some f =>
    if verified then s.nvDone f.write.content
    else if f.second then s.nvFailed f.write.content
    else s.nvRetry f

end State

end Sys2Proof.Machine
end

