-- ==== Sys2Proof/Machine/PowerOps.lean ====
section
/-! DEFINITION. The power-state controller (chapter 8): entry to STANDBY or SLEEP, wake sources and the return to RUN,
entry to SUPPLY_HOLD, resets, and the start-up sequence with its loads, log scan and recoveries. -/

namespace Sys2Proof.Machine

/-! ### What start-up forms from NV (R164, R165, R176) -/

/-- R70: at POWER_ON the clock and the departure timer start afresh; at every other reset they are kept. -/
def ResetCause.clearsTime (c : ResetCause) : Bool := c == .powerOn

/-- The flags of a record read from the torn copy `k`, DAMAGED set (R164, log 3). -/
def tornRecFlags (k : Nat) : RecFlags :=
  let w := Config.tornFlags k
  { clockUnset := w.getLsbD 0, clockAdjusted := w.getLsbD 1, heatClamped := w.getLsbD 2, segmentsMerged := w.getLsbD 3
    costSaturated := w.getLsbD 4, posSat := w.getLsbD 5, negSat := w.getLsbD 6, fromCheckpoint := w.getLsbD 7
    damaged := true, nvFault := w.getLsbD 9 }

/-- R164: a slot whose check fails: CLOSED, DAMAGED, its other contents as read. -/
def damagedSlot (k : Nat) : Slot :=
  { st := .closed
    record := { number := (Config.tornNumber k).toNat, flags := tornRecFlags k, garbled := some k } }

/-- R164: one slot loaded from its area, and whether it was found damaged. -/
def loadSlot (x : Area Slot) : Slot × Bool :=
  match newest x with
  | some (_, y, _) => (if y.st = .free then {} else y, false)
  | none =>
    match tornIndex x with
    | none => ({}, false)
    | some k => (damagedSlot k, true)

/-- The greatest number among the slots that are not FREE and were not found damaged (R155, R164). -/
def greatestNumber : List (Slot × Bool) → Nat
  | [] => 0
  | (x, bad) :: r => if x.st = .free ∨ bad then greatestNumber r else max x.record.number (greatestNumber r)

/-- R164: whether slot `i`'s number is held by another slot that is not FREE. -/
def numberTaken (l : List (Slot × Bool)) (i : Nat) (n : Nat) : Bool :=
  (List.range l.length).any fun j =>
    j != i && (l.getD j ({}, false)).1.st != .free && (l.getD j ({}, false)).1.record.number == n

/-- R164: damaged records whose numbers do not serve are renumbered, in slot index order from `i`. DESIGN CHOICE (log 21): a
number is held against the others as the renewals before it have left them, so of two damaged slots that read one number
the second keeps it; and fresh numbers run on past 4,294,967,295. -/
def renumber : Nat → Nat → List (Slot × Bool) → Nat → List (Slot × Bool) × Nat
  | 0, _, l, next => (l, next)
  | fuel + 1, i, l, next =>
    let x := l.getD i ({}, false)
    let n := x.1.record.number
    if x.2 ∧ (n = 0 ∨ next ≤ n ∨ numberTaken l i n) then
      renumber fuel (i + 1) (l.modify i fun y => ({ y.1 with record := { y.1.record with number := next } }, y.2))
        (next + 1)
    else renumber fuel (i + 1) l next

/-- R164: the scan of the log: the slots, which were found damaged, and the next number. -/
def scanLog (areas : List (Area Slot)) : List (Slot × Bool) × Nat :=
  let l := areas.map loadSlot
  renumber 24 0 l (greatestNumber l + 1)

/-- The settings as an area holds them, or the factory settings (R176 step 2). -/
def loadSettings (x : Area Settings) : Settings × Bool :=
  match newest x with
  | some (_, y, _) => (y, false)
  | none => ({}, true)

/-- The tariff area, or the factory pages (R144). -/
def loadTariff (x : Area TariffArea) : TariffArea × Bool :=
  match newest x with
  | some (_, y, _) => (y, false)
  | none => ({}, true)

/-- The lifetime totals, or 0 (R137). -/
def loadTotals (x : Area Totals) : Totals × Bool :=
  match newest x with
  | some (_, y, _) => (y, false)
  | none => ({}, true)

/-- The isolation memory, or the empty one (R102). -/
def loadMemory (x : Area (List Nat)) : List Nat × Bool :=
  match newest x with
  | some (_, y, _) => (y, false)
  | none => ([], true)

/-- R53, R77: the zone rows after a reset, from the roster's heater addresses and the zone parameters. -/
def zonesAfterReset (kinds : List NodeKind) (params : List ZoneParams) : List Zone :=
  rankInOrder (((kinds.drop 3).zip params).map fun p =>
    let z : Zone :=
      { configured := p.1 == .heater, enabled := p.2.enabled, target := p.2.target, hyst := p.2.hyst
        node := if p.1 = .heater then .missing else .absent }
    { z with heat := z.stateNow })

/-- The parameters of a zone row, as SAVE_SETTINGS takes them (R180). -/
def Zone.params (z : Zone) : ZoneParams := { enabled := z.enabled, target := z.target, hyst := z.hyst }

/-- The return to RUN ends what a reply to SET_POWER_STATE was to set going, sent or not (R168, R192). -/
def ReplyMark.awake : ReplyMark → ReplyMark
  | .sleepAck => .plain
  | .plain => .plain
  | .resetAck => .resetAck

namespace State

/-! ### Resets (R173, R174) -/

/-- Every volatile field takes its after-reset value, with the part in condition `st`; the NV areas, the input
levels, the time base and the commands waiting stay. The clock and the departure timer stay unless `clearTime`. -/
def cleared (s : State) (st : PartState) (clearTime : Bool) : State :=
  { pins := { lockFb := s.pins.lockFb, kacFb := s.pins.kacFb, kdcpFb := s.pins.kdcpFb, kdcnFb := s.pins.kdcnFb
              supplyWarn := s.pins.supplyWarn, resetLine := s.pins.resetLine, wake := s.pins.wake
              sensor1 := s.pins.sensor1, sensor2 := s.pins.sensor2 }
    session := { lock := if s.pins.lockFb then .engaged else .notEngaged }
    heating := { departure := if clearTime then {} else s.heating.departure }
    billing := { clock := if clearTime then {} else s.billing.clock }
    nv := { s.nv with queue := [], inFlight := none, deferred := none
                      failSettings := false, failTariff := false, failTotals := false, failIso := false }
    power := { part := st, cause := s.power.cause }
    now := s.now, freeCount := s.freeCount, pending := s.pending }

/-! ### Start-up (R176) -/

/-- Step 2: the settings are in use (sections 2.2, 3.1, 4.1, 5.2). -/
def useSettings (s : State) (x : Settings) : State :=
  let s := s.onBudget fun b => { b with params := x.params, table := x.table }
  let s := s.onHeating fun h =>
    { h with policy := x.policy, zones := zonesAfterReset x.roster x.zones
             departure := { h.departure with window := h.departure.windowNow } }
  let s := s.onIso fun y => { y with params := x.iso, searchList := x.searchList, profile := x.iso.startProfile }
  s.onStage fun g => { g with nodes := x.roster.map Node.ofExpected }

/-- R165: a slot left OPEN is recovered. -/
def recoverSlot (s : State) (i : Nat) : State :=
  if (s.billing.slot i).st = .opened then
    let t := s.billing.clock.time?
    let s := s.onSlot i fun x => { st := .closed, record := x.record.recovered t }
    let s := s.onBilling fun b => { b with lastClosed := some (b.slot i).record.number }
    (s.queueSlot i false).raise .record
  else s

/-- The numbers of the slots, 0 to 23 here. -/
def slotIndices : List Nat := List.range 24

/-- Step 5: the log is scanned, damaged slots are queued for writing and OPEN slots recovered (R164, R165). -/
def loadLog (s : State) : State :=
  let r := scanLog s.nv.slots
  let bad := slotIndices.filter fun i => (r.1.getD i ({}, false)).2
  let left := slotIndices.filter fun i => (r.1.getD i ({}, false)).1.st == .opened
  let s := s.onBilling fun b => { b with slots := r.1.map Prod.fst, nextNumber := r.2 }
  let s := bad.foldl (fun s i => (s.queueSlot i false).raise .record) s
  let s := left.foldl recoverSlot s
  s.onPower fun p => { p with outcomes := { p.outcomes with damaged := bad.length, recovered := left.length } }

/-- Steps 1 to 6 of R176, for a reset of the given cause. -/
def load (s : State) (cause : ResetCause) : State :=
  let s := s.cleared .startUp cause.clearsTime
  let set := loadSettings s.nv.settings
  let tar := loadTariff s.nv.tariff
  let mem := loadMemory s.nv.isoMemory
  let tot := loadTotals s.nv.totals
  let s := s.onPower fun p =>
    { p with
      cause := cause
      outcomes := { settingsDefaulted := set.2, tariffDefaulted := tar.2, isoLost := mem.2, totalsLost := tot.2 } }
  let s := s.useSettings set.1
  let s := s.onBilling fun b => { b with tariff := tar.1 }
  let s := s.onIso fun x => { x with memory := mem.1 }
  let s := s.onMeter fun m => { m with totals := tot.1, totalsLost := tot.2 }
  s.loadLog.onBilling fun b => { b with cursor := b.located }

/-- R77, R63: the heating controller's postings and periods at the completion of start-up. -/
def heatStart (s : State) : State :=
  let s := s.onHeating fun h =>
    { h with heatPeriod := some s.now, onTick := some s.now
             departure := { h.departure with window := h.departure.windowNow } }
  let h := s.heating
  (((((s.postBudget (.gridMode h.policy.gridMode)).postBudget (.gating h.policy.gating)).postBudget
    (.window h.departure.window)).postBudget (.heatOn 0)).postBudget (.demands false)).postBudget (.minTemp none)

/-- R37: the budget period starts with an evaluation. -/
def budgetStart (s : State) : State := (s.onBudget fun b => { b with period := some s.now }).evalBudget

/-- R130: the meter period starts. DESIGN CHOICE (log 21): running stays no until the first sample completes, as R128 says
of a reset. -/
def meterStart (s : State) : State := s.onMeter fun m => { m with period := some s.now }

/-- Step 7 of R176: start-up completes. DESIGN CHOICE (log 22): the PART notice is raised after the session's first move. -/
def completeStartUp (s : State) : State :=
  let s := s.onPower fun p => { p with part := .run, started := true, lastWake := .none }
  let s := s.stageStart.relocate.heatStart.meterStart.budgetStart
  s.actOnInputs.raise .part

/-! ### The return to RUN (R170) -/

/-- R192: the receiver and the transmitter run again, the framer in HUNT if they were off. No reply still unsent switches
them off in a later SLEEP: that is its own OK reply's (R168). -/
def linkOn (s : State) : State :=
  s.onLink fun l =>
    { l with
      on := true, framer := if l.on then l.framer else .hunt
      replies := l.replies.map fun r => { r with mark := r.mark.awake }
      tx := l.tx.map fun f => { f with mark := f.mark.awake } }

/-- R170: the return to RUN. DESIGN CHOICE (log 22): the blocks take it in the order of R170's list, and the PART notice is
raised last. -/
def returnToRun (s : State) (src : WakeSource) : State :=
  let s := s.onPower fun p => { p with part := .run, lastWake := src, heldWake := none }
  let s := s.linkOn.stageReturn.meterStart.budgetStart
  let s := s.onHeating fun h => { h with heatPeriod := some s.now, onTick := some s.now }
  s.actOnInputs.raise .part

/-- STANDBY or SLEEP. -/
def lowPower (s : State) : Bool := s.power.part == .standby || s.power.part == .sleep

/-- R169: a wake source in STANDBY or SLEEP; held while the entry is not complete. -/
def takeWake (s : State) (src : WakeSource) : State :=
  if s.lowPower then
    if s.stage.entryWait then s.onPower fun p => { p with heldWake := some (p.heldWake.getD src) }
    else s.returnToRun src
  else s

/-! ### Entry to STANDBY or SLEEP (R168) -/

/-- R127: the entry is complete at the stage link controller once no transaction is in flight; a held wake source
is then taken. -/
def finishEntry (s : State) : State :=
  if s.stage.entryWait ∧ s.stage.inFlight = none then
    let s := s.stageStandby
    match s.power.heldWake with
    | some src => s.returnToRun src
    | none => s
  else s

/-- R77: the heating controller stops: source NONE, its two periods off. -/
def heatStop (s : State) : State := s.heatAllOff.onHeating fun h => { h with heatPeriod := none, onTick := none }

/-- R32, R37: the budget unit stops, its pack limits record absent and stale. -/
def budgetStandby (s : State) : State :=
  s.onBudget fun b =>
    { b with period := none
             input := { b.input with limits := { b.input.limits with present := false, stale := true } } }

/-- R107: the monitor takes the absent pack voltage and enters OFF. -/
def isoStandby (s : State) : State := ({ s with isoIn := [] }.onIso fun x => { x with vPack := none }).isoOff

/-- R168: the entry to STANDBY or SLEEP; the WAKE line acts by its level (R192). -/
def enterLow (s : State) (target : PartState) : State :=
  let s := s.onPower fun p => { p with part := target, heldWake := none }
  let s := s.heatStop.meterStandby
  let s := (s.queueTotals false).isoStandby.budgetStandby
  let s := s.onStage fun g => { g with entryWait := true }
  let s := s.doIf s.pins.wake fun s => s.onPower fun p => { p with heldWake := some .wakeLine }
  s.finishEntry

/-! ### Entry to SUPPLY_HOLD (R171) -/

/-- R22, R171: the stop cause SUPPLY_LOSS; contactors that already report open are OPEN. In SUPPLY_HOLD the session drives
neither the lock nor the load (log 19). -/
def sessionHold (s : State) : State :=
  let s := s.takeStop .supplyLoss
  let s := s.doIf (s.session.st == .stopping) fun s => s.holdOpening false
  s.onPins fun p => { p with lockDrive := .released, cpLoad := false }

/-- R6, R160, R171: the open record is closed on the supply-loss path, after which the declared phase count is posted as 0; with
none open the totals are queued. -/
def billingHold (s : State) : State :=
  if s.billing.openSlot.isSome then (s.closeRecord .supplyLoss true).postBudget (.phases 0) else s.queueTotals true

/-- R171: the entry to SUPPLY_HOLD. -/
def enterHold (s : State) : State :=
  let s := s.onPower fun p =>
    { p with
      part := .supplyHold, heldWake := none, hostReset := false, resetAcked := false, dwell := none, dipDue := false }
  let s := s.doIf s.stage.supplyOn safeStopRequest
  let s := s.onStage fun g => { g with entryWait := false, recallTimer := none }
  let s := s.sessionHold.meterStop.billingHold
  let s := s.heatStop.isoOff.onBudget fun b => { b with period := none }
  s.raise .part

/-- R171, R172, R176: SUPPLY_WARN is asserted. -/
def warn (s : State) : State :=
  let s := s.onPins fun p => { p with supplyWarn := true }
  match s.power.part with
  | .run => s.enterHold
  | .standby => s.enterHold
  | .sleep => s.enterHold
  | .startUp => s.enterHold
  | .supplyHold => s.onPower fun p => { p with dwell := none }
  | .heldInReset => s
  | .off => s

/-- R172: SUPPLY_WARN is released. -/
def warnRelease (s : State) : State :=
  let s := s.onPins fun p => { p with supplyWarn := false }
  s.doIf (s.power.part == .supplyHold && !s.power.dipDue) fun s => s.onPower fun p => { p with dwell := some s.now }

/-- R172: the warning clear dwell expires. -/
def dwellExpiry (s : State) : State :=
  s.doIf (s.power.part == .supplyHold && s.power.dwell.isSome) fun s =>
    s.onPower fun p => { p with dwell := none, dipDue := true }

/-- R173: the reset line is asserted. -/
def holdReset (s : State) : State :=
  let s := s.onPins fun p => { p with resetLine := true }
  if s.power.part = .off then s else s.cleared .heldInReset false

/-- The supply fails: nothing volatile is left. -/
def failSupply (s : State) : State := s.cleared .off true

/-- R172 to R176: the start-up a part in its present condition makes, if any; a start-up in progress goes on. DESIGN CHOICE
(log 21): a part whose supply was off while the reset line was asserted makes one start-up, with POWER_ON and the line
released. -/
def startLoad (s : State) : State :=
  match s.power.part with
  | .off => (s.onPins fun p => { p with resetLine := false }).load .powerOn
  | .heldInReset => (s.onPins fun p => { p with resetLine := false }).load .resetLine
  | .supplyHold => s.doIf (s.power.dipDue && s.nvIdle) fun s => s.load .supplyDip
  | .startUp => s
  | .run => s
  | .standby => s
  | .sleep => s

/-- R176: start-up, to RUN if it completes. -/
def startUpSeq (s : State) (complete : Bool) : State :=
  let s := s.startLoad
  s.doIf (complete && s.power.part == .startUp) completeStartUp

/-- R193: every reply placed has been sent. -/
def repliesSent (s : State) : Bool :=
  s.link.replies.isEmpty && match s.link.tx with
    | none => true
    | some f => f.notice

/-- R175, R193: what a pending host reset waits for. -/
def resetReady (s : State) : Bool :=
  s.inRun && s.power.hostReset && s.billing.openSlot.isNone && s.nvIdle && s.power.resetAcked && s.repliesSent

/-- R175: the host reset goes ahead. -/
def hostResetGo (s : State) : State := s.doIf s.resetReady fun s => s.load .hostRequest

end State

end Sys2Proof.Machine
end

