-- ==== Sys2Proof/Machine/StatusOps.lean ====
section
/-! DEFINITION. The contents of every status reply and notice as bytes (chapter 10, R27, R52, R74, R105, R125, R139,
R140, R145, R163, R166, R181, R197, R198). Fields stand in the order their rule names them; the widths of the fields
that section 10.1 gives no row are the model's (log 11). -/

namespace Sys2Proof.Machine

/-- A time in ms in two bytes, held at 65,535 (log 11). -/
def msBytes (n : Nat) : List Byte := be 2 (min 65535 n)

/-- An optional time in ms. -/
def optMs (x : Option Nat) : List Byte := flag x.isSome :: msBytes (x.getD 0)

/-- An optional temperature. -/
def optTemp (x : Option HalfDeg) : List Byte := optIntBytes 2 x

/-- A time in 5 bytes (section 10.1). -/
def timeBytes (t : Time) : List Byte := be 2 t.day ++ be 2 t.minute ++ [byte t.second]

/-- An optional time, zeros while absent. -/
def timeOr0 (t : Option Time) : List Byte := timeBytes (t.getD ⟨0, 0, 0⟩)

/-! ### Session (R27) -/

/-- The DC station record with its presence, age and stale flag. -/
def stationBytes (now : Nat) : Option Station → List Byte
  | none => 0 :: List.replicate 12 0
  | some x =>
    1 :: be 2 x.maxV ++ be 2 x.maxI ++ be 4 x.maxP ++ flagBytes [x.monActive, x.faultReported]
      ++ msBytes (now - x.stamp) ++ [flag x.stale]

/-- SESSION_STATUS (R27). -/
def sessionBytes (s : State) : List Byte :=
  let x := s.session
  let t := inletTemp x.temp1 x.temp2
  [byte x.st.code] ++ optCode (x.mode.map Mode.code) ++ optCode x.phases ++ [flag x.unlockOnStop]
    ++ [byte x.prox.code] ++ be 2 x.prox.rating
    ++ [byte x.pilot.code] ++ optBytes 2 (if x.pilot = .offering then some x.duty else none)
    ++ be 2 (offerOf x.pilot x.duty)
    ++ optTemp x.temp1 ++ optTemp x.temp2 ++ be 2 (inletDerate t) ++ [flag (overheated t)]
    ++ [byte x.lock.code, byte x.acK.code, byte x.dcK.code] ++ flagBytes x.causes.bits
    ++ optCode (x.stopCause.map StopCause.code) ++ optCode (x.fault.map FaultKind.code) ++ [flag x.stopPending]
    ++ be 2 x.dcRequest ++ stationBytes s.now x.station

/-! ### Budget (R52) -/

/-- BUDGET_STATUS page 0: the last evaluation record. -/
def evalBytes (e : EvalRecord) : List Byte :=
  [byte e.sess.code] ++ optCode (e.mode.map Mode.code) ++ be 2 e.iLim ++ [byte e.nPh] ++ be 2 e.vMin
    ++ optBytes 2 e.vPack ++ [byte e.vSource.code] ++ be 4 e.pInlet ++ be 4 e.pAvail ++ be 2 e.derate
    ++ [flag e.tAbsent] ++ be 4 e.pPack ++ be 4 e.grant ++ be 4 e.grantPosted ++ be 2 e.heatOn
    ++ be 4 e.charge ++ be 4 e.chargePosted ++ be 2 e.set1 ++ be 2 e.set2 ++ be 2 e.set3
    ++ be 2 e.dcRequest ++ be 2 e.dcRequestPosted ++ be 2 e.heatAllowance ++ [flag e.permitted]
    ++ flagBytes [e.noOffer, e.noDraw, e.noStages, e.drawWanted]

/-- A charger row. -/
def rowBytes (r : ChargerRow) : List Byte := flag r.eligible :: be 2 r.headroom

/-- The pack limits record, after its presence byte and with zeros while absent (R194, R198). -/
def limitsBytes (now : Nat) (x : PackLimits) : List Byte :=
  flag x.present ::
    (if x.present then be 2 x.packV ++ be 2 x.maxI ++ be 2 x.heat ++ msBytes (now - x.stamp) else List.replicate 8 0)
    ++ [flag x.stale]

/-- BUDGET_STATUS page 1: the budget input record. DESIGN CHOICE (log 20): while the station state is ABSENT its three limits
are sent as last posted (0 before any posting), the state being a field of its own and not a presence, where R194 could be
read to have zeros. -/
def inputBytes (now : Nat) (i : BudgetInput) : List Byte :=
  [byte i.sess.code] ++ optCode (i.mode.map Mode.code) ++ be 2 i.offer ++ be 2 i.cable ++ be 2 i.derate
    ++ [byte i.phases] ++ be 2 i.stMaxV ++ be 2 i.stMaxI ++ be 4 i.stMaxP ++ [byte i.stState.code]
    ++ be 2 i.v1 ++ be 2 i.v2 ++ be 2 i.v3 ++ optBytes 2 i.packV
    ++ limitsBytes now i.limits
    ++ optTemp i.minTemp ++ [flag i.demands, byte i.gridMode.code, flag i.gating, flag i.window]
    ++ be 2 i.heatOn ++ [flag i.searchHold, flag i.preferred]
    ++ rowBytes i.row1 ++ rowBytes i.row2 ++ rowBytes i.row3

/-- The three parameters in the form of the request's own fields (R38, R188). -/
def paramBytes (p : BudgetParams) : List Byte := be 2 p.cap ++ be 2 p.aux ++ be 2 p.share

/-- BUDGET_STATUS page 2: the parameters and the eight points, with no count byte (log 11). -/
def tableBytes (b : Budget) : List Byte :=
  paramBytes b.params ++ b.table.flatMap fun p => beInt 2 p.1 ++ be 2 p.2

/-! ### Heating (R74, R75) -/

/-- The departure timer's four fields, the lead in the two bytes of minutes (section 10.1). -/
def departureBytes (d : Departure) : List Byte :=
  be 2 d.initial ++ be 2 d.count ++ [byte d.mode.code] ++ be 2 d.lead

/-- HEAT_STATUS page 0. DESIGN CHOICE (log 21): the seconds to the next heat period are rounded up, and 0 when it does not
run. -/
def heatBytes (s : State) : List Byte :=
  let h := s.heating
  [byte h.source.code] ++ be 4 h.grant ++ be 2 h.allowance ++ be 2 h.postedHeatOn
    ++ [byte h.policy.gridMode.code, flag h.policy.gating, flag h.policy.packHeat]
    ++ departureBytes h.departure ++ [flag h.departure.window, flag h.postedDemands] ++ optTemp h.postedMin
    ++ be 2 (match h.heatPeriod with | none => 0 | some t => ceilDiv (Config.heatPeriodMs - (s.now - t)) 1000)

/-- HEAT_STATUS pages 1 to 8: a zone row. -/
def zoneBytes (z : Zone) : List Byte :=
  [flag z.configured, flag z.enabled] ++ beInt 2 z.target ++ [byte z.hyst, byte z.node.code]
    ++ optBytes 2 z.rating ++ optTemp z.temp ++ flagBytes [z.sensorFault, z.driverFault]
    ++ [byte z.isolation.code, byte z.heat.code] ++ be 2 z.deficit ++ optCode z.rank ++ be 4 z.onTime

/-! ### Insulation (R105, R106) -/

/-- A reading. DESIGN CHOICE (log 11): a kind byte, 0 for a value and 1 for INVALID, and then its kΩ, zeros when INVALID. -/
def readingBytes : Reading → List Byte
  | .kOhm r => 0 :: be 2 r
  | .invalid => 1 :: be 2 0

/-- An optional taken result of a step. -/
def takenBytes : Option Reading → List Byte
  | none => [0, 0, 0, 0]
  | some r => 1 :: readingBytes r

/-- The last result with its presence, U_m, profile, age and EXTERNAL flag. -/
def resultBytes (now : Nat) : Option IsoResult → List Byte
  | none => List.replicate 12 0
  | some r =>
    1 :: readingBytes r.reading ++ beInt 4 r.um ++ [byte r.profile.code] ++ msBytes (now - r.stamp) ++ [flag r.external]

/-- The working thresholds with the V_pack they came from. -/
def workingBytes (w : Option Working) : List Byte :=
  let x := w.getD ⟨0, 0, 0, 0, 0⟩
  flag w.isSome :: be 2 x.warn ++ be 2 x.fault ++ be 2 x.critical ++ be 2 x.recovery ++ be 2 x.vPack

/-- The nine streak counters, with no count byte (log 11). -/
def streakBytes (k : Streaks) : List Byte :=
  [k.belowFault, k.belowWarn, k.aboveCritical, k.aboveFault, k.aboveWarn, k.aboveRecovery, k.invalid, k.settled,
   k.p3Unsettled].map byte

/-- ISO_STATUS page 0. -/
def isoBytes0 (s : State) : List Byte :=
  let x := s.iso
  [byte x.st.code, flag x.params.enabled, byte x.params.profMode.code, byte x.profile.code]
    ++ resultBytes s.now x.last ++ workingBytes x.working ++ [byte x.assess.code, byte x.source.code]
    ++ streakBytes x.streaks ++ flagBytes [x.dcContext, x.dcClosed, x.stationMon, x.stationFault]

/-- The search list with the mark of each entry, PENDING where no search has marked it. -/
def markedList : List Nat → List Mark → List Byte
  | [], _ => []
  | a :: r, [] => byte a :: byte Mark.pending.code :: markedList r []
  | a :: r, m :: ms => byte a :: byte m.code :: markedList r ms

/-- ISO_STATUS page 1: the entries of the last search with their marks, which stay readable until the next one (R100), and
before any search the search list with every mark PENDING (log 21). -/
def isoBytes1 (x : Insulation) : List Byte :=
  let q := x.search
  [byte q.outcome.code, byte q.origin.code] ++ optCode (q.abort.map AbortCause.code) ++ [byte q.cursor]
    ++ optCode (q.phase.map StepPhase.code) ++ optCode q.under
    ++ (if q.outcome = .none then byte x.searchList.length :: markedList x.searchList []
        else byte q.entries.length :: markedList q.entries q.marks)
    ++ takenBytes (q.first.map Taken.reading) ++ takenBytes (q.second.map Taken.reading)
    ++ optCode q.culprit

/-- ISO_STATUS page 2; the isolation memory is a set, one bit for each address from 1 (R102, R198). -/
def isoBytes2 (x : Insulation) : List Byte :=
  be 2 x.params.warn ++ be 2 x.params.fault ++ be 2 x.params.critical ++ [byte x.params.fixed.code]
    ++ flagBytes (addresses.map fun a => x.memory.contains a)

/-! ### Stage link (R125, R126) -/

/-- ROSTER_STATUS page 0. DESIGN CHOICE (log 11): the eleven nodes, a table of fixed length, have no count byte. -/
def rosterBytes (s : State) : List Byte :=
  let g := s.stage
  (g.nodes.flatMap fun n => [byte n.expected.code, byte n.st.code])
    ++ [byte g.urgent.length, byte g.normal.length, flag g.safeStop]
    ++ optCode (g.inFlight.map Transaction.addr)
    ++ msBytes (match g.recallTimer with | none => 0 | some t => Config.recallPeriodMs - (s.now - t))

/-- Which of ROLL_CALL, STATUS_QUERY, SETPOINT and an isolation command a node has queued. -/
def queuedBits (g : Stage) (addr : Nat) : List Bool :=
  [g.normal.contains ⟨.rollCall, addr⟩, g.normal.contains ⟨.statusQuery, addr⟩, g.normal.contains ⟨.setpoint, addr⟩,
   g.urgent.any fun e => e.addr == addr]

/-- ROSTER_STATUS pages 1 to 11. -/
def nodeBytes (s : State) (addr : Nat) : List Byte :=
  let n := s.node addr
  [byte n.expected.code, byte n.st.code] ++ optBytes 2 n.rating ++ be 2 n.headroom ++ optTemp n.temp
    ++ flagBytes [n.faultA, n.faultB] ++ [flag n.isolated] ++ be 2 n.commanded ++ optBytes 2 n.acked
    ++ optMs (n.replyStamp.map fun t => s.now - t) ++ flagBytes (queuedBits s.stage addr)

/-! ### Meter (R139, R140) -/

/-- The sample age; 0 until the first sample after a reset (R128). -/
def Meter.sampleAge (m : Meter) (now : Nat) : Nat :=
  match m.sampleStamp with
  | none => 0
  | some t => now - t

/-- METER_STATUS page 0: the live measurement record. DESIGN CHOICE (log 11): its signed powers and currents are sent in two's
complement. -/
def liveBytes (s : State) : List Byte :=
  let v := s.meter.live
  be 2 v.v1 ++ be 2 v.v2 ++ be 2 v.v3 ++ be 2 v.i1 ++ be 2 v.i2 ++ be 2 v.i3
    ++ beInt 2 v.p1 ++ beInt 2 v.p2 ++ beInt 2 v.p3 ++ be 2 v.vDc ++ beInt 2 v.iDc ++ optBytes 2 v.packV
    ++ beInt 2 v.iHv ++ beInt 2 v.iHeat ++ be 4 v.pGrid ++ be 4 v.pHeat ++ beInt 4 v.pPackNet
    ++ msBytes (s.meter.sampleAge s.now) ++ [flag v.running]
    ++ optCode (s.meter.mode.map Mode.code)

/-- METER_STATUS page 1: the session channel. -/
def channelBytes (m : Meter) : List Byte :=
  let d := m.channel
  [flag d.isOpen] ++ be 5 d.grid ++ be 5 d.heatGrid ++ be 5 d.heatPack ++ beInt 5 d.packNet
    ++ flagBytes [d.posSat, d.negSat] ++ be 5 d.gridMark ++ be 5 d.heatMark ++ be 5 d.gridDelta ++ be 5 d.heatDelta
    ++ [byte m.resGrid, byte m.resHeatGrid, byte m.resHeatPack] ++ beInt 1 m.resPackNet ++ [byte m.lastChannel.code]

/-- READ_TOTALS (R140). -/
def totalsBytes (m : Meter) : List Byte :=
  be 6 m.totals.grid ++ be 6 m.totals.heatGrid ++ be 6 m.totals.heatPack
    ++ flagBytes [m.satGrid, m.satHeatGrid, m.satHeatPack] ++ [flag m.totalsLost, byte m.lastWrite.code]

/-! ### Billing (R145, R162, R163, R166, R197) -/

/-- A band entry (R196). -/
def bandBytes (b : Band) : List Byte := be 2 b.start ++ bcd 3 b.price ++ [flag b.preferred]

/-- TARIFF_READ: band count and bands, attribute (0 PROTECTED, 1 WRITABLE), selector, commit pending, cursor. -/
def tariffBytes (b : Billing) (page : Bool) : List Byte :=
  byte (b.tariff.page page).length :: (b.tariff.page page).flatMap bandBytes
    ++ [flag (b.writable page), flag b.tariff.selector, flag b.commitPending, flag b.cursor.page, byte b.cursor.band]

/-- The reference length and the 16 zero-padded reference bytes (R197). -/
def refBytes (r : Option (List Byte)) : List Byte :=
  let l := r.getD []
  byte l.length :: (l ++ List.replicate 16 0).take 16

/-- A segment entry (R197); `none` for a segment not present. -/
def segmentBytes (i : Nat) : Option Segment → List Byte
  | none => List.replicate 25 0
  | some x =>
    [byte i, byte (x.page.toNat * 16 + x.band)] ++ bcd 3 x.price ++ be 4 x.chargeWh ++ be 4 x.heatWh
      ++ bcd 6 x.chargeCost ++ bcd 6 x.heatCost

/-- Part 0, half 0 of a slot image (R197). -/
def part00 (x : Slot) : List Byte :=
  let r := x.record
  [byte x.st.code] ++ be 4 r.number ++ [byte r.mode.code]
    ++ flagBytes [r.startTime.isSome, r.endTime.isSome, r.endCause.isSome] ++ refBytes r.ref
    ++ timeOr0 r.startTime ++ timeOr0 r.endTime ++ [byte r.segments.length] ++ r.flags.word
    ++ be 5 r.grid ++ be 5 r.heatGrid ++ be 5 r.heatPack ++ beInt 5 r.packNet

/-- Part 0, half 1 of a slot image (R197). -/
def part01 (x : Slot) : List Byte :=
  let r := x.record
  be 4 r.number ++ bcd 6 r.chargeCost ++ bcd 6 r.heatCost ++ bcd 4 r.chargeTotal ++ bcd 4 r.heatTotal
    ++ bcd 4 r.grandTotal ++ [byte ((r.endCause.map EndCause.code).getD 0), flag (x.st == .opened)]
    ++ be 5 r.unpricedGrid ++ be 5 r.unpricedHeat ++ be 2 r.remC ++ be 2 r.remH

/-- Half `h` of part `p`, 1 to 3: two segments (R197). -/
def partSegments (x : Slot) (p h : Nat) : List Byte :=
  let r := x.record
  let i := 4 * (p - 1) + 2 * h
  be 4 r.number ++ [byte r.segments.length] ++ segmentBytes (i + 1) r.segments[i]?
    ++ segmentBytes (i + 2) r.segments[i + 1]?

/-- Bytes read from the torn copy `k`, with the bytes the billing unit knows laid over them (R162, log 3). -/
def tornBytes (k part half len : Nat) (known : List (Nat × Byte)) : List Byte :=
  (List.range len).map fun i =>
    match known.find? fun p => p.1 == i with
    | some p => p.2
    | none => Config.tornByte k part half i

/-- Known bytes from a position on. -/
def knownAt (pos : Nat) (l : List Byte) : List (Nat × Byte) := (List.range l.length).zip l |>.map fun p => (pos + p.1, p.2)

/-- The segment count byte of the torn copy `k`, one for every half. -/
def tornCount (k : Nat) : Byte := Config.tornByte k 0 0 34

/-- READ_RECORD of a damaged record (R162, R195, R197): served as stored. DESIGN CHOICE (log 3): the mode, the end cause, the
presence bits and the bytes of absent fields are as stored too, where R194 has codes legal and absent fields zero. -/
def tornPart (x : Slot) (k part half : Nat) : List Byte :=
  let r := x.record
  if part = 0 then
    if half = 0 then
      tornBytes k 0 0 57 (knownAt 0 (byte x.st.code :: be 4 r.number) ++ knownAt 34 (tornCount k :: r.flags.word))
    else tornBytes k 0 1 44 (knownAt 0 (be 4 r.number) ++ knownAt 29 [flag (x.st == .opened)])
  else tornBytes k part half 55 (knownAt 0 (be 4 r.number ++ [tornCount k]))

/-- READ_RECORD: one half of one part of a slot image (R197). -/
def recordBytes (x : Slot) (part half : Nat) : List Byte :=
  match x.record.garbled with
  | some k => tornPart x k part half
  | none => if part = 0 then (if half = 0 then part00 x else part01 x) else partSegments x part half

/-- Slot indices in order of record number from the lowest, FREE slots apart (R163). -/
def insertByNumber (b : Billing) (i : Nat) : List Nat → List Nat
  | [] => [i]
  | j :: r => if (b.slot i).record.number ≤ (b.slot j).record.number then i :: j :: r else j :: insertByNumber b i r

/-- The slots that are not FREE, ordered by record number. -/
def slotsInOrder (b : Billing) : List Nat :=
  ((List.range 24).filter fun i => (b.slot i).st != .free).foldl (fun l i => insertByNumber b i l) []

/-- LOG_STATUS (R163). -/
def logBytes (b : Billing) : List Byte :=
  let l := slotsInOrder b
  byte l.length :: l.flatMap (fun i =>
      let x := b.slot i
      be 4 x.record.number ++ [byte x.st.code] ++ flagBytes [x.record.flags.damaged, x.record.flags.nvFault]
        ++ [flag (b.behind.getD i false)])
    ++ [byte (24 - l.length)] ++ optCode (b.reservation.map (· + 1)) ++ be 4 b.nextNumber

/-- The RECORD notice (R166). -/
def recordNotice (b : Billing) : List Byte :=
  let count := fun st => (b.slots.filter fun x => x.st == st).length
  optBytes 4 (b.openSlot.map fun i => (b.slot i).record.number) ++ optBytes 4 b.lastClosed
    ++ [byte (count .closed), byte (if b.numberLeft then count .free + count .collected else 0)]

/-- The TARIFF notice (R166). -/
def tariffNotice (b : Billing) : List Byte :=
  [flag b.tariff.selector, flag b.commitPending, flag b.cursor.page, byte b.cursor.band]

/-! ### Power-state controller (R181) -/

/-- PART_STATUS and the PART notice. DESIGN CHOICE (log 21): the pending writes are those in the queue; a retry held back in
SUPPLY_HOLD is neither among them nor in progress. -/
def partBytes (s : State) : List Byte :=
  let p := s.power
  [byte p.part.code, byte p.lastWake.code, byte p.cause.code, flag p.hostReset, flag s.pins.supplyWarn,
   flag p.dwell.isSome, flag p.outcomes.settingsDefaulted, flag p.outcomes.tariffDefaulted, flag p.outcomes.isoLost,
   flag p.outcomes.totalsLost, byte p.outcomes.damaged, byte p.outcomes.recovered]
    ++ flagBytes [s.nv.failSettings, s.nv.failTariff, s.nv.failTotals, s.nv.failIso]
    ++ [byte s.nv.queue.length] ++ optCode (s.nv.inFlight.map fun f => f.write.content.area.code)
    ++ [byte p.settingsWrite.code]

/-- IDENTIFY (R181, R197). -/
def identityBytes (s : State) : List Byte :=
  [0x1D, 0x07, 0x40, byte s.power.cause.code, flag s.power.outcomes.settingsDefaulted]

/-! ### Notices (R190) -/

/-- The payload of a notice, from the raising block's state as it stands. DESIGN CHOICE (log 11): the SESSION notice carries
the whole SESSION_STATUS snapshot, and the HEAT and DEPARTURE notices what log 11 says. -/
def noticeBytes (s : State) : NoticeKind → List Byte
  | .part => partBytes s
  | .session => sessionBytes s
  | .heat => heatBytes s ++ s.heating.zones.map fun z => byte z.heat.code
  | .departure => departureBytes s.heating.departure ++ [flag s.heating.departure.window]
  | .insulation =>
    [byte s.iso.st.code, byte s.iso.assess.code, byte s.iso.source.code] ++ resultBytes s.now s.iso.last
      ++ [byte s.iso.search.outcome.code] ++ optCode s.iso.search.culprit
  | .stage =>
    (s.stage.nodes.map fun n => byte n.expected.code) ++ (s.stage.nodes.map fun n => byte n.st.code)
      ++ flagBytes (s.stage.nodes.map Node.isolated) ++ flagBytes s.stage.errors.bits
  | .record => recordNotice s.billing
  | .tariff => tariffNotice s.billing
  | .link => flagBytes s.link.errors.bits

end Sys2Proof.Machine
end

