-- ==== Sys2Proof/Machine/LinkOps.lean ====
section
/-! DEFINITION. The host link port (chapter 9): the receive framer, the taking of requests, the gate of serving, the
transmitter. -/

namespace Sys2Proof.Machine

/-- The framer holds no frame. -/
def Framer.isHunt : Framer → Bool
  | .hunt => true
  | .inFrame _ => false

namespace State

/-! ### Receive errors (R182, R184, R191) -/

/-- R184: a receive error drops the frame in progress. -/
def dropFrame (s : State) : State := s.onLink fun l => { l with framer := .hunt }

def errRxCheck (s : State) : State := s.linkError LinkErrors.rxCheck fun e => { e with rxCheck := true }
def errRxTimeout (s : State) : State := s.linkError LinkErrors.rxTimeout fun e => { e with rxTimeout := true }
def errRxLength (s : State) : State := s.linkError LinkErrors.rxLength fun e => { e with rxLength := true }
def errUnknownKind (s : State) : State := s.linkError LinkErrors.unknownKind fun e => { e with unknownKind := true }
def errQueueFull (s : State) : State := s.linkError LinkErrors.queueFull fun e => { e with queueFull := true }

/-! ### Taking (R185) -/

/-- R185: a good frame is taken, or turned away BUSY, or dropped when no reply can be placed. -/
def takeFrame (s : State) (kind tag : Byte) (payload : List Byte) : State :=
  if s.link.requests.length < 4 then
    s.onLink fun l => { l with requests := l.requests ++ [⟨kind, tag, payload⟩] }
  else
    (s.doIf (decide (s.link.replies.length < 8)) fun s =>
      s.placeReply kind tag [byte Status.busy.code] .plain).errQueueFull

/-- R183: a complete frame, LEN to CHK, is judged; a good one is taken and is a wake source in STANDBY (R169). -/
def judgeFrame (s : State) (bytes : List Byte) : State :=
  let n := bytes.length - 2
  let body := bytes.take n
  if good16 body (ofBe (bytes.drop n)) then
    let s := s.takeFrame (body.getD 1 0) (body.getD 2 0) (body.drop 3)
    s.doIf (s.power.part == .standby) fun s => s.takeWake .hostFrame
  else s.errRxCheck

/-- R182: the framer takes one byte. -/
def feedByte (s : State) (b : Byte) : State :=
  match s.link.framer with
  | .hunt => if b = 0xC3 then s.onLink fun l => { l with framer := .inFrame [] } else s
  | .inFrame [] =>
    if 60 < b.toNat then s.dropFrame.errRxLength else s.onLink fun l => { l with framer := .inFrame [b] }
  | .inFrame (len :: r) =>
    let all := len :: r ++ [b]
    if all.length = len.toNat + 5 then s.dropFrame.judgeFrame all
    else s.onLink fun l => { l with framer := .inFrame all }

/-- R192: the receiver runs. -/
def receiving (s : State) : Bool := s.link.on && s.power.part != .heldInReset && s.power.part != .off

/-- The bytes of the wire, one at a time (log 7); while the receiver is off they are lost. -/
def feedBytes (s : State) (bytes : List Byte) : State :=
  bytes.foldl (fun s b => s.doIf s.receiving fun s => s.feedByte b) s

/-- R182, R184: an event that ends the frame in progress early. -/
def frameError (s : State) (err : State → State) : State :=
  s.doIf (s.receiving && !s.link.framer.isHunt) fun s => err s.dropFrame

/-! ### Serving (R186) -/

/-- R186: the port may serve: RUN, which a completed start-up alone leads to, or SUPPLY_HOLD after one (log 17), and room
for one more reply. -/
def canServe (s : State) : Bool :=
  (s.power.part == .run || (s.power.part == .supplyHold && s.power.started)) && decide (s.link.replies.length < 8)

/-- R186 step 3: requests are answered STATE in SUPPLY_HOLD and while a host reset is pending. -/
def turnsAway (s : State) : Bool := s.power.part == .supplyHold || s.power.hostReset

/-- R186 steps 3 and 4: a request of a catalogued KIND and an admitted LEN is served by its owner and answered. -/
def request (s : State) (kind tag : Byte) (own : State → Served) : State :=
  if s.canServe then
    let r := if s.turnsAway then refuse s .state else own s
    r.1.placeReply kind tag r.2.payload r.2.mark
  else s

/-- R186 step 1: a KIND outside the catalogue. -/
def serveUnknown (s : State) (kind tag : Byte) : State :=
  s.doIf s.canServe fun s => s.errUnknownKind.placeReply kind tag [byte Status.unknownKind.code] .plain

/-- R186 step 2: a LEN not allowed for the KIND. -/
def serveBadLength (s : State) (kind tag : Byte) : State :=
  s.doIf s.canServe fun s => s.placeReply kind tag [byte Status.badLength.code] .plain

/-! ### The transmitter (R189, R190, R192) -/

/-- Replies are sent while the link is on and the part is not held in reset; notices in RUN, STANDBY and
SUPPLY_HOLD alone (R190, R192). -/
def sendsNotices (s : State) : Bool :=
  s.power.part == .run || s.power.part == .standby || s.power.part == .supplyHold

/-- R189: the idle transmitter takes the head reply, or else the head notice with its payload formed now. -/
def transmit (s : State) : State :=
  if s.receiving && s.link.tx.isNone then
    match s.link.replies, s.link.notices with
    | r :: rest, _ => s.onLink fun l => { l with replies := rest, tx := some ⟨r.kind, r.tag, r.payload, r.mark, false⟩ }
    | [], k :: rest =>
      s.doIf s.sendsNotices fun s =>
        s.onLink fun l => { l with notices := rest, tx := some ⟨byte k.code, 0, noticeBytes s k, .plain, true⟩ }
    | [], [] => s
  else s

/-- R168, R175, R192: what a sent reply sets going. -/
def replySent (s : State) : ReplyMark → State
  | .plain => s
  | .sleepAck =>
    s.doIf (s.power.part == .sleep) fun s => s.onLink fun l => { l with on := false, framer := .hunt }
  | .resetAck => s.onPower fun p => { p with resetAcked := p.hostReset }

/-- The frame being sent has gone out. -/
def sent (s : State) : State :=
  match s.link.tx with
  | none => s
  | some f => (s.onLink fun l => { l with tx := none }).replySent f.mark

end State

/-- The bytes of a frame being sent (section 10.2). -/
def TxFrame.bytes (f : TxFrame) : List Byte := hostFrame f.kind f.tag f.payload

end Sys2Proof.Machine
end

