-- ==== Sys2Proof/Machine/BatteryHeating.lean ====
section
/-! DEFINITION. The meanings of the heating controller's commands (chapter 3): its four requests, the heat period, the
taking of a grant, the reply ages, the on-times and the departure timer. -/

namespace Sys2Proof.Machine

/-! ### The heat period (R64 to R66) -/

/-- R64 step 1 with source NONE: every HEATING zone leaves HEATING. -/
def allOff (zs : List Zone) : List Zone := zs.map Zone.takeOff

/-- R64 step 2: a HEATING zone that no longer demands is retired. -/
def retire (zs : List Zone) : List Zone := zs.map fun z => if z.heat = .heating ∧ !z.demands then z.takeOff else z

/-- R64 to R66: the allocation: the heating controller after it, the zones shed and the zones chosen, each in order. -/
def allocate (h : Heating) : Heating × List Nat × List Nat :=
  let h := { h with source := h.chooseSource }
  if h.source = .none then ({ h with zones := allOff h.zones }, [], [])
  else
    let f := shed 8 h.limit (retire h.zones)
    let r := arbitrate 8 (h.limit - heatSum f.1) f.1
    ({ h with zones := r.1 }, f.2, r.2)

/-- R76: one second more for every zone then HEATING, held at 16,777,215. -/
def Zone.tick (z : Zone) : Zone := if z.heat = .heating then { z with onTime := min 16777215 (z.onTime + 1) } else z

namespace State

/-- R64: the heat period expires and starts again. -/
def heatPeriodEvent (s : State) : State :=
  s.doIf s.heating.heatPeriod.isSome fun s =>
    let s := s.onHeating fun h => { h with heatPeriod := some s.now }
    let a := allocate s.heating
    s.heatStep a.2.1 a.2.2 true fun _ => a.1

/-- R62, R67: the oldest posted grant and allowance are taken; a limit below the sum sheds. -/
def takeGrant (s : State) : State :=
  match s.heatIn with
  | [] => s
  | p :: rest =>
    let h := { s.heating with grant := p.grant, allowance := p.allowance }
    let f := shed 8 h.limit h.zones
    { s with heatIn := rest }.heatStep f.2 [] false fun _ => { h with zones := f.1 }

/-- R54: a heater reply age reaches 2,000 ms. -/
def replyAgeEvent (s : State) (n : Nat) : State :=
  s.doIf (s.zone n).replyStamp.isSome fun s => s.zoneStep n fun z => { z with temp := none }

/-- R76: the 1 s on-time period expires. -/
def onTimeEvent (s : State) : State :=
  s.doIf s.heating.onTick.isSome fun s =>
    s.onHeating fun h => { h with onTick := some s.now, zones := h.zones.map Zone.tick }

/-! ### The departure timer (R70 to R72) -/

/-- Change the departure timer. -/
def onDeparture (s : State) (f : Departure → Departure) : State :=
  s.onHeating fun h => { h with departure := f h.departure }

/-- R71, R72: the count reaches 0: the window closes; a PERIODIC timer is loaded again. -/
def departNow (s : State) : State :=
  let s := (s.raise .departure).evalWindow
  if s.heating.departure.mode = .periodic then
    (s.onDeparture fun d => { d with count := d.initial }).evalWindow
  else s

/-- R71: one minute of the time base. -/
def minuteCount (s : State) : State :=
  let s := s.onDeparture fun d => { d with minuteStamp := s.now }
  if s.heating.departure.count = 0 then s
  else
    let s := s.onDeparture fun d => { d with count := d.count - 1 }
    if s.heating.departure.count = 0 then s.departNow else s.evalWindow

/-- The minute of a part in no power state: the count runs on, the window is evaluated at start-up (R70, R72,
log 15). -/
def minuteSilent (s : State) : State :=
  s.onDeparture fun d =>
    let n := d.count - 1
    { d with
      minuteStamp := s.now
      count := if d.count = 1 ∧ d.mode = .periodic then d.initial else n }

/-- R72: the minute has opened the window: at a count that has come within the lead, or at the reload of a PERIODIC
timer whose count has just reached 0. -/
def windowOpened (before after : Departure) : Bool := after.window && (!before.window || before.count == 1)

/-- R72: in STANDBY and SLEEP an opening of the window is a wake source. -/
def minuteAsleep (s : State) : State :=
  let t := s.minuteCount
  t.doIf (windowOpened s.heating.departure t.heating.departure) fun t => t.takeWake .preheat

/-- R71, R72: the minute in every condition of the part. -/
def minuteEvent (s : State) : State :=
  match s.power.part with
  | .off => s
  | .heldInReset => s.minuteSilent
  | .startUp => s.minuteSilent
  | .supplyHold => s.minuteCount
  | .run => s.minuteCount
  | .standby => s.minuteAsleep
  | .sleep => s.minuteAsleep

/-! ### The requests (R60, R70, R73, R74) -/

/-- R73. -/
def ownSetZone (s : State) (zone enabled : Nat) (target : Int) (hyst : Nat) : Served :=
  match yesNo? enabled with
  | none => refuse s .badValue
  | some e =>
    if zone = 0 ∨ 8 < zone then refuse s .badValue
    else
      let t := clampInt (-40) 80 target
      let h := clampNat 1 20 hyst
      okWith (s.zoneStep zone fun z => { z with enabled := e, target := t, hyst := h })
        ([byte zone, flag e] ++ beInt 2 t ++ [byte h])

/-- R60. -/
def ownSetHeatPolicy (s : State) (gridMode gating packHeat : Nat) : Served :=
  match gridMode? gridMode, yesNo? gating, yesNo? packHeat with
  | some m, some g, some p =>
    let s := s.heatStep [] [] false fun h =>
      let h := { h with policy := { gridMode := m, gating := g, packHeat := p } }
      if h.source = .pack ∧ !p then { h with source := .none, zones := allOff h.zones } else h
    okWith ((s.postBudget (.gridMode m)).postBudget (.gating g)) []
  | _, _, _ => refuse s .badValue

/-- R70. -/
def ownSetDeparture (s : State) (count mode lead : Nat) : Served :=
  match departMode? mode with
  | none => refuse s .badValue
  | some m =>
    let n := min 10080 count
    let l := clampNat 10 240 lead
    let s := s.onDeparture fun d => { d with initial := n, count := n, mode := m, lead := l, minuteStamp := s.now }
    okWith s.evalWindow (be 2 n ++ [byte m.code, byte l])

/-- R74. -/
def ownHeatStatus (s : State) (page : Nat) : Served :=
  if page = 0 then okWith s (heatBytes s)
  else if page ≤ 8 then okWith s (zoneBytes (s.zone page))
  else refuse s .badValue

end State

/-- SET_ZONE (R73). -/
def execSetZone (tag : Byte) (zone enabled : Nat) (target : Int) (hyst : Nat) (s : State) : Result :=
  .next (s.request 0x30 tag fun s => s.ownSetZone zone enabled target hyst)

/-- SET_HEAT_POLICY (R60). -/
def execSetHeatPolicy (tag : Byte) (gridMode gating packHeat : Nat) (s : State) : Result :=
  .next (s.request 0x31 tag fun s => s.ownSetHeatPolicy gridMode gating packHeat)

/-- SET_DEPARTURE (R70). -/
def execSetDeparture (tag : Byte) (count mode lead : Nat) (s : State) : Result :=
  .next (s.request 0x32 tag fun s => s.ownSetDeparture count mode lead)

/-- HEAT_STATUS (R74). -/
def execHeatStatus (tag : Byte) (page : Nat) (s : State) : Result :=
  .next (s.request 0x33 tag fun s => s.ownHeatStatus page)

/-- HEAT_PERIOD_EXPIRY (R63 to R66). -/
def execHeatPeriodExpiry (s : State) : Result := .next (s.whenRun State.heatPeriodEvent)

/-- HEAT_GRANT_TAKEN (R62, R67). -/
def execHeatGrantTaken (s : State) : Result := .next (s.whenRun State.takeGrant)

/-- HEATER_REPLY_AGE_EXPIRY (R54). -/
def execHeaterReplyAgeExpiry (zone : Nat) (s : State) : Result :=
  .next (s.whenRun fun s => s.replyAgeEvent zone)

/-- ON_TIME_TICK (R76). -/
def execOnTimeTick (s : State) : Result := .next (s.whenRun State.onTimeEvent)

/-- DEPARTURE_MINUTE (R71, R72). -/
def execDepartureMinute (s : State) : Result := .next s.minuteEvent

end Sys2Proof.Machine
end

