-- ==== Sys2Proof/Machine/InsulationSupervision.lean ====
section
/-! DEFINITION. The meanings of the insulation monitor's commands (chapter 4): its five requests, the pack voltage
posting, the injection period, the listen window and the three timeouts of a search step. -/

namespace Sys2Proof.Machine

/-- R84: the profile rules of a change of profile mode or fixed profile. -/
def Insulation.takeProfile (x : Insulation) (m : ProfMode) (p : Profile) (now : Nat) : Insulation :=
  match m with
  | .fixed => x.useProfile p now
  | .auto =>
    if x.params.profMode = .fixed then { x with streaks := { x.streaks with settled := 0, p3Unsettled := 0 } } else x

/-- R104: the parameters replace those held; a change of thresholds clears every streak counter (R86). -/
def Insulation.takeParams (x : Insulation) (p : IsoParams) (now : Nat) : Insulation :=
  let changed := p.warn ≠ x.params.warn ∨ p.fault ≠ x.params.fault ∨ p.critical ≠ x.params.critical
  let x := { x.takeProfile p.profMode p.fixed now with params := p }
  if changed then { x with streaks := {} } else x

/-- R104: a threshold's range. -/
def thresholdLegal (n : Nat) : Bool := decide (1 ≤ n ∧ n ≤ 10000)

/-- R95: an address of the search list, and no address twice. -/
def searchListLegal (l : List Nat) : Bool := l.all (fun a => decide (1 ≤ a ∧ a ≤ 11)) && decide l.Nodup

namespace State

/-- R104. -/
def ownSetIsoParams (s : State) (enabled profMode fixed warn fault critical : Nat) : Served :=
  match yesNo? enabled, profMode? profMode, profile? fixed with
  | some e, some m, some f =>
    if !thresholdLegal warn || !thresholdLegal fault || !thresholdLegal critical || decide (fault ≤ critical) ||
        decide (warn ≤ fault) then
      refuse s .badValue
    else if s.iso.st = .searching then refuse s .state
    else
      let p : IsoParams :=
        { enabled := e, profMode := m, fixed := f, warn := warn, fault := fault, critical := critical }
      okWith (s.onIso fun x => x.takeParams p s.now).isoSupervise []
  | _, _, _ => refuse s .badValue

/-- R95: the list replaces the held one; the record of the last search stands (R100). -/
def ownSetSearchList (s : State) (l : List Nat) : Served :=
  if !searchListLegal l then refuse s .badValue
  else if s.iso.st = .searching then refuse s .state
  else okWith (s.onIso fun x => { x with searchList := l }) []

/-- R105. -/
def ownIsoStatus (s : State) (page : Nat) : Served :=
  if page = 0 then okWith s (isoBytes0 s)
  else if page = 1 then okWith s (isoBytes1 s.iso)
  else if page = 2 then okWith s (isoBytes2 s.iso)
  else refuse s .badValue

/-- R103: an address leaves the isolation memory; its branch is reconnected. -/
def forget (s : State) (addr : Nat) : State :=
  (s.onIso fun x => { x with memory := x.memory.filter fun a => a != addr }).queueReconnect addr

/-- R102, R103, R106: a memory that has changed is queued for NV and raises an INSULATION notice. -/
def memoryChanged (s : State) (old : List Nat) : State :=
  s.doIf (s.iso.memory != old) fun s => (s.queueNv (.isoMemory s.iso.memory) false).raise .insulation

/-- R103: the targets of CLEAR_ISOLATION. DESIGN CHOICE (log 21): the memory is a set and R103 names no order, so ALL
queues the RECONNECTs in the order in which the addresses joined the memory. -/
def ownClearIsolation (s : State) (target : Nat) : Served :=
  let old := s.iso.memory
  if target = 255 then okWith ((old.foldl forget s).memoryChanged old) []
  else if target = 0 ∨ 11 < target then refuse s .badValue
  else if s.iso.search.under = some target then refuse s .state
  else okWith ((s.forget target).memoryChanged old) []

/-- R96. -/
def ownStartSearch (s : State) : Served :=
  if s.iso.st = .measuring ∧ (s.iso.assess = .warning ∨ s.iso.assess = .fault) ∧ s.iso.searchList ≠ [] then
    okWith (s.beginSearch .host) []
  else refuse s .state

/-- R78: the oldest pack voltage posting reaches the monitor. -/
def packVoltageEvent (s : State) : State :=
  match s.isoIn with
  | [] => s
  | v :: rest => ({ s with isoIn := rest }.onIso fun x => { x with vPack := v }).isoSupervise

/-- R81: the end of a full injection period, while one is in progress. -/
def periodEnd (s : State) (pos3q posEnd neg3q negEnd : Int) : State :=
  s.doIf s.iso.period.isSome fun s => s.injectionEnd pos3q posEnd neg3q negEnd

/-- R91: the listen window expires, if one runs. -/
def listenEvent (s : State) (low high : Int) : State :=
  s.doIf (s.iso.st == .listening && s.iso.listenTimer.isSome) fun s => s.listenEnd low high

/-- R97, R98, R99: the entry under test is marked SKIPPED and its branch reconnected; of a node not ACTIVE the RECONNECT is
left to its next join, and the next step begins at once. -/
def skipAndReconnect (s : State) : State :=
  match s.iso.search.under with
  | none => s
  | some a =>
    let u := s.markEntry .skipped
    if (s.node a).st = .active then u.reconnectStep a else u.nextStep

/-- R97: the confirmation timeout expires. -/
def confirmTimeout (s : State) : State := s.doIf s.iso.search.confirmTimer.isSome skipAndReconnect

/-- R98: the result deadline expires. -/
def deadlineEvent (s : State) : State := s.doIf s.iso.search.deadlineTimer.isSome skipAndReconnect

/-- R99: the reconnect wait expires. -/
def reconnectTimeout (s : State) : State := s.doIf s.iso.search.reconnectTimer.isSome nextStep

end State

/-- SET_ISO_PARAMS (R104). -/
def execSetIsoParams (tag : Byte) (enabled profMode fixed warn fault critical : Nat) (s : State) : Result :=
  .next (s.request 0x40 tag fun s => s.ownSetIsoParams enabled profMode fixed warn fault critical)

/-- SET_SEARCH_LIST (R95). -/
def execSetSearchList (tag : Byte) (addrs : List Nat) (s : State) : Result :=
  .next (s.request 0x41 tag fun s => s.ownSetSearchList addrs)

/-- ISO_STATUS (R105). -/
def execIsoStatus (tag : Byte) (page : Nat) (s : State) : Result :=
  .next (s.request 0x42 tag fun s => s.ownIsoStatus page)

/-- CLEAR_ISOLATION (R103). -/
def execClearIsolation (tag : Byte) (target : Nat) (s : State) : Result :=
  .next (s.request 0x43 tag fun s => s.ownClearIsolation target)

/-- START_SEARCH (R96). -/
def execStartSearch (tag : Byte) (s : State) : Result := .next (s.request 0x44 tag State.ownStartSearch)

/-- PACK_VOLTAGE_POSTING (R78). -/
def execPackVoltagePosting (s : State) : Result := .next (s.whenRun State.packVoltageEvent)

/-- INJECTION_PERIOD_END (R80 to R90): the four samples of the period in mV. -/
def execInjectionPeriodEnd (pos3q posEnd neg3q negEnd : Int) (s : State) : Result :=
  .next (s.whenRun fun s => s.periodEnd pos3q posEnd neg3q negEnd)

/-- LISTEN_WINDOW_EXPIRY (R91): the lowest and highest sample of the window in mV. -/
def execListenWindowExpiry (low high : Int) (s : State) : Result :=
  .next (s.whenRun fun s => s.listenEvent low high)

/-- ISOLATE_CONFIRM_TIMEOUT (R97). -/
def execIsolateConfirmTimeout (s : State) : Result := .next (s.whenRun State.confirmTimeout)

/-- RESULT_DEADLINE_EXPIRY (R98). -/
def execResultDeadlineExpiry (s : State) : Result := .next (s.whenRun State.deadlineEvent)

/-- RECONNECT_WAIT_TIMEOUT (R99). -/
def execReconnectWaitTimeout (s : State) : Result := .next (s.whenRun State.reconnectTimeout)

end Sys2Proof.Machine
end

