-- ==== Sys2Proof/Machine/Metering.lean ====
section
/-! DEFINITION. The meanings of the meter's commands (chapter 6): its two requests and the sample. -/

namespace Sys2Proof.Machine

namespace State

/-- R139. -/
def ownMeterStatus (s : State) (page : Nat) : Served :=
  if page = 0 then okWith s (liveBytes s)
  else if page = 1 then okWith s (channelBytes s.meter)
  else refuse s .badValue

/-- R140. -/
def ownReadTotals (s : State) : Served := okWith s (totalsBytes s.meter)

/-- R128, R130: the meter period expires, if it runs. -/
def sampleEvent (s : State) (f : FrontEnd) : State := s.doIf s.meter.period.isSome fun s => s.sample f

end State

/-- METER_STATUS (R139). -/
def execMeterStatus (tag : Byte) (page : Nat) (s : State) : Result :=
  .next (s.request 0x60 tag fun s => s.ownMeterStatus page)

/-- READ_TOTALS (R140). -/
def execReadTotals (tag : Byte) (s : State) : Result := .next (s.request 0x61 tag State.ownReadTotals)

/-- METER_SAMPLE (R128 to R134). -/
def execMeterSample (fe : FrontEnd) (s : State) : Result := .next (s.whenRun fun s => s.sampleEvent fe)

end Sys2Proof.Machine
end

