-- ==== Sys2Proof/Machine/OperatingStates.lean ====
section
/-! DEFINITION. The meanings of the power-state controller's commands (chapter 8): its five requests, the supply warning
and its dwell, the reset line, start-up, the host reset, the NV store's writes and the failure of the supply. -/

namespace Sys2Proof.Machine

/-- R180: the settings as they stand in working memory. -/
def settingsNow (s : State) : Settings :=
  { table := s.budget.table, params := s.budget.params, policy := s.heating.policy
    zones := s.heating.zones.map Zone.params, iso := s.iso.params, searchList := s.iso.searchList
    roster := s.stage.nodes.map Node.expected }

namespace State

/-- R181. -/
def ownIdentify (s : State) : Served := okWith s (identityBytes s)

/-- R181. -/
def ownPartStatus (s : State) : Served := okWith s (partBytes s)

/-- R175: a host reset is pending; an energised session is stopped with cause HOST_RESET. -/
def ownReset (s : State) : Served :=
  let s := s.onPower fun p => { p with hostReset := true, resetAcked := false }
  let s := s.doIf (s.session.st == .energising || s.session.st == .active || s.session.st == .paused)
    fun s => s.takeStop .hostReset
  (s, ⟨.ok, [], .resetAck⟩)

/-- R168: what an entry to STANDBY or SLEEP calls for. No other request stands in the queue when it is empty: the
request being served has left it (log 4). -/
def mayRest (s : State) : Bool :=
  (s.session.st == .idle || s.session.st == .finished) && s.heating.zones.all (fun z => z.heat != .heating) &&
    s.iso.st != .searching && s.link.requests.isEmpty && !s.power.hostReset

/-- R168. The receiver waits for the OK reply only while the part sleeps on: a WAKE line that returns it to RUN in the
same step leaves the reply plain (R192). -/
def ownSetPowerState (s : State) (target : Nat) : Served :=
  match powerTarget? target with
  | none => refuse s .badValue
  | some t =>
    if t = .run then okWith s []
    else if s.mayRest then
      let u := s.enterLow t
      (u, ⟨.ok, [], if u.power.part = .sleep then .sleepAck else .plain⟩)
    else refuse s .state

/-- R180. -/
def ownSaveSettings (s : State) : Served := okWith (s.queueNv (.settings (settingsNow s)) false) []

/-- R191: the five flags, cleared in the same step. -/
def ownReadLinkErrors (s : State) : Served :=
  okWith (s.onLink fun l => { l with errors := {} }) (flagBytes s.link.errors.bits)

/-- R169, R192: the WAKE line. -/
def wakeEvent (s : State) (asserted : Bool) : State :=
  let s := s.onPins fun p => { p with wake := asserted }
  s.doIf asserted fun s => s.takeWake .wakeLine

end State

/-- IDENTIFY (R181, R197). -/
def execIdentify (tag : Byte) (s : State) : Result := .next (s.request 0x01 tag State.ownIdentify)

/-- PART_STATUS (R181). -/
def execPartStatus (tag : Byte) (s : State) : Result := .next (s.request 0x02 tag State.ownPartStatus)

/-- RESET (R175). -/
def execReset (tag : Byte) (s : State) : Result := .next (s.request 0x03 tag State.ownReset)

/-- SET_POWER_STATE (R168). -/
def execSetPowerState (tag : Byte) (target : Nat) (s : State) : Result :=
  .next (s.request 0x04 tag fun s => s.ownSetPowerState target)

/-- SAVE_SETTINGS (R180). -/
def execSaveSettings (tag : Byte) (s : State) : Result := .next (s.request 0x05 tag State.ownSaveSettings)

/-- READ_LINK_ERRORS (R191). -/
def execReadLinkErrors (tag : Byte) (s : State) : Result := .next (s.request 0x06 tag State.ownReadLinkErrors)

/-- WAKE_LINE (R169, R192). -/
def execWakeLine (asserted : Bool) (s : State) : Result := .next (s.wakeEvent asserted)

/-- SUPPLY_WARN (R171, R172). -/
def execSupplyWarn (s : State) : Result := .next s.warn

/-- SUPPLY_WARN_RELEASE (R172). -/
def execSupplyWarnRelease (s : State) : Result := .next s.warnRelease

/-- WARNING_CLEAR_DWELL_EXPIRY (R172). -/
def execWarningClearDwellExpiry (s : State) : Result := .next s.dwellExpiry

/-- RESET_LINE_ASSERT (R173). -/
def execResetLineAssert (s : State) : Result := .next s.holdReset

/-- START_UP (R172 to R176): the sequence, to its completion in RUN if `complete`. -/
def execStartUp (complete : Bool) (s : State) : Result := .next (s.startUpSeq complete)

/-- HOST_RESET_GO (R175). -/
def execHostResetGo (s : State) : Result := .next s.hostResetGo

/-- NV_WRITE_BEGIN (R177, R178). -/
def execNvWriteBegin (s : State) : Result := .next s.nvBegin

/-- NV_WRITE_COMPLETE (R179): the write and its verify are over. -/
def execNvWriteComplete (verified : Bool) (s : State) : Result := .next (s.nvComplete verified)

/-- SUPPLY_FAILURE (R172, R174): the supply has failed. -/
def execSupplyFailure (s : State) : Result := .next s.failSupply

end Sys2Proof.Machine
end

