-- ==== Sys2Proof/Machine/PowerBudget.lean ====
section
/-! DEFINITION. The meanings of the budget unit's commands (chapter 2): its four requests, its period, the arrival of a
posting and the staleness of the pack limits. -/

namespace Sys2Proof.Machine

/-- R39: the table of SET_DERATE_TABLE may replace the held one: temperatures −80 to +250 and rising, derates of at
most 1,000. -/
def tableLegal : List Point → Bool
  | [] => true
  | [p] => decide (-80 ≤ p.1 ∧ p.1 ≤ 250 ∧ p.2 ≤ 1000)
  | p :: q :: r => decide (-80 ≤ p.1 ∧ p.1 ≤ 250 ∧ p.2 ≤ 1000 ∧ p.1 < q.1) && tableLegal (q :: r)

namespace State

/-- R32: clamped, the record is replaced whole, and the reply echoes the applied values. -/
def ownSetPackLimits (s : State) (packV maxI heat : Nat) : Served :=
  let v := min 10000 packV
  let i := min 5000 maxI
  let h := min 10000 heat
  okWith
    (s.changeInput fun x =>
      { x with limits := { packV := v, maxI := i, heat := h, stamp := s.now, present := true, stale := false } })
    (be 2 v ++ be 2 i ++ be 2 h)

/-- R39: refused with BAD_TABLE, or replaced whole with an evaluation. Eight points are what its LEN carries (R196). -/
def ownSetDerateTable (s : State) (points : List Point) : Served :=
  if points.length ≠ 8 then refuse s .badLength
  else if tableLegal points then okWith (s.onBudget fun b => { b with table := points }).evalBudget []
  else refuse s .badTable

/-- R38: clamped, replaced with an evaluation if any differs, and echoed. -/
def ownSetBudgetParams (s : State) (cap aux share : Nat) : Served :=
  let p : BudgetParams := { cap := min 800 cap, aux := min 3000 aux, share := min 1000 share }
  let old := s.budget.params
  okWith ((s.onBudget fun b => { b with params := p }).doIf (p != old) evalBudget) (paramBytes p)

/-- R52. -/
def ownBudgetStatus (s : State) (page : Nat) : Served :=
  if page = 0 then okWith s (evalBytes s.budget.last)
  else if page = 1 then okWith s (inputBytes s.now s.budget.input)
  else if page = 2 then okWith s (tableBytes s.budget)
  else refuse s .badValue

/-- R30: the oldest waiting posting of a writer arrives. -/
def postingArrives (s : State) (w : Writer) : State :=
  match takePosting w s.budgetIn with
  | none => s
  | some (p, rest) => { s with budgetIn := rest }.changeInput fun i => i.take p

/-- R32: the pack limits record becomes stale, in whatever power state it stands; the evaluation is RUN's alone (R37). -/
def limitsStale (s : State) : State :=
  s.doIf (s.budget.input.limits.present && !s.budget.input.limits.stale) fun s =>
    s.changeInput fun i => { i with limits := { i.limits with stale := true } }

/-- R41: the budget period expires and starts again. -/
def budgetPeriod (s : State) : State :=
  s.doIf s.budget.period.isSome fun s => (s.onBudget fun b => { b with period := some s.now }).evalBudget

end State

/-- SET_PACK_LIMITS (R32). -/
def execSetPackLimits (tag : Byte) (packV maxI heat : Nat) (s : State) : Result :=
  .next (s.request 0x20 tag fun s => s.ownSetPackLimits packV maxI heat)

/-- SET_DERATE_TABLE (R39). -/
def execSetDerateTable (tag : Byte) (points : List (Int × Nat)) (s : State) : Result :=
  .next (s.request 0x21 tag fun s => s.ownSetDerateTable points)

/-- SET_BUDGET_PARAMS (R38). -/
def execSetBudgetParams (tag : Byte) (cap aux share : Nat) (s : State) : Result :=
  .next (s.request 0x22 tag fun s => s.ownSetBudgetParams cap aux share)

/-- BUDGET_STATUS (R52). -/
def execBudgetStatus (tag : Byte) (page : Nat) (s : State) : Result :=
  .next (s.request 0x23 tag fun s => s.ownBudgetStatus page)

/-- BUDGET_PERIOD_EXPIRY (R41). -/
def execBudgetPeriodExpiry (s : State) : Result := .next (s.whenRun State.budgetPeriod)

/-- BUDGET_POSTING_ARRIVAL (R30). -/
def execBudgetPostingArrival (w : Writer) (s : State) : Result := .next (s.postingArrives w)

/-- PACK_LIMITS_STALE (R32). -/
def execPackLimitsStale (s : State) : Result := .next s.limitsStale

end Sys2Proof.Machine
end

