-- ==== Sys2Proof/Machine/Sessions.lean ====
section
/-! DEFINITION. The meanings of the session controller's commands (chapter 1): the ten session requests and the events
of the inlet, the lock, the contactors and the session's timeouts. -/

namespace Sys2Proof.Machine

/-- The feedback level of one contact. -/
def Pins.setFb (p : Pins) (k : Contact) (closed : Bool) : Pins :=
  match k with
  | .ac => { p with kacFb := closed }
  | .dcPos => { p with kdcpFb := closed }
  | .dcNeg => { p with kdcnFb := closed }

namespace State

/-! ### AUTHORISE (R8) -/

/-- R8: the pilot and the inlet temperature allow AUTHORISE and RESTART (R3, R5). -/
def inletReady (s : State) : Bool :=
  s.session.pilot != .error && !overheated (inletTemp s.session.temp1 s.session.temp2)

/-- R8: the fields of an accepted AUTHORISE are stored and posted. -/
def storeAuthorisation (s : State) (mode : Mode) (phases : Nat) (unlock : Bool) (ref : List Byte) : State :=
  let s := s.onSession fun x =>
    { x with
      mode := some mode, phases := some phases, unlockOnStop := unlock, stopCause := none
      ref := if ref.isEmpty then none else some ref }
  let s := s.onMeter fun m => { m with mode := some mode }
  (s.doIf (mode == .ac) clearStation).postBudget (.phases phases)

/-- R10, R11: the start of ENERGISING by mode, with the energising wait running. In DC the flags of a station record
taken in AUTHORISING are handed over with the listen request. -/
def startEnergising (s : State) (mode : Mode) : State :=
  let s := s.onSession fun x => { x with energiseTimer := some s.now }
  match mode with
  | .ac => s.acVoltageCheck
  | .dc =>
    let s := s.listenRequest
    match s.session.station with
    | none => s
    | some r => s.stationFlags r.monActive r.faultReported

/-- R8: what an accepted AUTHORISE does with the slot offered. -/
def authorised (s : State) (slot : Nat) (mode : Mode) (phases : Nat) (unlock : Bool) (ref : List Byte) : State :=
  let s := s.onBilling fun b => { b with reservation := some slot }
  let s := (s.storeAuthorisation mode phases unlock ref).clearOnTimes.enter .energising
  (s.openRecord slot mode s.session.ref).startEnergising mode

/-- R8: the checks of AUTHORISE in order. -/
def ownAuthorise (s : State) (mode phases unlock : Nat) (ref : List Byte) : Served :=
  if s.session.st ≠ .authorising then refuse s .state
  else
    match mode? mode, yesNo? unlock with
    | some m, some u =>
      if (phases ≠ 1 ∧ phases ≠ 3) ∨ 16 < ref.length then refuse s .badValue
      else if s.iso.assess = .fault ∨ s.iso.assess = .critical then refuse s .state
      else if ¬ s.inletReady then refuse s .state
      else
        match s.billing.offer with
        | none => refuse s .logFull
        | some slot => okWith (s.authorised slot m phases u ref) []
    | _, _ => refuse s .badValue

/-! ### The other requests -/

/-- R9. -/
def ownDeny (s : State) : Served :=
  if s.session.st = .authorising ∨ (s.session.st = .finished ∧ s.session.lock = .engaged) then
    okWith s.goUnlocking []
  else refuse s .state

/-- R18. -/
def ownPause (s : State) : Served :=
  if s.drawing then okWith (s.setCauses { s.session.causes with hostPause := true }) [] else refuse s .state

/-- R18. -/
def ownResume (s : State) : Served :=
  if s.drawing then okWith (s.setCauses { s.session.causes with hostPause := false }) [] else refuse s .state

/-- R26. -/
def ownStop (s : State) : Served :=
  match s.session.st with
  | .energising => okWith (s.takeStop .hostStop) []
  | .active => okWith (s.takeStop .hostStop) []
  | .paused => okWith (s.takeStop .hostStop) []
  | .locking => okWith (s.onSession fun x => { x with stopPending := true }) []
  | .authorising => okWith s.goUnlocking []
  | .idle => refuse s .state
  | .connected => refuse s .state
  | .stopping => refuse s .state
  | .unlocking => refuse s .state
  | .finished => refuse s .state
  | .faulted => refuse s .state

/-- R24. -/
def ownRestart (s : State) : Served :=
  if s.session.st = .finished ∧ s.inletReady then okWith s.goLocking [] else refuse s .state

/-- R25. DESIGN CHOICE (log 21): a contactor that FAULTED holds OPENING becomes OPEN here, where its feedback is known to
report open. -/
def ownClearFault (s : State) : Served :=
  if s.session.st = .faulted ∧ s.pins.allOpen then
    let s := s.settleContactors.onSession fun x => { x with fault := none }
    if !s.session.prox.present && !s.pins.lockFb then
      okWith ((s.onSession fun x => { x with lock := .notEngaged }).enter .idle) []
    else okWith s.goUnlocking []
  else refuse s .state

/-- R12: the states and modes in which DC_STATION is taken. -/
def takesStation (s : State) : Bool :=
  match s.session.st with
  | .authorising => true
  | .energising => s.session.mode == some .dc
  | .active => s.session.mode == some .dc
  | .paused => s.session.mode == some .dc
  | .stopping => s.session.mode == some .dc
  | .idle => false
  | .connected => false
  | .locking => false
  | .unlocking => false
  | .finished => false
  | .faulted => false

/-- R12. -/
def ownDcStation (s : State) (maxV maxI maxP flags : Nat) : Served :=
  if ¬ s.takesStation then refuse s .state
  else if 10000 < maxV ∨ 5000 < maxI ∨ 400000 < maxP ∨ 4 ≤ flags then refuse s .badValue
  else
    let mon := flags % 2 == 1
    let fault := flags / 2 % 2 == 1
    let s := (s.onSession fun x => { x with station := some ⟨maxV, maxI, maxP, mon, fault, s.now, false⟩ }).postBudget
      (.stationFresh maxV maxI maxP)
    okWith (if s.session.st = .authorising then s else s.stationFlags mon fault) []

/-- R13: the conditions of DC_CONNECT on the voltages and the station record. -/
def dcReady (s : State) : Bool :=
  match s.meter.live.packV, s.session.station with
  | some v, some r => !r.stale && decide (v ≤ r.maxV) && decide (distance s.meter.live.vDc v ≤ 200)
  | _, _ => false

/-- R13. -/
def ownDcConnect (s : State) : Served :=
  if s.session.mode = some .dc ∧ s.session.st = .energising ∧ s.session.dcK = .opened ∧ s.iso.st ≠ .listening ∧
      s.dcReady then
    let s := s.onSession fun x => { x with dcK := .closing, energiseTimer := none, closeTimer := some s.now }
    okWith (s.onPins fun p => { p with kdcpDrive := true, kdcnDrive := true }).dcClosedCheck []
  else refuse s .state

/-- R27. -/
def ownSessionStatus (s : State) : Served := okWith s (sessionBytes s)

/-! ### Inlet events -/

/-- R1, R200: a proximity class has held its dwell. -/
def proxEvent (s : State) (c : PlugClass) : State :=
  let changed := c != s.session.watchProx
  let s := s.onSession fun x => { x with watchProx := c, proxTaken := true }
  match s.power.part with
  | .run => s.actOnProx
  | .standby => s.doIf changed fun s => s.takeWake .plug
  | .sleep => s.doIf changed fun s => s.takeWake .plug
  | .supplyHold => s
  | .startUp => s
  | .heldInReset => s
  | .off => s

/-- R3, R200: a pilot class has held its dwell. -/
def pilotEvent (s : State) (c : PilotClass) (duty : Nat) : State :=
  let changed := c != s.session.watchPilot
  let s := s.onSession fun x => { x with watchPilot := c, watchDuty := duty, pilotTaken := true }
  match s.power.part with
  | .run => s.actOnPilot
  | .standby => s.doIf changed fun s => s.takeWake .pilot
  | .sleep => s.doIf changed fun s => s.takeWake .pilot
  | .supplyHold => s
  | .startUp => s
  | .heldInReset => s
  | .off => s

/-- Whether the inlet class watch runs: it does from every reset's end (R167, R200). -/
def watching (s : State) : Bool := s.power.part != .heldInReset && s.power.part != .off

/-- R5, R200: the inlet temperature sensors read something new; in RUN the session controller takes it at once. -/
def temperatureEvent (s : State) (t1 t2 : Option HalfDeg) : State :=
  (s.onPins fun p => { p with sensor1 := sensorReading t1, sensor2 := sensorReading t2 }).whenRun takeTemperatures

/-! ### Lock events -/

/-- R7: the lock feedback reports engaged. -/
def lockEngagedEvent (s : State) : State :=
  let s := s.onPins fun p => { p with lockFb := true }
  s.doIf (s.inRun && s.session.st == .locking && s.session.lock == .lockTravel) lockDone

/-- R19, R23: the lock feedback reports not engaged. -/
def lockReleasedEvent (s : State) : State :=
  let s := s.onPins fun p => { p with lockFb := false }
  if s.inRun then
    if s.session.st = .unlocking ∧ s.session.lock = .unlockTravel then s.unlockDone
    else s.lockCheck
  else s

/-- R7, R23: the lock travel timeout expires. -/
def lockTimeout (s : State) : State :=
  if s.session.lockTimer.isSome then
    match s.session.st with
    | .locking => s.goFaulted .lockFail
    | .unlocking => s.goFaulted .lockStuck
    | .idle => s
    | .connected => s
    | .authorising => s
    | .energising => s
    | .active => s
    | .paused => s
    | .stopping => s
    | .finished => s
    | .faulted => s
  else s

/-! ### Contactor events -/

/-- R10, R13: a contact reports closed. -/
def contactClosedEvent (s : State) (k : Contact) : State :=
  let s := s.onPins fun p => p.setFb k true
  s.whenRun fun s => s.acClosedCheck.dcClosedCheck

/-- R19: whether the opening of a contact is a contactor fault: its contactor is CLOSED and not commanded open. -/
def contactFault (s : State) (k : Contact) : Bool :=
  (s.drawing || s.session.st == .stopping) &&
    match k with
    | .ac => s.session.acK == .closed
    | .dcPos => s.session.dcK == .closed
    | .dcNeg => s.session.dcK == .closed

/-- R19, R21, R22: a contact reports open. -/
def contactOpenedEvent (s : State) (k : Contact) : State :=
  let fault := s.inRun && s.contactFault k
  let s := s.onPins fun p => p.setFb k false
  if fault then
    ((s.onSession fun x => { x with fault := some .contactor }).raise .session).takeStop .contactor
  else if s.power.part = .supplyHold ∧ s.session.st = .stopping then s.holdOpening false
  else s.openingCheck

/-- R10, R13, R22: the closing feedback timeout expires. -/
def closingTimeout (s : State) : State :=
  s.doIf (s.session.closeTimer.isSome && s.session.st == .energising) fun s =>
    (s.onSession fun x => { x with fault := some .contactor, closeTimer := none }).takeStop .contactor

/-- R21, R22: the opening feedback timeout expires, in RUN or in SUPPLY_HOLD. -/
def openingTimeout (s : State) : State :=
  s.doIf (s.session.openTimer.isSome && s.session.st == .stopping) fun s =>
    if s.power.part = .run then s.stopEnd true
    else s.doIf (s.power.part == .supplyHold) fun s => s.holdOpening true

/-- R12: the DC station record's age reaches 1,000 ms, in whatever power state the held record stands. -/
def stationStaleEvent (s : State) : State :=
  match s.session.station with
  | none => s
  | some r =>
    if r.stale then s
    else (s.onSession fun x => { x with station := some { r with stale := true } }).postBudget .stationStale

end State

/-! ### The requests' meanings -/

/-- AUTHORISE (R8). -/
def execAuthorise (tag : Byte) (mode phases unlock : Nat) (ref : List Byte) (s : State) : Result :=
  .next (s.request 0x10 tag fun s => s.ownAuthorise mode phases unlock ref)

/-- DENY (R9). -/
def execDeny (tag : Byte) (s : State) : Result := .next (s.request 0x11 tag State.ownDeny)

/-- PAUSE (R18). -/
def execPause (tag : Byte) (s : State) : Result := .next (s.request 0x12 tag State.ownPause)

/-- RESUME (R18). -/
def execResume (tag : Byte) (s : State) : Result := .next (s.request 0x13 tag State.ownResume)

/-- STOP (R26). -/
def execStop (tag : Byte) (s : State) : Result := .next (s.request 0x14 tag State.ownStop)

/-- RESTART (R24). -/
def execRestart (tag : Byte) (s : State) : Result := .next (s.request 0x15 tag State.ownRestart)

/-- CLEAR_FAULT (R25). -/
def execClearFault (tag : Byte) (s : State) : Result := .next (s.request 0x16 tag State.ownClearFault)

/-- DC_STATION (R12). -/
def execDcStation (tag : Byte) (maxV maxI maxP flags : Nat) (s : State) : Result :=
  .next (s.request 0x17 tag fun s => s.ownDcStation maxV maxI maxP flags)

/-- DC_CONNECT (R13). -/
def execDcConnect (tag : Byte) (s : State) : Result := .next (s.request 0x18 tag State.ownDcConnect)

/-- SESSION_STATUS (R27). -/
def execSessionStatus (tag : Byte) (s : State) : Result := .next (s.request 0x19 tag State.ownSessionStatus)

/-! ### The events' meanings -/

/-- PROXIMITY_CLASS_CHANGE (R1, R200): the resistance that stood through the dwell. -/
def execProximityClassChange (ohms : Option Nat) (s : State) : Result :=
  .next (s.doIf s.watching fun s => s.proxEvent (plugClassOf ohms))

/-- PILOT_CLASS_CHANGE (R3, R200): the signal that stood through the dwell. -/
def execPilotClassChange (sig : PilotSignal) (s : State) : Result :=
  .next (match pilotClassOf sig with
    | none => s
    | some (c, duty) => s.doIf s.watching fun s => s.pilotEvent c duty)

/-- PILOT_DUTY_CHANGE (R3, R200): a duty formed at the end of a period in OFFERING. -/
def execPilotDutyChange (highTime periodTime : Nat) (s : State) : Result :=
  .next (s.doIf (s.watching && s.session.watchPilot == .offering) fun s =>
    s.pilotEvent .offering (dutyOf highTime periodTime))

/-- INLET_TEMPERATURE_CHANGE (R5, R200). -/
def execInletTemperatureChange (t1 t2 : Option HalfDeg) (s : State) : Result :=
  .next (s.temperatureEvent t1 t2)

/-- LOCK_ENGAGED (R7). -/
def execLockEngaged (s : State) : Result := .next s.lockEngagedEvent

/-- LOCK_RELEASED (R19, R23). -/
def execLockReleased (s : State) : Result := .next s.lockReleasedEvent

/-- LOCK_TRAVEL_TIMEOUT (R7, R23). -/
def execLockTravelTimeout (s : State) : Result := .next (s.whenRun State.lockTimeout)

/-- ENERGISING_WAIT_EXPIRY (R10, R11). -/
def execEnergisingWaitExpiry (s : State) : Result :=
  .next (s.whenRun fun s =>
    s.doIf (s.session.energiseTimer.isSome && s.session.st == .energising) fun s => s.takeStop .stationTimeout)

/-- CONTACTOR_CLOSED (R10, R13, R14). -/
def execContactorClosed (k : Contact) (s : State) : Result := .next (s.contactClosedEvent k)

/-- CONTACTOR_OPENED (R19, R21, R22). -/
def execContactorOpened (k : Contact) (s : State) : Result := .next (s.contactOpenedEvent k)

/-- CLOSING_FEEDBACK_TIMEOUT (R10, R13). -/
def execClosingFeedbackTimeout (s : State) : Result := .next (s.whenRun State.closingTimeout)

/-- OPENING_FEEDBACK_TIMEOUT (R21, R22). -/
def execOpeningFeedbackTimeout (s : State) : Result := .next s.openingTimeout

/-- STOP_RAMP_WAIT_EXPIRY (R21). -/
def execStopRampWaitExpiry (s : State) : Result :=
  .next (s.whenRun fun s =>
    s.doIf (s.session.rampTimer.isSome && s.session.st == .stopping) State.openContactors)

/-- DC_STATION_STALE (R12, R33). -/
def execDcStationStale (s : State) : Result := .next s.stationStaleEvent

end Sys2Proof.Machine
end

