-- ==== Sys2Proof/Machine/StageLink.lean ====
section
/-! DEFINITION. The meanings of the stage link controller's commands (chapter 5): its four requests, the transactions,
the node periods, the re-call period and the two safe-stop broadcasts. -/

namespace Sys2Proof.Machine

/-- R114: the kind an address may be expected to be. -/
def rosterKindLegal (addr : Nat) (k : NodeKind) : Bool :=
  k == .none || (if addr ≤ 3 then k == .charger else k == .heater)

/-- R114: eleven kinds in their sets, each legal at its address. -/
def rosterOf (codes : List Nat) : Option (List NodeKind) :=
  match codes.mapM nodeKind? with
  | none => none
  | some kinds => if (addresses.zip kinds).all fun p => rosterKindLegal p.1 p.2 then some kinds else none

namespace State

/-- R114. Eleven codes are what its LEN carries (R196). -/
def ownSetRoster (s : State) (codes : List Nat) : Served :=
  if codes.length ≠ 11 then refuse s .badLength
  else
    match rosterOf codes with
    | none => refuse s .badValue
    | some kinds => if s.iso.st = .searching then refuse s .state else okWith (s.setRoster kinds) []

/-- R115: the expected nodes that are not ACTIVE. DESIGN CHOICE (log 21): the table gives address order for its other
two occasions and none for this one; a ROLL_CALL request queues them in address order too. -/
def callable (s : State) : List Nat :=
  addresses.filter fun a =>
    (s.node a).st == .missing || (s.node a).st == .lost || (s.node a).st == .mismatch

/-- R115: the reply carries the number of nodes queued. -/
def ownRollCall (s : State) : Served :=
  let t := s.rollCallFor s.callable
  okWith t [byte (t.stage.normal.length - s.stage.normal.length)]

/-- R125. -/
def ownRosterStatus (s : State) (page : Nat) : Served :=
  if page = 0 then okWith s (rosterBytes s)
  else if page ≤ 11 then okWith s (nodeBytes s page)
  else refuse s .badValue

/-- R124: the five flags, cleared in the same step. -/
def ownReadStageErrors (s : State) : Served :=
  okWith (s.onStage fun g => { g with errors := {} }) (flagBytes s.stage.errors.bits)

/-- R109, R199: a status byte arrives while one is awaited. -/
def statusSlot (s : State) (b : Byte) : State :=
  match s.stage.inFlight with
  | none => s
  | some t =>
    if t.phase = .awaitStatus then
      if b = 1 then
        if t.cmd.responds then s.onStage fun g => { g with inFlight := some { t with phase := .awaitResponse } }
        else s.attemptEnd t (.accept [])
      else if b = 2 then s.attemptEnd t .retry
      else if b = 3 then s.attemptEnd t .reject
      else if b = 4 then s.attemptEnd t .checkError
      else s.attemptEnd t .rxCheck
    else s

/-- R108, R109: a response frame arrives while one is awaited. -/
def responseFrame (s : State) (bytes : List Byte) : State :=
  match s.stage.inFlight with
  | none => s
  | some t =>
    if t.phase = .awaitResponse then
      match responsePayload t bytes with
      | some reply => s.attemptEnd t (.accept reply)
      | none => s.attemptEnd t .rxCheck
    else s

/-- R109: 200 µs have passed with no status, or with no response frame. -/
def slotTimeout (s : State) : State :=
  match s.stage.inFlight with
  | none => s
  | some t => if t.phase = .retryWait then s else s.attemptEnd t .noResponse

/-- R110: the wait of 2 ms between attempts is over. -/
def retryEvent (s : State) : State :=
  match s.stage.inFlight with
  | none => s
  | some t =>
    if t.phase = .retryWait then s.sendAttempt { t with attempt := t.attempt + 1, phase := .awaitStatus } else s

/-- R120: a node's poll time expires and starts again. -/
def pollEvent (s : State) (addr : Nat) : State :=
  s.doIf ((s.node addr).st == .active && (s.node addr).pollTimer.isSome) fun s =>
    (s.onNode addr fun n => { n with pollTimer := some s.now }).queueNormal .statusQuery addr

/-- R123: a node's refresh time expires and starts again. -/
def refreshEvent (s : State) (addr : Nat) : State :=
  s.doIf ((s.node addr).st == .active && (s.node addr).refreshTimer.isSome) fun s =>
    (s.onNode addr fun n => { n with refreshTimer := some s.now }).queueNormal .setpoint addr

/-- R115: the re-call period expires and starts again. -/
def recallEvent (s : State) : State :=
  s.doIf s.stage.recallTimer.isSome fun s =>
    (s.onStage fun g => { g with recallTimer := some s.now }).rollCallFor
      (addresses.filter fun a => (s.node a).st == .missing || (s.node a).st == .lost)

/-- R119: the pending safe stop begins once the link is free. -/
def safeStopEvent (s : State) : State := s.doIf (s.stage.safeStop && s.linkFree) safeStopFirst

/-- R119: 2 ms after the first broadcast the second is sent. -/
def safeStopAgain (s : State) : State := s.doIf (s.stage.broadcast == .firstSent) safeStopSecond

end State

/-- SET_ROSTER (R114). -/
def execSetRoster (tag : Byte) (kinds : List Nat) (s : State) : Result :=
  .next (s.request 0x50 tag fun s => s.ownSetRoster kinds)

/-- ROLL_CALL (R115). -/
def execRollCall (tag : Byte) (s : State) : Result := .next (s.request 0x51 tag State.ownRollCall)

/-- ROSTER_STATUS (R125). -/
def execRosterStatus (tag : Byte) (page : Nat) (s : State) : Result :=
  .next (s.request 0x52 tag fun s => s.ownRosterStatus page)

/-- READ_STAGE_ERRORS (R124). -/
def execReadStageErrors (tag : Byte) (s : State) : Result := .next (s.request 0x53 tag State.ownReadStageErrors)

/-- TRANSACTION_BEGIN (R118). -/
def execTransactionBegin (s : State) : Result := .next s.nextWork

/-- STATUS_SLOT_RECEIVED (R109, R199); the end of the transaction completes an entry to STANDBY or SLEEP (R169). -/
def execStatusSlotReceived (status : Byte) (s : State) : Result := .next (s.statusSlot status).finishEntry

/-- RESPONSE_FRAME_RECEIVED (R108, R109, R112, R121). -/
def execResponseFrameReceived (bytes : List Byte) (s : State) : Result := .next (s.responseFrame bytes).finishEntry

/-- SLOT_WAIT_TIMEOUT (R109). -/
def execSlotWaitTimeout (s : State) : Result := .next s.slotTimeout.finishEntry

/-- RETRY_WAIT_EXPIRY (R110). -/
def execRetryWaitExpiry (s : State) : Result := .next s.retryEvent

/-- POLL_TIME_EXPIRY (R120). -/
def execPollTimeExpiry (addr : Nat) (s : State) : Result := .next (s.whenRun fun s => s.pollEvent addr)

/-- REFRESH_TIME_EXPIRY (R123). -/
def execRefreshTimeExpiry (addr : Nat) (s : State) : Result := .next (s.whenRun fun s => s.refreshEvent addr)

/-- RECALL_PERIOD_EXPIRY (R115). -/
def execRecallPeriodExpiry (s : State) : Result := .next (s.whenRun State.recallEvent)

/-- SAFE_STOP (R119): the first broadcast. -/
def execSafeStop (s : State) : Result := .next s.safeStopEvent

/-- SAFE_STOP_REPEAT (R119): the second broadcast. -/
def execSafeStopRepeat (s : State) : Result := .next s.safeStopAgain

end Sys2Proof.Machine
end

