-- ==== Sys2Proof/Machine/Tariffs.lean ====
section
/-! DEFINITION. The meanings of the billing unit's commands (chapter 7): its eight requests, the clock's second and the
checkpoint and rewrite periods. -/

namespace Sys2Proof.Machine

/-! ### The clock (R142) -/

/-- R142: one second: seconds, minute of day and day roll over. -/
def Clock.tick (c : Clock) (now : Nat) : Clock :=
  let c := { c with secondStamp := now }
  if c.second < 59 then { c with second := c.second + 1 }
  else if c.minute < 1439 then { c with second := 0, minute := c.minute + 1 }
  else { c with second := 0, minute := 0, day := (c.day + 1) % 65536 }

/-! ### TARIFF_WRITE (R145) -/

/-- R145: the band entries' start minutes and flags, and the page number, are in their ranges. -/
def bandsInRange (page : Nat) (bands : List BandEntry) : Bool :=
  decide (page ≤ 1 ∧ 1 ≤ bands.length ∧ bands.length ≤ 8) &&
    bands.all fun b => decide (b.start ≤ 1439) && (yesNo? b.preferred).isSome

/-- R145, R195: a band entry with its price digits decoded; `none` for a nibble above 9. -/
def bandOfEntry (b : BandEntry) : Option Band :=
  (bcd? 6 b.price).map fun p => { start := b.start, price := p, preferred := b.preferred == 1 }

/-- Replace a page in working memory. -/
def TariffArea.setPage (t : TariffArea) (page : Bool) (bands : List Band) : TariffArea :=
  if page then { t with page1 := bands } else { t with page0 := bands }

namespace State

/-- R143, after the checks. -/
def setClockTo (s : State) (day minute second : Nat) : State :=
  let s := s.pricingPoint
  let s := s.onBilling fun b =>
    { b with clock := { day := day, minute := minute, second := second, valid := true, secondStamp := s.now } }
  let s := s.relocate
  match s.billing.openSlot with
  | none => s
  | some i =>
    (s.onSlot i fun x =>
      { x with record := { x.record with flags := { x.record.flags with clockAdjusted := true } } }).checkpoint

/-- R143. -/
def ownSetClock (s : State) (day minute second : Nat) : Served :=
  if 65535 < day ∨ 1439 < minute ∨ 59 < second then refuse s .badValue
  else okWith (s.setClockTo day minute second) []

/-- R145. -/
def ownTariffWrite (s : State) (page : Nat) (bands : List BandEntry) : Served :=
  if !bandsInRange page bands then refuse s .badValue
  else if !s.billing.writable (page == 1) then refuse s .protectedPage
  else
    match bands.mapM bandOfEntry with
    | none => refuse s .badDecimal
    | some l => okWith (s.onBilling fun b => { b with tariff := b.tariff.setPage (page == 1) l }) []

/-- R145. -/
def ownTariffRead (s : State) (page : Nat) : Served :=
  if 1 < page then refuse s .badValue else okWith s (tariffBytes s.billing (page == 1))

/-- R146: the reply carries whether the swap was made (1) or left pending (0). -/
def ownTariffCommit (s : State) : Served :=
  if s.billing.commitPending then okWith s [0]
  else if !pageValid (s.billing.tariff.page (!s.billing.tariff.selector)) then refuse s .badTable
  else if s.billing.openSlot.isNone ∧ s.billing.reservation = none then okWith s.swap [1]
  else okWith ((s.onBilling fun b => { b with commitPending := true }).raise .tariff) [0]

/-- R147: the reply carries whether a commit was withdrawn. -/
def ownTariffCancel (s : State) : Served := okWith s.withdrawCommit [flag s.billing.commitPending]

/-- R162, R197. -/
def ownReadRecord (s : State) (number part half : Nat) : Served :=
  if 3 < part ∨ 1 < half then refuse s .badValue
  else
    match s.billing.findNumber number with
    | none => refuse s .notFound
    | some i => okWith s (recordBytes (s.billing.slot i) part half)

/-- R163. -/
def ownReleaseRecord (s : State) (number : Nat) : Served :=
  match s.billing.findNumber number with
  | none => refuse s .notFound
  | some i =>
    match (s.billing.slot i).st with
    | .closed => okWith ((s.onSlot i fun x => { x with st := .collected }).queueSlot i false) []
    | .collected => okWith s []
    | .opened => refuse s .state
    | .free => refuse s .notFound

/-- R163. -/
def ownLogStatus (s : State) : Served := okWith s (logBytes s.billing)

/-- The clock alone runs on in a part in no power state (R142, log 15). -/
def tickClock (s : State) : State := s.onBilling fun b => { b with clock := b.clock.tick s.now }

/-- R142, R149: a second; a roll into a new minute may be a band boundary. -/
def secondEvent (s : State) : State :=
  match s.power.part with
  | .off => s
  | .heldInReset => s.tickClock
  | .startUp => s.tickClock
  | .run => let t := s.tickClock; t.doIf (t.billing.clock.second == 0) bandBoundary
  | .standby => let t := s.tickClock; t.doIf (t.billing.clock.second == 0) bandBoundary
  | .sleep => let t := s.tickClock; t.doIf (t.billing.clock.second == 0) bandBoundary
  | .supplyHold => let t := s.tickClock; t.doIf (t.billing.clock.second == 0) bandBoundary

/-- R158: the checkpoint period expires, if it runs. -/
def checkpointEvent (s : State) : State := s.doIf s.billing.checkpoint.isSome checkpoint

/-- R161: the slots marked behind, in slot index order. -/
def slotsBehind (s : State) : List Nat := (List.range 24).filter fun i => s.billing.behind.getD i false

/-- R161, R168: the rewrite period expires in RUN, STANDBY or SLEEP: every slot behind is queued again. -/
def rewriteEvent (s : State) : State :=
  s.doIf ((s.inRun || s.lowPower) && s.billing.rewrite.isSome) fun s =>
    s.slotsBehind.foldl (fun s i => s.queueSlot i false)
      (s.onBilling fun b => { b with rewrite := if s.slotsBehind.isEmpty then none else some s.now })

end State

/-- SET_CLOCK (R143). -/
def execSetClock (tag : Byte) (day minute second : Nat) (s : State) : Result :=
  .next (s.request 0x70 tag fun s => s.ownSetClock day minute second)

/-- TARIFF_WRITE (R145). -/
def execTariffWrite (tag : Byte) (page : Nat) (bands : List BandEntry) (s : State) : Result :=
  .next (s.request 0x71 tag fun s => s.ownTariffWrite page bands)

/-- TARIFF_READ (R145). -/
def execTariffRead (tag : Byte) (page : Nat) (s : State) : Result :=
  .next (s.request 0x72 tag fun s => s.ownTariffRead page)

/-- TARIFF_COMMIT (R146, R148). -/
def execTariffCommit (tag : Byte) (s : State) : Result := .next (s.request 0x73 tag State.ownTariffCommit)

/-- TARIFF_CANCEL (R147). -/
def execTariffCancel (tag : Byte) (s : State) : Result := .next (s.request 0x74 tag State.ownTariffCancel)

/-- READ_RECORD (R162, R197). -/
def execReadRecord (tag : Byte) (number part half : Nat) (s : State) : Result :=
  .next (s.request 0x75 tag fun s => s.ownReadRecord number part half)

/-- RELEASE_RECORD (R163). -/
def execReleaseRecord (tag : Byte) (number : Nat) (s : State) : Result :=
  .next (s.request 0x76 tag fun s => s.ownReleaseRecord number)

/-- LOG_STATUS (R163). -/
def execLogStatus (tag : Byte) (s : State) : Result := .next (s.request 0x77 tag State.ownLogStatus)

/-- CLOCK_SECOND (R142, R149). -/
def execClockSecond (s : State) : Result := .next s.secondEvent

/-- CHECKPOINT_PERIOD_EXPIRY (R158). -/
def execCheckpointPeriodExpiry (s : State) : Result := .next (s.whenRun State.checkpointEvent)

/-- REWRITE_PERIOD_EXPIRY (R161). -/
def execRewritePeriodExpiry (s : State) : Result := .next s.rewriteEvent

end Sys2Proof.Machine
end

