-- ==== Sys2Proof/Machine/HostLink.lean ====
section
/-! DEFINITION. The meanings of the host link port's commands (chapter 9): reception, the serving of the request at the
head of the queue by its owner, and transmission. -/

namespace Sys2Proof.Machine

namespace State

/-- R186 step 4: the owner of each catalogued request; what is no request is refused as an unknown kind. -/
def owner (i : Instr) (s : State) : Served :=
  match i with
  | .identify _ => s.ownIdentify
  | .partStatus _ => s.ownPartStatus
  | .reset _ => s.ownReset
  | .setPowerState _ t => s.ownSetPowerState t
  | .saveSettings _ => s.ownSaveSettings
  | .readLinkErrors _ => s.ownReadLinkErrors
  | .authorise _ m p u r => s.ownAuthorise m p u r
  | .deny _ => s.ownDeny
  | .pause _ => s.ownPause
  | .resume _ => s.ownResume
  | .stop _ => s.ownStop
  | .restart _ => s.ownRestart
  | .clearFault _ => s.ownClearFault
  | .dcStation _ v i p f => s.ownDcStation v i p f
  | .dcConnect _ => s.ownDcConnect
  | .sessionStatus _ => s.ownSessionStatus
  | .setPackLimits _ v i h => s.ownSetPackLimits v i h
  | .setDerateTable _ pts => s.ownSetDerateTable pts
  | .setBudgetParams _ a b c => s.ownSetBudgetParams a b c
  | .budgetStatus _ p => s.ownBudgetStatus p
  | .setZone _ z e t h => s.ownSetZone z e t h
  | .setHeatPolicy _ a b c => s.ownSetHeatPolicy a b c
  | .setDeparture _ a b c => s.ownSetDeparture a b c
  | .heatStatus _ p => s.ownHeatStatus p
  | .setIsoParams _ a b c d e f => s.ownSetIsoParams a b c d e f
  | .setSearchList _ l => s.ownSetSearchList l
  | .isoStatus _ p => s.ownIsoStatus p
  | .clearIsolation _ t => s.ownClearIsolation t
  | .startSearch _ => s.ownStartSearch
  | .setRoster _ l => s.ownSetRoster l
  | .rollCall _ => s.ownRollCall
  | .rosterStatus _ p => s.ownRosterStatus p
  | .readStageErrors _ => s.ownReadStageErrors
  | .meterStatus _ p => s.ownMeterStatus p
  | .readTotals _ => s.ownReadTotals
  | .setClock _ d m x => s.ownSetClock d m x
  | .tariffWrite _ p b => s.ownTariffWrite p b
  | .tariffRead _ p => s.ownTariffRead p
  | .tariffCommit _ => s.ownTariffCommit
  | .tariffCancel _ => s.ownTariffCancel
  | .readRecord _ n p h => s.ownReadRecord n p h
  | .releaseRecord _ n => s.ownReleaseRecord n
  | .logStatus _ => s.ownLogStatus
  | _ => refuse s .unknownKind

/-- R186: a request taken is served: an unknown KIND, a LEN not allowed, or its owner's answer. -/
def serveFrame (s : State) (r : Request) : State :=
  match parseRequest r.kind r.tag r.payload with
  | .unknown => s.serveUnknown r.kind r.tag
  | .badLength => s.serveBadLength r.kind r.tag
  | .request i => s.request r.kind r.tag (owner i)

/-- R186: the request at the head of the queue is served and leaves it in the same step. -/
def serveHead (s : State) : State :=
  if s.canServe then
    match s.link.requests with
    | [] => s
    | r :: rest => (s.onLink fun l => { l with requests := rest }).serveFrame r
  else s

end State

/-- UNKNOWN_KIND (R186, R191). -/
def execUnknownKind (tag kind : Byte) (s : State) : Result := .next (s.serveUnknown kind tag)

/-- HOST_FRAME_RECEIVED (R182, R183, R185). -/
def execHostFrameReceived (bytes : List Byte) (s : State) : Result := .next (s.feedBytes bytes)

/-- RECEIVE_ERROR (R182, R184): a LEN byte above 60, or a byte without its stop bit. DESIGN CHOICE (log 7): a LEN above 60
reported after a LEN has been taken drops the frame and sets RX_LENGTH as at the LEN byte. -/
def execReceiveError (err : LineError) (s : State) : Result :=
  .next (match err with
    | .lenAbove60 => s.frameError State.errRxLength
    | .missingStopBit => s.frameError State.errRxCheck)

/-- RX_TIMEOUT (R182, R184). -/
def execRxTimeout (s : State) : Result := .next (s.frameError State.errRxTimeout)

/-- SERVE_REQUEST (R186). -/
def execServeRequest (s : State) : Result := .next s.serveHead

/-- FRAME_TRANSMIT (R189, R190). -/
def execFrameTransmit (s : State) : Result := .next s.transmit

/-- FRAME_SENT (R189, R192). -/
def execFrameSent (s : State) : Result := .next s.sent

end Sys2Proof.Machine
end

