-- ==== Sys2Proof/Machine/Dispatch.lean ====
section
/-! DEFINITION. The dispatch: one arm per command, each one direct call of its meaning. -/

namespace Sys2Proof.Machine

/-- The effect of a command on everything but the queue of waiting commands. -/
def exec (i : Instr) (s : State) : Host.Outcome State Fault Refusal :=
  match i with
  | .identify tag => Sys2Proof.Machine.execIdentify tag s
  | .partStatus tag => Sys2Proof.Machine.execPartStatus tag s
  | .reset tag => Sys2Proof.Machine.execReset tag s
  | .setPowerState tag target => Sys2Proof.Machine.execSetPowerState tag target s
  | .saveSettings tag => Sys2Proof.Machine.execSaveSettings tag s
  | .readLinkErrors tag => Sys2Proof.Machine.execReadLinkErrors tag s
  | .unknownKind tag kind => Sys2Proof.Machine.execUnknownKind tag kind s
  | .authorise tag mode phases unlock ref => Sys2Proof.Machine.execAuthorise tag mode phases unlock ref s
  | .deny tag => Sys2Proof.Machine.execDeny tag s
  | .pause tag => Sys2Proof.Machine.execPause tag s
  | .resume tag => Sys2Proof.Machine.execResume tag s
  | .stop tag => Sys2Proof.Machine.execStop tag s
  | .restart tag => Sys2Proof.Machine.execRestart tag s
  | .clearFault tag => Sys2Proof.Machine.execClearFault tag s
  | .dcStation tag maxV maxI maxP flags => Sys2Proof.Machine.execDcStation tag maxV maxI maxP flags s
  | .dcConnect tag => Sys2Proof.Machine.execDcConnect tag s
  | .sessionStatus tag => Sys2Proof.Machine.execSessionStatus tag s
  | .setPackLimits tag packV maxI heat => Sys2Proof.Machine.execSetPackLimits tag packV maxI heat s
  | .setDerateTable tag points => Sys2Proof.Machine.execSetDerateTable tag points s
  | .setBudgetParams tag cap aux share => Sys2Proof.Machine.execSetBudgetParams tag cap aux share s
  | .budgetStatus tag page => Sys2Proof.Machine.execBudgetStatus tag page s
  | .setZone tag zone enabled target hyst => Sys2Proof.Machine.execSetZone tag zone enabled target hyst s
  | .setHeatPolicy tag gridMode gating packHeat => Sys2Proof.Machine.execSetHeatPolicy tag gridMode gating packHeat s
  | .setDeparture tag count mode lead => Sys2Proof.Machine.execSetDeparture tag count mode lead s
  | .heatStatus tag page => Sys2Proof.Machine.execHeatStatus tag page s
  | .setIsoParams tag enabled profMode fixed warn fault critical => Sys2Proof.Machine.execSetIsoParams tag enabled profMode fixed warn fault critical s
  | .setSearchList tag addrs => Sys2Proof.Machine.execSetSearchList tag addrs s
  | .isoStatus tag page => Sys2Proof.Machine.execIsoStatus tag page s
  | .clearIsolation tag target => Sys2Proof.Machine.execClearIsolation tag target s
  | .startSearch tag => Sys2Proof.Machine.execStartSearch tag s
  | .setRoster tag kinds => Sys2Proof.Machine.execSetRoster tag kinds s
  | .rollCall tag => Sys2Proof.Machine.execRollCall tag s
  | .rosterStatus tag page => Sys2Proof.Machine.execRosterStatus tag page s
  | .readStageErrors tag => Sys2Proof.Machine.execReadStageErrors tag s
  | .meterStatus tag page => Sys2Proof.Machine.execMeterStatus tag page s
  | .readTotals tag => Sys2Proof.Machine.execReadTotals tag s
  | .setClock tag day minute second => Sys2Proof.Machine.execSetClock tag day minute second s
  | .tariffWrite tag page bands => Sys2Proof.Machine.execTariffWrite tag page bands s
  | .tariffRead tag page => Sys2Proof.Machine.execTariffRead tag page s
  | .tariffCommit tag => Sys2Proof.Machine.execTariffCommit tag s
  | .tariffCancel tag => Sys2Proof.Machine.execTariffCancel tag s
  | .readRecord tag number part half => Sys2Proof.Machine.execReadRecord tag number part half s
  | .releaseRecord tag number => Sys2Proof.Machine.execReleaseRecord tag number s
  | .logStatus tag => Sys2Proof.Machine.execLogStatus tag s
  | .hostFrameReceived bytes => Sys2Proof.Machine.execHostFrameReceived bytes s
  | .receiveError err => Sys2Proof.Machine.execReceiveError err s
  | .rxTimeout => Sys2Proof.Machine.execRxTimeout s
  | .serveRequest => Sys2Proof.Machine.execServeRequest s
  | .frameTransmit => Sys2Proof.Machine.execFrameTransmit s
  | .frameSent => Sys2Proof.Machine.execFrameSent s
  | .wakeLine asserted => Sys2Proof.Machine.execWakeLine asserted s
  | .proximityClassChange ohms => Sys2Proof.Machine.execProximityClassChange ohms s
  | .pilotClassChange sig => Sys2Proof.Machine.execPilotClassChange sig s
  | .pilotDutyChange highTime periodTime => Sys2Proof.Machine.execPilotDutyChange highTime periodTime s
  | .inletTemperatureChange t1 t2 => Sys2Proof.Machine.execInletTemperatureChange t1 t2 s
  | .lockEngaged => Sys2Proof.Machine.execLockEngaged s
  | .lockReleased => Sys2Proof.Machine.execLockReleased s
  | .lockTravelTimeout => Sys2Proof.Machine.execLockTravelTimeout s
  | .energisingWaitExpiry => Sys2Proof.Machine.execEnergisingWaitExpiry s
  | .contactorClosed k => Sys2Proof.Machine.execContactorClosed k s
  | .contactorOpened k => Sys2Proof.Machine.execContactorOpened k s
  | .closingFeedbackTimeout => Sys2Proof.Machine.execClosingFeedbackTimeout s
  | .openingFeedbackTimeout => Sys2Proof.Machine.execOpeningFeedbackTimeout s
  | .stopRampWaitExpiry => Sys2Proof.Machine.execStopRampWaitExpiry s
  | .dcStationStale => Sys2Proof.Machine.execDcStationStale s
  | .budgetPeriodExpiry => Sys2Proof.Machine.execBudgetPeriodExpiry s
  | .budgetPostingArrival w => Sys2Proof.Machine.execBudgetPostingArrival w s
  | .packLimitsStale => Sys2Proof.Machine.execPackLimitsStale s
  | .heatPeriodExpiry => Sys2Proof.Machine.execHeatPeriodExpiry s
  | .heatGrantTaken => Sys2Proof.Machine.execHeatGrantTaken s
  | .heaterReplyAgeExpiry zone => Sys2Proof.Machine.execHeaterReplyAgeExpiry zone s
  | .onTimeTick => Sys2Proof.Machine.execOnTimeTick s
  | .departureMinute => Sys2Proof.Machine.execDepartureMinute s
  | .packVoltagePosting => Sys2Proof.Machine.execPackVoltagePosting s
  | .injectionPeriodEnd pos3q posEnd neg3q negEnd => Sys2Proof.Machine.execInjectionPeriodEnd pos3q posEnd neg3q negEnd s
  | .listenWindowExpiry low high => Sys2Proof.Machine.execListenWindowExpiry low high s
  | .isolateConfirmTimeout => Sys2Proof.Machine.execIsolateConfirmTimeout s
  | .resultDeadlineExpiry => Sys2Proof.Machine.execResultDeadlineExpiry s
  | .reconnectWaitTimeout => Sys2Proof.Machine.execReconnectWaitTimeout s
  | .transactionBegin => Sys2Proof.Machine.execTransactionBegin s
  | .statusSlotReceived status => Sys2Proof.Machine.execStatusSlotReceived status s
  | .responseFrameReceived bytes => Sys2Proof.Machine.execResponseFrameReceived bytes s
  | .slotWaitTimeout => Sys2Proof.Machine.execSlotWaitTimeout s
  | .retryWaitExpiry => Sys2Proof.Machine.execRetryWaitExpiry s
  | .pollTimeExpiry addr => Sys2Proof.Machine.execPollTimeExpiry addr s
  | .refreshTimeExpiry addr => Sys2Proof.Machine.execRefreshTimeExpiry addr s
  | .recallPeriodExpiry => Sys2Proof.Machine.execRecallPeriodExpiry s
  | .safeStop => Sys2Proof.Machine.execSafeStop s
  | .safeStopRepeat => Sys2Proof.Machine.execSafeStopRepeat s
  | .meterSample fe => Sys2Proof.Machine.execMeterSample fe s
  | .clockSecond => Sys2Proof.Machine.execClockSecond s
  | .checkpointPeriodExpiry => Sys2Proof.Machine.execCheckpointPeriodExpiry s
  | .rewritePeriodExpiry => Sys2Proof.Machine.execRewritePeriodExpiry s
  | .supplyWarn => Sys2Proof.Machine.execSupplyWarn s
  | .supplyWarnRelease => Sys2Proof.Machine.execSupplyWarnRelease s
  | .warningClearDwellExpiry => Sys2Proof.Machine.execWarningClearDwellExpiry s
  | .resetLineAssert => Sys2Proof.Machine.execResetLineAssert s
  | .startUp complete => Sys2Proof.Machine.execStartUp complete s
  | .hostResetGo => Sys2Proof.Machine.execHostResetGo s
  | .nvWriteBegin => Sys2Proof.Machine.execNvWriteBegin s
  | .nvWriteComplete verified => Sys2Proof.Machine.execNvWriteComplete verified s
  | .supplyFailure => Sys2Proof.Machine.execSupplyFailure s

end Sys2Proof.Machine
end

