-- ==== Sys2Proof/Safety.lean ====
section
/-! DEFINITION. What counts as a sound state of the part: the laws of the device that the manual states of its queues,
its node table, its residues and its record; and the terms the statements use for what a command leaves alone, what
it does to the host link, and when a request reaches its owner. -/

namespace Sys2Proof.Safety

open Machine

/-! ### Laws -/

/-- The host link's bounds: 4 requests, 8 replies, at most one notice of each kind (R185, R190). -/
def linkLaw (s : State) : Prop :=
  s.link.requests.length ≤ 4 ∧ s.link.replies.length ≤ 8 ∧ s.link.notices.Nodup

/-- The stage link's queues: no entry stands twice in the normal queue, and the urgent queue holds at most one entry
for a node (R116, R117). -/
def queueLaw (s : State) : Prop :=
  s.stage.normal.Nodup ∧ (s.stage.urgent.map StageEntry.addr).Nodup

/-- The law of isolation in its stage part: a node whose isolated flag is set has commanded setpoint 0 (R122). -/
def isolationLaw (s : State) : Prop := ∀ n ∈ s.stage.nodes, n.isolated = true → n.commanded = 0

/-- The residues stay within their ranges (R132, R133). -/
def residueLaw (s : State) : Prop :=
  s.meter.resGrid ≤ 35 ∧ s.meter.resHeatGrid ≤ 35 ∧ s.meter.resHeatPack ≤ 35 ∧ s.meter.resPackNet.natAbs ≤ 35

/-- The law of heating power: the ratings of the HEATING zones sum to no more than the limit in force (R62). -/
def heatLaw (s : State) : Prop := heatSum s.heating.zones ≤ s.heating.limit

/-- The law of ranks: the configured zones' ranks are a permutation of 0 to one less than their number, and no other
zone holds a rank (R53, R65). -/
def rankLaw (s : State) : Prop :=
  ((s.heating.zones.filter Zone.configured).map fun z => z.rank).Perm
      ((List.range (s.heating.zones.filter Zone.configured).length).map some) ∧
    ∀ z ∈ s.heating.zones, z.configured = false → z.rank = none

/-- The law of heat states: every zone has the heat state and the deficit that its row gives it (R55, R56). -/
def zoneLaw (s : State) : Prop := ∀ z ∈ s.heating.zones, z.refresh = z

/-- The costs of a record's segments and of the record agree (R153). -/
def costLaw (r : Record) : Prop :=
  (∀ x ∈ r.segments, x.chargeCost = x.chargeWh * x.price ∧ x.heatCost = x.heatWh * x.price) ∧
    r.chargeCost = (r.segments.map Segment.chargeCost).sum ∧ r.heatCost = (r.segments.map Segment.heatCost).sum

/-! ### Frames -/

/-- The pieces of the state a frame names: the blocks and the postings on their way between them. -/
inductive Piece where
  | session | pins | budget | heating | iso | stage | meter | billing | nv | link | power
  | budgetIn | heatIn | isoIn | freeCount
  deriving DecidableEq, Repr

/-- Every piece not named, the time base and the queue of waiting commands are as before. -/
def onlyChanges (ps : List Piece) (s t : State) : Prop :=
  t.now = s.now ∧ t.pending = s.pending ∧
  (Piece.session ∉ ps → t.session = s.session) ∧ (Piece.pins ∉ ps → t.pins = s.pins) ∧
  (Piece.budget ∉ ps → t.budget = s.budget) ∧ (Piece.heating ∉ ps → t.heating = s.heating) ∧
  (Piece.iso ∉ ps → t.iso = s.iso) ∧ (Piece.stage ∉ ps → t.stage = s.stage) ∧
  (Piece.meter ∉ ps → t.meter = s.meter) ∧ (Piece.billing ∉ ps → t.billing = s.billing) ∧
  (Piece.nv ∉ ps → t.nv = s.nv) ∧ (Piece.link ∉ ps → t.link = s.link) ∧ (Piece.power ∉ ps → t.power = s.power) ∧
  (Piece.budgetIn ∉ ps → t.budgetIn = s.budgetIn) ∧ (Piece.heatIn ∉ ps → t.heatIn = s.heatIn) ∧
  (Piece.isoIn ∉ ps → t.isoIn = s.isoIn) ∧ (Piece.freeCount ∉ ps → t.freeCount = s.freeCount)

/-! ### The host link -/

/-- The notice queue after raises of the kinds, in order: each is added at the tail or absorbed (R190). -/
def withNotices (ks l : List NoticeKind) : List NoticeKind :=
  ks.foldl (fun l k => if k ∈ l then l else l ++ [k]) l

/-- Of the host link only the notice queue moves, by raises of the kinds. -/
def notices (ks : List NoticeKind) (s t : State) : Prop :=
  t.link = { s.link with notices := withNotices ks s.link.notices }

/-- The state with notices of the kinds raised and no other change. -/
def noticed (ks : List NoticeKind) (s : State) : State :=
  { s with link := { s.link with notices := withNotices ks s.link.notices } }

/-- Of the host link, only these move: the reply with a status, a body and the request's TAG goes to the tail of the
reply queue (R186, R187), and notices of the kinds are raised. -/
def answers (code tag : Byte) (st : Status) (body : List Byte) (ks : List NoticeKind) (s t : State) : Prop :=
  t.link =
    { s.link with
      notices := withNotices ks s.link.notices
      replies := s.link.replies ++ [⟨code + 0x80, tag, byte st.code :: body, .plain⟩] }

/-- A request reaches its owner: the part is in RUN, the reply queue has room and no host reset is pending (R186). -/
def mayServe (s : State) : Prop :=
  s.power.part = .run ∧ s.power.hostReset = false ∧ s.link.replies.length < 8

/-- The port serves: after a completed start-up, in RUN (which nothing else leads to) or in SUPPLY_HOLD, with room for a
reply (R186, log 17). -/
def serves (s : State) : Prop :=
  (s.power.part = .run ∨ (s.power.part = .supplyHold ∧ s.power.started = true)) ∧ s.link.replies.length < 8

/-- The state with one more reply and no other change. -/
def replied (s : State) (code tag : Byte) (payload : List Byte) : State :=
  { s with link := { s.link with replies := s.link.replies ++ [⟨code + 0x80, tag, payload, .plain⟩] } }

/-- A request is answered with a status alone and changes nothing else (R187). -/
def refusedWith (c : Instr) (code tag : Byte) (st : Status) (s : State) : Prop :=
  exec c s = .next (replied s code tag [byte st.code])

/-- A status request is answered OK with the bytes and changes nothing else (R187). -/
def readsOut (c : Instr) (code tag : Byte) (body : List Byte) (s : State) : Prop :=
  exec c s = .next (replied s code tag (byte Status.ok.code :: body))

/-- The fields of AUTHORISE within their sets (R8). -/
def authoriseLegal (mode phases unlock : Nat) (ref : List Byte) : Prop :=
  mode ≤ 1 ∧ (phases = 1 ∨ phases = 3) ∧ unlock ≤ 1 ∧ ref.length ≤ 16

/-- The inlet bars AUTHORISE and RESTART: the pilot is ERROR or the inlet is above 95.0 °C (R3, R5). -/
def inletBars (s : State) : Prop :=
  s.session.pilot = .error ∨ ∃ t, inletTemp s.session.temp1 s.session.temp2 = some t ∧ 190 < t

/-- The insulation grade bars AUTHORISE (R8). -/
def gradeBars (s : State) : Prop := s.iso.assess = .fault ∨ s.iso.assess = .critical

/-- Every contactor feedback reports open. -/
def contactsOpen (s : State) : Prop := s.pins.kacFb = false ∧ s.pins.kdcpFb = false ∧ s.pins.kdcnFb = false

/-- What every move to a session state brings beside the session's own fields: the state is posted to the budget and
the heating controller, and a SESSION notice is raised (R14, R28, R61). `posts` come before the state's own posting. -/
def entered (st : SessState) (posts : List BudgetPosting) (s t : State) : Prop :=
  t.session.st = st ∧ t.heating = { s.heating with sess := st } ∧
    t.budgetIn = s.budgetIn ++ posts ++ [.session st t.session.mode]

/-! ### The close of a record -/

/-- The record in a slot after a pricing point of the meter's deltas at the cursor's band (R150). -/
def priced (s : State) (i : Nat) : Record :=
  (s.billing.slot i).record.pricePoint s.billing.cursor (s.billing.tariff.bandOf s.billing.cursor).price
    s.meter.channel.gridDelta s.meter.channel.heatDelta

/-- A write of the content waits in the NV store's queue (R178). -/
def waits (t : State) (c : NvContent) : Prop := ∃ w ∈ t.nv.queue, w.content = c

/-- The meter after its marks have moved to the accumulators and its totals were queued (R136, R137). -/
def marksMoved (m : Meter) : Meter :=
  { m with
    channel := { m.channel with gridMark := m.channel.grid, heatMark := m.channel.heatGrid }
    lastWrite := if m.lastWrite = .failed then .failed else .pending }

/-- The image of the open record's slot at its close with a stop cause: the last pricing point taken, the remainders settled,
the meter's figures and flags and the end time copied, the checkpoint part cleared (R159 steps 1, 3 and 4). -/
def closedImage (s : State) (i : Nat) (cause : StopCause) : Slot :=
  let r := (priced s i).settle
  let d := s.meter.channel
  { st := .closed
    record :=
      { r with
        grid := d.grid, heatGrid := d.heatGrid, heatPack := d.heatPack, packNet := d.packNet
        flags := { r.flags with posSat := d.posSat, negSat := d.negSat }
        unpricedGrid := 0, unpricedHeat := 0, cpRemC := 0, cpRemH := 0
        endTime := s.billing.clock.time?, endCause := some (.stop cause) } }

/-- The image of a slot loaded OPEN after its recovery: the unpriced amounts of its checkpoint part, with the remainders kept
there, priced at its last segment and settled, and the record closed with UNEXPECTED_RESET and FROM_CHECKPOINT (R165). -/
def recoveredImage (r : Record) (endTime : Option Time) : Slot :=
  let l := r.segments.getLast?.getD {}
  let x :=
    ({ r with remC := r.cpRemC, remH := r.cpRemH }.pricePoint ⟨l.page, l.band⟩ l.price r.unpricedGrid r.unpricedHeat).settle
  { st := .closed
    record :=
      { x with
        unpricedGrid := 0, unpricedHeat := 0, cpRemC := 0, cpRemH := 0, endTime := endTime
        endCause := some .unexpectedReset, flags := { x.flags with fromCheckpoint := true } } }

/-- The billing after the close of the record in slot `i`, but for a commit that is pending (R159 steps 5 and 6). -/
def closedBilling (s : State) (i : Nat) (cause : StopCause) : Billing :=
  { s.billing with
    slots := s.billing.slots.set i (closedImage s i cause)
    checkpoint := none, lastClosed := some (s.billing.slot i).record.number }

/-- The open record, if there is one, has been closed with a stop cause: its slot holds the closed image and waits for writing
with the lifetime totals, the meter's channel is closed with its marks moved, a pending commit has been taken after the
last pricing point, and a RECORD notice stands (R136, R159). That the meter's POS_SAT and NEG_SAT stay as they are is log 21's. -/
def recordClosed (cause : StopCause) (s t : State) : Prop :=
  ∀ i, s.billing.openSlot = some i →
    let b := closedBilling s i cause
    let swapped : TariffArea := { b.tariff with selector := !b.tariff.selector }
    (s.billing.commitPending = false → t.billing = b) ∧
    (s.billing.commitPending = true →
      t.billing =
        { b with tariff := swapped, commitPending := false, cursor := { b with tariff := swapped }.located } ∧
      waits t (.tariff swapped)) ∧
    t.meter = { marksMoved s.meter with channel := { (marksMoved s.meter).channel with isOpen := false } } ∧
    waits t (.slot i (closedImage s i cause)) ∧ waits t (.totals s.meter.totals) ∧ NoticeKind.record ∈ t.link.notices

/-- What a stop that has come to its end in a step leaves, from the state `s` that the event found, with its cause and the
fault kind that stands: every contactor is open, the load and the drives released, the record closed with the cause, the
monitor told in DC, the phases and a station record posted gone, and the session goes where R23 says (R12, R21 to R23,
R159). That a pilot ABSENT that stands without being the cause does not move a locked FINISHED is the model's choice (log 10). -/
def stopDone (cause : Option StopCause) (fault : Option FaultKind) (s t : State) : Prop :=
  let keeps := s.power.hostReset = true ∨
    (s.session.unlockOnStop = false ∧ cause ≠ some .cableLost ∧ s.session.plugLossSeen = false)
  (fault = none → keeps → t.session.st = .finished ∧ t.session.lock = s.session.lock) ∧
  (fault = none → ¬ keeps → s.pins.lockFb = true →
    t.session.st = .unlocking ∧ t.session.lock = .unlockTravel ∧ t.pins.lockDrive = .towardReleased) ∧
  (fault = none → ¬ keeps → s.pins.lockFb = false →
    t.session.st = (if s.session.prox.present then .finished else .idle) ∧ t.session.lock = .notEngaged) ∧
  (∀ f, fault = some f → t.session.st = .faulted ∧ t.session.fault = some f) ∧
  t.session.acK = .opened ∧ t.session.dcK = .opened ∧ t.session.openTimer = none ∧ t.session.rampTimer = none ∧
  t.session.station = none ∧ BudgetPosting.phases 0 ∈ t.budgetIn ∧
  (s.session.station ≠ none → BudgetPosting.stationAbsent ∈ t.budgetIn) ∧
  t.session.stopCause = cause ∧ t.pins.cpLoad = false ∧ t.pins.kacDrive = false ∧
  t.pins.kdcpDrive = false ∧ t.pins.kdcnDrive = false ∧
  t.iso = (if s.session.mode = some .dc then s.iso.dcOpened s.now else s.iso) ∧
  recordClosed (cause.getD .hostStop) s t ∧
  onlyChanges [.session, .pins, .heating, .iso, .meter, .billing, .nv, .link, .budgetIn] s t

/-- An evaluation was made on the record, parameters and table that `t` holds: the last evaluation record is replaced
whole, and its outputs stand at the three consumers (R41, R15). -/
def evaluated (s t : State) : Prop :=
  let e := evaluate t.budget.input t.budget.params t.budget.table
  t.budget.last = e ∧ t.heatIn = s.heatIn ++ [⟨e.grantPosted, e.heatAllowance⟩] ∧
    (∀ a, 1 ≤ a → a ≤ 3 → a ≤ s.stage.nodes.length →
      (t.node a).commanded = if (s.node a).isolated then 0 else e.posted a) ∧
    (s.session.st ≠ .active → s.session.st ≠ .paused → t.session = { s.session with dcRequest := 0 }) ∧
    (s.session.st = .active ∨ s.session.st = .paused →
      t.session.dcRequest = e.dcRequestPosted ∧
        t.session.causes =
          { s.session.causes with noOffer := e.noOffer, nothingToDo := e.noDraw, noStages := e.noStages } ∧
        (t.session.causes = s.session.causes → t.session.st = s.session.st) ∧
        (t.session.causes ≠ s.session.causes →
          t.session.st = if t.session.causes = {} then .active else .paused)) ∧
    onlyChanges [.budget, .session, .pins, .heating, .stage, .iso, .link, .budgetIn, .heatIn] s t

/-! ### Heating -/

/-- The watts the ratings of the numbered zones sum to. -/
def watts (s : State) (l : List Nat) : Nat := (l.map fun n => (s.zone n).rating.getD 0).sum

/-- Zone `n` needs heat more than zone `m`: its deficit is larger or, of two that are equal, its rank is higher (R65, R67). -/
def needsMore (s : State) (n m : Nat) : Prop :=
  (s.zone m).deficit < (s.zone n).deficit ∨
    ((s.zone m).deficit = (s.zone n).deficit ∧ (s.zone m).rank.getD 0 < (s.zone n).rank.getD 0)

/-- Of the zones `on`, in HEATING, those in `kept` stay when the rest are shed one at a time to the limit: what stays fits,
every zone shed needs heat less than every zone that stays, and without the last one shed the sum was above the limit
(R67). -/
def shedTo (s : State) (limit : Nat) (on kept : List Nat) : Prop :=
  watts s kept ≤ limit ∧ (∀ k ∈ on, k ∉ kept → ∀ n ∈ kept, needsMore s n k) ∧
    (kept ≠ on → ∃ m ∈ on, m ∉ kept ∧ limit < watts s kept + (s.zone m).rating.getD 0 ∧
      ∀ k ∈ on, k ∉ kept → k ≠ m → needsMore s m k)

/-- The zones in HEATING (1 to 8). -/
def heatingZones (s : State) : List Nat :=
  [1, 2, 3, 4, 5, 6, 7, 8].filter fun n => decide ((s.zone n).heat = .heating)

/-- What the arbitration of a heat period did, from the state `s` before the period to `t` after it, with the zones `won` in the
order in which they won: each needs heat more than those after it and than every WAITING zone that would have fitted in
its place; at the end no WAITING zone fits what is left; and the ranks have rotated, a winner's to 0 (R65). -/
def arbitrated (s t : State) (won : List Nat) : Prop :=
  won.Nodup ∧ (∀ n ∈ won, n ∈ heatingZones t) ∧
  (∀ m, 1 ≤ m → m ≤ 8 → (t.zone m).heat = .waiting →
    t.heating.limit < heatSum t.heating.zones + (s.zone m).rating.getD 0) ∧
  (∀ pre n post, won = pre ++ n :: post →
    (t.zone n).rank = some post.length ∧ (∀ m ∈ post, needsMore s n m) ∧
    ∀ m, 1 ≤ m → m ≤ 8 → (t.zone m).heat = .waiting →
      (s.zone m).rating.getD 0 ≤ (s.zone n).rating.getD 0 → needsMore s n m) ∧
  ∀ m, 1 ≤ m → m ≤ 8 → m ∉ won →
    (t.zone m).rank = (s.zone m).rank.map fun r =>
      r + won.countP fun n => decide (r < (s.zone n).rank.getD 0)

/-! ### Billing -/

/-- A record as a checkpoint leaves it: the meter's snapshot in its energies, flags and checkpoint part (R158). -/
def checkpointed (d : Channel) (unpricedGrid unpricedHeat : Nat) (r : Record) : Record :=
  { r with
    grid := d.grid, heatGrid := d.heatGrid, heatPack := d.heatPack, packNet := d.packNet
    flags := { r.flags with posSat := d.posSat, negSat := d.negSat }
    unpricedGrid := unpricedGrid, unpricedHeat := unpricedHeat, cpRemC := r.remC, cpRemH := r.remH }

/-- A checkpoint of the open record in slot `i` was taken: its image and the lifetime totals wait for writing (R158). -/
def checkpointTaken (s t : State) (i : Nat) : Prop :=
  t.billing.checkpoint = some s.now ∧ waits t (.slot i (t.billing.slot i)) ∧ waits t (.totals s.meter.totals)

/-! ### Power states and resets -/

/-- Every block was handed the return to RUN by a wake source (R170). -/
def returned (src : WakeSource) (s t : State) : Prop :=
  t.power = { s.power with part := .run, lastWake := src, heldWake := none } ∧
  t.link.on = true ∧ NoticeKind.part ∈ t.link.notices ∧ (∀ x ∈ t.link.replies, x.mark ≠ .sleepAck) ∧
  t.stage.supplyOn = true ∧ t.stage.errors = {} ∧ t.stage.recallTimer = some s.now ∧
  (∀ a ∈ addresses, (s.node a).expected ≠ .none → (⟨.rollCall, a⟩ : StageEntry) ∈ t.stage.normal) ∧
  t.meter.period = some s.now ∧ t.heating.heatPeriod = some s.now ∧ t.heating.onTick = some s.now ∧
  t.budget.period = some s.now ∧ t.budget.last = evaluate s.budget.input s.budget.params s.budget.table

/-- Every block has taken the entry to STANDBY or SLEEP, and the stage link controller has ended its work (R168, R127). -/
def rested (target : PartState) (s t : State) : Prop :=
  t.power.part = target ∧
  t.heating.source = .none ∧ t.heating.heatPeriod = none ∧ t.heating.onTick = none ∧
  t.meter.live = {} ∧ t.meter.period = none ∧ t.meter.posted1 = 0 ∧ t.meter.posted2 = 0 ∧ t.meter.posted3 = 0 ∧
  t.meter.postedPack = none ∧ t.meter.totals = s.meter.totals ∧ waits t (.totals s.meter.totals) ∧
  t.iso.st = .off ∧ t.iso.vPack = none ∧
  t.budget.period = none ∧ t.budget.input.limits.present = false ∧ t.budget.input.limits.stale = true

/-- The stage link controller has completed an entry to STANDBY or SLEEP (R127). -/
def linkResting (s t : State) : Prop :=
  t.stage.entryWait = false ∧ t.stage.urgent = [] ∧ t.stage.normal = [] ∧ t.stage.recallTimer = none ∧
  t.stage.supplyOn = false ∧
  ∀ a ∈ addresses, (t.node a).st = (if (s.node a).st = .absent then .absent else .missing) ∧
    (t.node a).pollTimer = none ∧ (t.node a).refreshTimer = none

/-- Every drive output is released; the feedback and the other inputs stand (R173). -/
def drivesReleased (s t : State) : Prop :=
  t.pins.lockDrive = .released ∧ t.pins.kacDrive = false ∧ t.pins.kdcpDrive = false ∧ t.pins.kdcnDrive = false ∧
  t.pins.cpLoad = false ∧ t.stage.supplyOn = false ∧
  t.pins.lockFb = s.pins.lockFb ∧ t.pins.kacFb = s.pins.kacFb ∧ t.pins.kdcpFb = s.pins.kdcpFb ∧
  t.pins.kdcnFb = s.pins.kdcnFb ∧ t.pins.supplyWarn = s.pins.supplyWarn ∧ t.pins.wake = s.pins.wake ∧
  t.pins.sensor1 = s.pins.sensor1 ∧ t.pins.sensor2 = s.pins.sensor2

/-- The contents of the NV areas stand; the store's queue is lost with the reset (R177). -/
def nvStands (s t : State) : Prop :=
  t.nv.settings = s.nv.settings ∧ t.nv.tariff = s.nv.tariff ∧ t.nv.slots = s.nv.slots ∧ t.nv.totals = s.nv.totals ∧
  t.nv.isoMemory = s.nv.isoMemory ∧ t.nv.inFlight = none

/-- What a start-up has set when its loads are done (R176 steps 1 to 6): the cause, the clock and the departure timer
kept but at POWER_ON, and the settings, tariff, totals and isolation memory from NV or at their defaults; each record left OPEN
is priced and settled from its checkpoint, closed and queued for writing (R165). -/
def restarted (cause : ResetCause) (s t : State) : Prop :=
  t.power.part = .startUp ∧ t.power.cause = cause ∧ t.power.hostReset = false ∧ t.power.lastWake = .none ∧
  t.power.started = false ∧ drivesReleased s t ∧ nvStands s t ∧
  t.session = { lock := if s.pins.lockFb then .engaged else .notEngaged } ∧
  t.link.framer = .hunt ∧ t.link.requests = [] ∧ t.link.replies = [] ∧ t.link.tx = none ∧ t.link.errors = {} ∧
  t.link.on = true ∧
  t.billing.clock = (if cause = .powerOn then {} else s.billing.clock) ∧
  t.heating.departure.count = (if cause = .powerOn then 0 else s.heating.departure.count) ∧
  t.billing.commitPending = false ∧ t.billing.reservation = none ∧
  (let x : Settings := ((newest s.nv.settings).map fun p => p.2.1).getD {}
   t.budget.params = x.params ∧ t.budget.table = x.table ∧ t.heating.policy = x.policy ∧ t.iso.params = x.iso ∧
     t.iso.searchList = x.searchList ∧ t.stage.nodes.map Node.expected = x.roster) ∧
  t.power.outcomes.settingsDefaulted = (newest s.nv.settings).isNone ∧
  t.billing.tariff = ((newest s.nv.tariff).map fun p => p.2.1).getD {} ∧
  t.power.outcomes.tariffDefaulted = (newest s.nv.tariff).isNone ∧
  t.meter.totals = ((newest s.nv.totals).map fun p => p.2.1).getD {} ∧
  t.meter.totalsLost = (newest s.nv.totals).isNone ∧
  t.iso.memory = ((newest s.nv.isoMemory).map fun p => p.2.1).getD [] ∧
  t.power.outcomes.isoLost = (newest s.nv.isoMemory).isNone ∧
  (∀ i, i < 24 → i < s.nv.slots.length → ∀ q y b, newest (s.nv.slots.getD i {}) = some (q, y, b) →
    (y.st = .free → t.billing.slot i = {}) ∧
    (y.st = .closed ∨ y.st = .collected → t.billing.slot i = y) ∧
    (y.st = .opened →
      t.billing.slot i = recoveredImage y.record t.billing.clock.time? ∧
      waits t (.slot i (t.billing.slot i)) ∧ NoticeKind.record ∈ t.link.notices)) ∧
  t.now = s.now ∧ t.pending = s.pending

/-- The request code and the TAG of each request row (section 9.6). -/
def requestHead : Instr → Option (Byte × Byte)
  | .identify tag => some (0x01, tag)
  | .partStatus tag => some (0x02, tag)
  | .reset tag => some (0x03, tag)
  | .setPowerState tag _ => some (0x04, tag)
  | .saveSettings tag => some (0x05, tag)
  | .readLinkErrors tag => some (0x06, tag)
  | .authorise tag _ _ _ _ => some (0x10, tag)
  | .deny tag => some (0x11, tag)
  | .pause tag => some (0x12, tag)
  | .resume tag => some (0x13, tag)
  | .stop tag => some (0x14, tag)
  | .restart tag => some (0x15, tag)
  | .clearFault tag => some (0x16, tag)
  | .dcStation tag _ _ _ _ => some (0x17, tag)
  | .dcConnect tag => some (0x18, tag)
  | .sessionStatus tag => some (0x19, tag)
  | .setPackLimits tag _ _ _ => some (0x20, tag)
  | .setDerateTable tag _ => some (0x21, tag)
  | .setBudgetParams tag _ _ _ => some (0x22, tag)
  | .budgetStatus tag _ => some (0x23, tag)
  | .setZone tag _ _ _ _ => some (0x30, tag)
  | .setHeatPolicy tag _ _ _ => some (0x31, tag)
  | .setDeparture tag _ _ _ => some (0x32, tag)
  | .heatStatus tag _ => some (0x33, tag)
  | .setIsoParams tag _ _ _ _ _ _ => some (0x40, tag)
  | .setSearchList tag _ => some (0x41, tag)
  | .isoStatus tag _ => some (0x42, tag)
  | .clearIsolation tag _ => some (0x43, tag)
  | .startSearch tag => some (0x44, tag)
  | .setRoster tag _ => some (0x50, tag)
  | .rollCall tag => some (0x51, tag)
  | .rosterStatus tag _ => some (0x52, tag)
  | .readStageErrors tag => some (0x53, tag)
  | .meterStatus tag _ => some (0x60, tag)
  | .readTotals tag => some (0x61, tag)
  | .setClock tag _ _ _ => some (0x70, tag)
  | .tariffWrite tag _ _ => some (0x71, tag)
  | .tariffRead tag _ => some (0x72, tag)
  | .tariffCommit tag => some (0x73, tag)
  | .tariffCancel tag => some (0x74, tag)
  | .readRecord tag _ _ _ => some (0x75, tag)
  | .releaseRecord tag _ => some (0x76, tag)
  | .logStatus tag => some (0x77, tag)
  | _ => none

end Sys2Proof.Safety
end

