-- ==== Sys2Proof/Certificates/Slice0/Obligations.lean ====
section
/-! DEFINITION. The statements for the provers. -/

open Sys2Proof Sys2Proof.Machine Sys2Proof.Safety

/-! ### The whole part -/

/-- The block's stand-in for running a decoded instruction: a step runs the command at the front of the queue on the
queue's rest; with none waiting one millisecond passes and nothing else moves (log 1). -/
def Obligations.StepRunsFrontCommand : Prop :=
  (∀ (c : Instr) (s : State), step { s with pending := c :: s.pending } = exec c s) ∧
    ∀ s : State, s.pending = [] → step s = .next { s with now := s.now + 1 }

/-- Every command goes on to a next state, and leaves the waiting commands and the time base alone. -/
def Obligations.EveryCommandGoesOn : Prop :=
  ∀ (c : Instr) (s : State), ∃ t, exec c s = .next t ∧ t.pending = s.pending ∧ t.now = s.now

/-- What the manual gives every block after a reset (R29, R37, R77, R107, R127, R141, R193 and the tables they name).
With the NV store erased the settings are the factory ones (R176; the erased store and the start-up in progress are
the model's choice, logs 2 and 14). -/
def Obligations.ResetValues : Prop :=
  let s := State.reset
  (s.session.st = .idle ∧ s.session.mode = none ∧ s.session.phases = none ∧ s.session.unlockOnStop = false ∧
    s.session.ref = none ∧ s.session.acK = .opened ∧ s.session.dcK = .opened ∧ s.session.causes = {} ∧
    s.session.stopCause = none ∧ s.session.fault = none ∧ s.session.stopPending = false ∧
    s.session.plugLossSeen = false ∧ s.session.station = none ∧ s.session.dcRequest = 0 ∧
    s.session.prox = .noPlug ∧ s.session.pilot = .absent ∧ s.pins.cpLoad = false ∧ s.pins.kacDrive = false ∧
    s.pins.kdcpDrive = false ∧ s.pins.kdcnDrive = false) ∧
  (s.budget.input.sess = .idle ∧ s.budget.input.mode = none ∧ s.budget.input.offer = 0 ∧
    s.budget.input.cable = 130 ∧ s.budget.input.derate = 0 ∧ s.budget.input.phases = 0 ∧
    s.budget.input.stState = .absent ∧ s.budget.input.packV = none ∧ s.budget.input.limits.present = false ∧
    s.budget.input.limits.stale = true ∧ s.budget.input.minTemp = none ∧ s.budget.input.demands = false ∧
    s.budget.input.gridMode = .off ∧ s.budget.input.searchHold = false ∧ s.budget.input.preferred = false ∧
    s.budget.params = { cap := 320, aux := 250, share := 300 } ∧
    s.budget.table =
      [(-60, 0), (-40, 0), (-20, 100), (0, 400), (20, 800), (40, 1000), (90, 1000), (110, 0)]) ∧
  (s.heating.source = .none ∧ s.heating.zones.map Zone.rank = [7, 6, 5, 4, 3, 2, 1, 0].map some ∧
    (∀ z ∈ s.heating.zones,
      z.enabled = true ∧ z.target = 20 ∧ z.hyst = 4 ∧ z.node = .missing ∧ z.temp = none ∧ z.onTime = 0) ∧
    s.heating.departure.count = 0 ∧ s.heating.departure.mode = .oneShot ∧ s.heating.departure.lead = 60) ∧
  (s.iso.st = .off ∧ s.iso.assess = .unknown ∧ s.iso.source = .own ∧ s.iso.profile = .p1 ∧ s.iso.last = none ∧
    s.iso.dcContext = false ∧ s.iso.search.outcome = .none ∧ s.iso.memory = [] ∧
    s.iso.searchList = [4, 5, 6, 7, 8, 9, 10, 11, 1, 2, 3]) ∧
  (s.stage.urgent = [] ∧ s.stage.normal = [] ∧ s.stage.safeStop = false ∧ s.stage.inFlight = none ∧
    s.stage.errors = {} ∧
    s.stage.nodes.map Node.expected =
      [.charger, .charger, .charger, .heater, .heater, .heater, .heater, .heater, .heater, .heater, .heater] ∧
    ∀ n ∈ s.stage.nodes, n.st = .missing ∧ n.commanded = 0 ∧ n.acked = none) ∧
  (s.meter.live = {} ∧ s.meter.channel = {} ∧ s.meter.resGrid = 0 ∧ s.meter.resPackNet = 0 ∧ s.meter.mode = none ∧
    s.meter.totals = {} ∧ s.meter.totalsLost = true) ∧
  (s.billing.clock = {} ∧ s.billing.commitPending = false ∧ s.billing.nextNumber = 1 ∧
    s.billing.reservation = none ∧ s.billing.slots.length = 24 ∧ ∀ x ∈ s.billing.slots, x.st = .free) ∧
  (s.link.framer = .hunt ∧ s.link.requests = [] ∧ s.link.replies = [] ∧ s.link.notices = [] ∧ s.link.tx = none ∧
    s.link.errors = {}) ∧
  s.power.cause = .powerOn ∧ s.power.hostReset = false ∧ s.nv.queue = [] ∧ s.pending = []

/-- The laws of the device hold right after reset. -/
def Obligations.ResetMeetsLaws : Prop :=
  linkLaw State.reset ∧ queueLaw State.reset ∧ isolationLaw State.reset ∧ residueLaw State.reset ∧
    heatLaw State.reset ∧ rankLaw State.reset ∧ zoneLaw State.reset

/-- R185, R190: every step keeps the bounds of the request and reply queues and the one notice of each kind. -/
def Obligations.LinkLawKeptByEveryStep : Prop :=
  ∀ s t : State, linkLaw s → step s = .next t → linkLaw t

/-- R116, R117, R122: every step keeps the laws of the two stage queues and the stage part of the law of isolation. -/
def Obligations.StageLawsKeptByEveryStep : Prop :=
  ∀ s t : State, step s = .next t → (queueLaw s → queueLaw t) ∧ (isolationLaw s → isolationLaw t)

/-- R132, R133: every step keeps the residues within their ranges. -/
def Obligations.ResidueLawKeptByEveryStep : Prop :=
  ∀ s t : State, residueLaw s → step s = .next t → residueLaw t

/-! ### Requests in general, status and identity -/

/-- R186 step 3: in SUPPLY_HOLD, and while a host reset is pending, every catalogued request is answered STATE and
changes nothing; where the part does not serve, for want of a completed start-up, of RUN or SUPPLY_HOLD or of room for a
reply, it changes nothing at all (log 4; a SUPPLY_HOLD entered before start-up has completed, log 17). -/
def Obligations.RequestsTurnedAway : Prop :=
  ∀ (c : Instr) (code tag : Byte) (s : State), requestHead c = some (code, tag) →
    (serves s → s.power.part = .supplyHold ∨ s.power.hostReset = true → refusedWith c code tag .state s) ∧
    (¬ serves s → exec c s = .next s)

/-- R27, R52, R74, R105, R125, R139, R140, R145, R162, R163, R181, R197: the status requests and read-outs answer OK
with a snapshot and change nothing; IDENTIFY's four fields are given byte by byte. The bodies other than IDENTIFY's and the
record parts are laid out by log 11, with the points of log 21 that name PART_STATUS, HEAT_STATUS, ISO_STATUS, METER_STATUS
and LOG_STATUS, a LOG_STATUS with more than seven records by log 12, a damaged record by log 3, and the station limits of an
ABSENT station by log 20: the model's choices. -/
def Obligations.StatusRequestsReadOut : Prop :=
  ∀ (s : State) (tag : Byte), mayServe s →
    readsOut (.identify tag) 0x01 tag
        [0x1D, 0x07, 0x40, byte s.power.cause.code, flag s.power.outcomes.settingsDefaulted] s ∧
    readsOut (.partStatus tag) 0x02 tag (partBytes s) s ∧
    readsOut (.sessionStatus tag) 0x19 tag (sessionBytes s) s ∧
    readsOut (.budgetStatus tag 0) 0x23 tag (evalBytes s.budget.last) s ∧
    readsOut (.budgetStatus tag 1) 0x23 tag (inputBytes s.now s.budget.input) s ∧
    readsOut (.budgetStatus tag 2) 0x23 tag (tableBytes s.budget) s ∧
    readsOut (.heatStatus tag 0) 0x33 tag (heatBytes s) s ∧
    (∀ z, 1 ≤ z → z ≤ 8 → readsOut (.heatStatus tag z) 0x33 tag (zoneBytes (s.zone z)) s) ∧
    readsOut (.isoStatus tag 0) 0x42 tag (isoBytes0 s) s ∧
    readsOut (.isoStatus tag 1) 0x42 tag (isoBytes1 s.iso) s ∧
    readsOut (.isoStatus tag 2) 0x42 tag (isoBytes2 s.iso) s ∧
    readsOut (.rosterStatus tag 0) 0x52 tag (rosterBytes s) s ∧
    (∀ a, 1 ≤ a → a ≤ 11 → readsOut (.rosterStatus tag a) 0x52 tag (nodeBytes s a) s) ∧
    readsOut (.meterStatus tag 0) 0x60 tag (liveBytes s) s ∧
    readsOut (.meterStatus tag 1) 0x60 tag (channelBytes s.meter) s ∧
    readsOut (.readTotals tag) 0x61 tag (totalsBytes s.meter) s ∧
    readsOut (.tariffRead tag 0) 0x72 tag (tariffBytes s.billing false) s ∧
    readsOut (.tariffRead tag 1) 0x72 tag (tariffBytes s.billing true) s ∧
    (∀ n p h i, p ≤ 3 → h ≤ 1 → s.billing.findNumber n = some i →
      readsOut (.readRecord tag n p h) 0x75 tag (recordBytes (s.billing.slot i) p h) s) ∧
    readsOut (.logStatus tag) 0x77 tag (logBytes s.billing) s

/-- R52, R74, R105, R125, R139, R145, R162, R197: a selector outside its range is refused with BAD_VALUE, and a record
number in no slot but a FREE one with NOT_FOUND. -/
def Obligations.BadSelectorsRefused : Prop :=
  ∀ (s : State) (tag : Byte), mayServe s →
    (∀ p, 2 < p → refusedWith (.budgetStatus tag p) 0x23 tag .badValue s) ∧
    (∀ p, 8 < p → refusedWith (.heatStatus tag p) 0x33 tag .badValue s) ∧
    (∀ p, 2 < p → refusedWith (.isoStatus tag p) 0x42 tag .badValue s) ∧
    (∀ p, 11 < p → refusedWith (.rosterStatus tag p) 0x52 tag .badValue s) ∧
    (∀ p, 1 < p → refusedWith (.meterStatus tag p) 0x60 tag .badValue s) ∧
    (∀ p, 1 < p → refusedWith (.tariffRead tag p) 0x72 tag .badValue s) ∧
    (∀ n p h, 3 < p ∨ 1 < h → refusedWith (.readRecord tag n p h) 0x75 tag .badValue s) ∧
    (∀ n p h, p ≤ 3 → h ≤ 1 →
      (∀ x ∈ s.billing.slots, x.st ≠ .free → x.record.number ≠ n) →
      refusedWith (.readRecord tag n p h) 0x75 tag .notFound s ∧
        refusedWith (.releaseRecord tag n) 0x76 tag .notFound s)

/-- R197: part 0 half 0 of a record is 57 bytes after the status, half 1 is 44, and a segment half 55; a damaged
record is served in the same lengths, with the bytes of log 3. -/
def Obligations.RecordHalvesHaveTheirLengths : Prop :=
  ∀ x : Slot,
    (recordBytes x 0 0).length = 57 ∧ (recordBytes x 0 1).length = 44 ∧
      ∀ p h, 1 ≤ p → p ≤ 3 → h ≤ 1 → (recordBytes x p h).length = 55

/-- R124, R191: READ_LINK_ERRORS and READ_STAGE_ERRORS answer OK with their five flags, and clear all five in the same
step; nothing else changes. The order of the link error flags in their byte, R191's and not that of the table of chapter 9,
is the model's choice (log 11). -/
def Obligations.ErrorFlagsReadAndCleared : Prop :=
  ∀ (s : State) (tag : Byte), mayServe s →
    exec (.readLinkErrors tag) s = .next
      { s with link :=
        { s.link with
          errors := {}
          replies := s.link.replies ++ [⟨0x86, tag, byte Status.ok.code :: flagBytes s.link.errors.bits, .plain⟩] } } ∧
    exec (.readStageErrors tag) s = .next
      { replied s 0x53 tag (byte Status.ok.code :: flagBytes s.stage.errors.bits) with
        stage := { s.stage with errors := {} } }

/-! ### Charging sessions (chapter 1) -/

/-- R8: AUTHORISE is checked in the rule's order, and each refusal changes nothing. -/
def Obligations.AuthoriseRefusedInOrder : Prop :=
  ∀ (s : State) (tag : Byte) (mode phases unlock : Nat) (ref : List Byte), mayServe s →
    let c := Instr.authorise tag mode phases unlock ref
    (s.session.st ≠ .authorising → refusedWith c 0x10 tag .state s) ∧
    (s.session.st = .authorising →
      (¬ authoriseLegal mode phases unlock ref → refusedWith c 0x10 tag .badValue s) ∧
      (authoriseLegal mode phases unlock ref →
        (gradeBars s → refusedWith c 0x10 tag .state s) ∧
        (¬ gradeBars s → inletBars s → refusedWith c 0x10 tag .state s) ∧
        (¬ gradeBars s → ¬ inletBars s → s.billing.offer = none → refusedWith c 0x10 tag .logFull s)))

/-- R8, R10, R11, R91, R135, R156, R157: an AUTHORISE that passes its checks stores its fields, opens the record in the
slot offered with the next number, opens the meter's channel and enters ENERGISING: in AC with the load engaged, the
contactor commanded at once if L1 is above 180.0 V; in DC with the monitor told to listen. That the next number passes
4,294,967,295 when that one is issued is the model's choice, log 21. -/
def Obligations.AuthoriseOpensRecordAndEnergises : Prop :=
  ∀ (s : State) (tag : Byte) (mode phases unlock : Nat) (ref : List Byte) (slot : Nat), mayServe s →
    s.session.st = .authorising → authoriseLegal mode phases unlock ref → ¬ gradeBars s → ¬ inletBars s →
    s.billing.offer = some slot →
    (mode = 0 ∧ (s.meter.live.v1 ≤ 1800 ∨ s.pins.kacFb = false)) ∨
      (mode = 1 ∧ s.iso.st ≠ .searching ∧ ∀ r, s.session.station = some r → r.faultReported = false) →
    let m : Mode := if mode = 0 then .ac else .dc
    let image : Slot :=
      { st := .opened
        record :=
          { number := s.billing.nextNumber, mode := m, ref := if ref = [] then none else some ref
            startTime :=
              if s.billing.clock.valid then
                some ⟨s.billing.clock.day, s.billing.clock.minute, s.billing.clock.second⟩ else none
            segments :=
              [{ page := s.billing.cursor.page, band := s.billing.cursor.band
                 price := (s.billing.tariff.bandOf s.billing.cursor).price }]
            flags := { clockUnset := !s.billing.clock.valid } } }
    ∃ t, exec (.authorise tag mode phases unlock ref) s = .next t ∧
      t.session.st = .energising ∧ t.session.mode = some m ∧ t.session.phases = some phases ∧
      t.session.unlockOnStop = decide (unlock = 1) ∧ t.session.ref = (if ref = [] then none else some ref) ∧
      t.session.stopCause = none ∧ t.session.lock = s.session.lock ∧
      t.billing =
        { s.billing with
          slots := s.billing.slots.set slot image
          nextNumber := s.billing.nextNumber + 1
          reservation := none
          checkpoint := some s.now } ∧
      t.meter = { s.meter with channel := { isOpen := true }, mode := some m } ∧
      (∃ w ∈ t.nv.queue, w.content = .slot slot image) ∧
      t.heating =
        { s.heating with sess := .energising, zones := s.heating.zones.map fun z => { z with onTime := 0 } } ∧
      onlyChanges [.session, .pins, .heating, .iso, .meter, .billing, .nv, .link, .budgetIn] s t ∧
      (mode = 0 →
        t.iso = s.iso ∧ t.session.station = none ∧ t.session.causes = s.session.causes ∧
        t.budgetIn =
          s.budgetIn ++ (if s.session.station = none then [] else [.stationAbsent]) ++
            [.phases phases, .session .energising (some .ac)] ∧
        answers 0x10 tag .ok [] [.session, .record] s t ∧
        (s.meter.live.v1 ≤ 1800 → t.session.energiseTimer = some s.now ∧ t.session.acK = s.session.acK ∧
          t.pins = { s.pins with cpLoad := true }) ∧
        (1800 < s.meter.live.v1 → t.session.energiseTimer = none ∧ t.session.acK = .closing ∧
          t.session.closeTimer = some s.now ∧ t.pins = { s.pins with cpLoad := true, kacDrive := true })) ∧
      (mode = 1 →
        t.session.energiseTimer = some s.now ∧ t.pins = { s.pins with cpLoad := false } ∧
        t.session.station = s.session.station ∧ t.iso.dcContext = true ∧ t.iso.dcClosed = false ∧
        t.iso.assess = s.iso.assess ∧
        t.iso.st = (if s.iso.st = .off then .off else .listening) ∧
        (s.iso.st ≠ .off → t.iso.listenTimer = some s.now ∧ t.iso.period = none) ∧
        (∀ r, s.session.station = some r → t.iso.stationMon = r.monActive))

/-- R9, R12, R13, R18, R24, R25, R26: what the session controller refuses, each refusal changing nothing. A DC_STATION in a
wrong state and with a value out of range is answered STATE: the model's reading, log 10. -/
def Obligations.SessionRequestsRefused : Prop :=
  ∀ (s : State) (tag : Byte), mayServe s →
    (s.session.st ≠ .authorising → ¬ (s.session.st = .finished ∧ s.session.lock = .engaged) →
      refusedWith (.deny tag) 0x11 tag .state s) ∧
    (s.session.st ≠ .active → s.session.st ≠ .paused →
      refusedWith (.pause tag) 0x12 tag .state s ∧ refusedWith (.resume tag) 0x13 tag .state s) ∧
    (s.session.st ∈ [.idle, .connected, .stopping, .unlocking, .finished, .faulted] →
      refusedWith (.stop tag) 0x14 tag .state s) ∧
    (s.session.st ≠ .finished ∨ inletBars s → refusedWith (.restart tag) 0x15 tag .state s) ∧
    (s.session.st ≠ .faulted ∨ ¬ contactsOpen s → refusedWith (.clearFault tag) 0x16 tag .state s) ∧
    (∀ v i p f,
      (s.session.st ≠ .authorising →
        s.session.mode ≠ some .dc ∨ s.session.st ∉ [.energising, .active, .paused, .stopping] →
          refusedWith (.dcStation tag v i p f) 0x17 tag .state s) ∧
      (s.session.st = .authorising ∨
          (s.session.mode = some .dc ∧ s.session.st ∈ [.energising, .active, .paused, .stopping]) →
        10000 < v ∨ 5000 < i ∨ 400000 < p ∨ 4 ≤ f → refusedWith (.dcStation tag v i p f) 0x17 tag .badValue s)) ∧
    (s.session.mode ≠ some .dc ∨ s.session.st ≠ .energising ∨ s.session.dcK ≠ .opened ∨ s.iso.st = .listening ∨
        s.meter.live.packV = none ∨ s.session.station = none ∨
        (∃ v r, s.meter.live.packV = some v ∧ s.session.station = some r ∧
          (r.stale = true ∨ r.maxV < v ∨ 200 < distance s.meter.live.vDc v)) →
      refusedWith (.dcConnect tag) 0x18 tag .state s)

/-- R7, R9, R23, R24, R25: DENY, STOP in AUTHORISING and CLEAR_FAULT drive the lock towards not engaged in UNLOCKING;
CLEAR_FAULT with the feedback not engaged ends in the same step, in IDLE with no plug and in FINISHED with one (log 8, the model's
choice, as is the lock drive's release by the feedback, log 21); RESTART drives it towards engaged in LOCKING, and
with the feedback already engaged reaches AUTHORISING at once, also with a pilot that already stands ABSENT (log 10: the
model's choice). -/
def Obligations.LockDrivingRequests : Prop :=
  ∀ (s : State) (tag : Byte), mayServe s →
    (s.pins.lockFb = true →
      s.session.st = .authorising ∨ (s.session.st = .finished ∧ s.session.lock = .engaged) →
      ∃ t, exec (.deny tag) s = .next t ∧ answers 0x11 tag .ok [] [.session] s t ∧ entered .unlocking [] s t ∧
        t.session =
          { s.session with st := .unlocking, lock := .unlockTravel, lockTimer := some s.now } ∧
        t.pins = { s.pins with lockDrive := .towardReleased, cpLoad := false } ∧
        onlyChanges [.session, .pins, .heating, .link, .budgetIn] s t) ∧
    (s.pins.lockFb = true → s.session.st = .authorising →
      ∃ t, exec (.stop tag) s = .next t ∧ answers 0x14 tag .ok [] [.session] s t ∧ entered .unlocking [] s t ∧
        t.session = { s.session with st := .unlocking, lock := .unlockTravel, lockTimer := some s.now } ∧
        t.pins = { s.pins with lockDrive := .towardReleased, cpLoad := false } ∧
        onlyChanges [.session, .pins, .heating, .link, .budgetIn] s t) ∧
    (s.session.st = .faulted → contactsOpen s → s.pins.lockFb = true →
      ∃ t, exec (.clearFault tag) s = .next t ∧ answers 0x16 tag .ok [] [.session] s t ∧ entered .unlocking [] s t ∧
        t.session.fault = none ∧ t.session.lock = .unlockTravel ∧ t.session.lockTimer = some s.now ∧
        t.pins = { s.pins with lockDrive := .towardReleased, cpLoad := false } ∧
        onlyChanges [.session, .pins, .heating, .link, .budgetIn] s t) ∧
    (s.session.st = .faulted → contactsOpen s → s.pins.lockFb = false → s.session.prox.present = false →
      ∃ t, exec (.clearFault tag) s = .next t ∧ answers 0x16 tag .ok [] [.session] s t ∧ entered .idle [] s t ∧
        t.session.fault = none ∧ t.session.lock = .notEngaged ∧ t.pins = { s.pins with cpLoad := false } ∧
        onlyChanges [.session, .pins, .heating, .link, .budgetIn] s t) ∧
    (s.session.st = .faulted → contactsOpen s → s.pins.lockFb = false → s.session.prox.present = true →
      ∃ t, exec (.clearFault tag) s = .next t ∧ answers 0x16 tag .ok [] [.session] s t ∧
        entered .finished [.session .unlocking s.session.mode] s t ∧
        t.session =
          { s.session with
            st := .finished, fault := none, acK := s.session.acK.settled false, dcK := s.session.dcK.settled false
            lock := .notEngaged, lockTimer := none, plugLossSeen := false } ∧
        t.pins = { s.pins with lockDrive := .released, cpLoad := false } ∧
        onlyChanges [.session, .pins, .heating, .link, .budgetIn] s t) ∧
    (s.session.st = .finished → ¬ inletBars s → s.pins.lockFb = false →
      ∃ t, exec (.restart tag) s = .next t ∧ answers 0x15 tag .ok [] [.session] s t ∧ entered .locking [] s t ∧
        t.session =
          { s.session with
            st := .locking, lock := .lockTravel, lockTimer := some s.now, stopPending := false, lockingLost := false } ∧
        t.pins = { s.pins with lockDrive := .towardEngaged, cpLoad := false } ∧
        onlyChanges [.session, .pins, .heating, .link, .budgetIn] s t) ∧
    (s.session.st = .finished → ¬ inletBars s → s.pins.lockFb = true →
      ∃ t, exec (.restart tag) s = .next t ∧ answers 0x15 tag .ok [] [.session] s t ∧
        entered .authorising [.session .locking s.session.mode] s t ∧
        t.session =
          { s.session with
            st := .authorising, lock := .engaged, lockTimer := none, stopPending := false, lockingLost := false } ∧
        t.pins = { s.pins with lockDrive := .released, cpLoad := false } ∧
        onlyChanges [.session, .pins, .heating, .link, .budgetIn] s t)

/-- R14, R17, R18: PAUSE adds HOST_PAUSE and RESUME removes it; the move the set calls for follows at once, with the
charge-request load; a PAUSE with the cause present, or a RESUME without it, changes nothing. In any other state each is
refused with STATE. -/
def Obligations.PauseAndResumeMoveTheSet : Prop :=
  ∀ (s : State) (tag : Byte), mayServe s →
    (s.session.st ≠ .active → s.session.st ≠ .paused →
      refusedWith (.pause tag) 0x12 tag .state s ∧ refusedWith (.resume tag) 0x13 tag .state s) ∧
    (s.session.st = .active ∨ s.session.st = .paused → s.session.causes.hostPause = true →
      exec (.pause tag) s = .next (replied s 0x12 tag [byte Status.ok.code])) ∧
    (s.session.st = .active ∨ s.session.st = .paused → s.session.causes.hostPause = false →
      exec (.resume tag) s = .next (replied s 0x13 tag [byte Status.ok.code])) ∧
    (s.session.st = .active ∨ s.session.st = .paused → s.session.causes.hostPause = false →
      ∃ t, exec (.pause tag) s = .next t ∧ answers 0x12 tag .ok [] [.session] s t ∧
        t.session = { s.session with st := .paused, causes := { s.session.causes with hostPause := true } } ∧
        t.pins = { s.pins with cpLoad := false } ∧
        (s.session.st = .active → entered .paused [] s t) ∧
        (s.session.st = .paused → t.heating = s.heating ∧ t.budgetIn = s.budgetIn) ∧
        onlyChanges [.session, .pins, .heating, .link, .budgetIn] s t) ∧
    (s.session.st = .paused → s.session.causes.hostPause = true →
      let c := { s.session.causes with hostPause := false }
      ∃ t, exec (.resume tag) s = .next t ∧ answers 0x13 tag .ok [] [.session] s t ∧
        (c = {} → entered .active [] s t ∧ t.session = { s.session with st := .active, causes := {} } ∧
          t.pins = { s.pins with cpLoad := decide (s.session.mode = some .ac) }) ∧
        (c ≠ {} → t.session = { s.session with causes := c } ∧ t.heating = s.heating ∧ t.budgetIn = s.budgetIn ∧
          t.pins =
            { s.pins with cpLoad := decide (s.session.mode = some .ac ∧ c.nothingToDo = false) }) ∧
        onlyChanges [.session, .pins, .heating, .link, .budgetIn] s t)

/-- R20, R21, R26: STOP in LOCKING sets stop pending; in ACTIVE or PAUSED with the inlet current at 1.0 A or more it
moves the session to STOPPING with the ramp wait running and the contactors as they are; with less, or in ENERGISING,
the contactors are commanded open at once, and with every contact already open the stop ends in the same step (log 8). -/
def Obligations.StopBeginsTheStop : Prop :=
  ∀ (s : State) (tag : Byte), mayServe s →
    (s.session.st = .locking →
      exec (.stop tag) s =
        .next (replied { s with session := { s.session with stopPending := true } } 0x14 tag [byte Status.ok.code])) ∧
    (s.session.st = .active ∨ s.session.st = .paused → 10 ≤ s.inletCurrent →
      ∃ t, exec (.stop tag) s = .next t ∧ answers 0x14 tag .ok [] [.session] s t ∧ entered .stopping [] s t ∧
        t.session =
          { s.session with
            st := .stopping, stopCause := some .hostStop, causes := { s.session.causes with hostPause := false }, dcRequest := 0
            energiseTimer := none, rampTimer := some s.now } ∧
        onlyChanges [.session, .heating, .link, .budgetIn] s t) ∧
    (s.session.st = .energising ∨
        ((s.session.st = .active ∨ s.session.st = .paused) ∧ s.inletCurrent < 10) → ¬ contactsOpen s →
      ∃ t, exec (.stop tag) s = .next t ∧ answers 0x14 tag .ok [] [.session] s t ∧ entered .stopping [] s t ∧
        t.session =
          { s.session with
            st := .stopping, stopCause := some .hostStop, causes := { s.session.causes with hostPause := false }, dcRequest := 0
            energiseTimer := none, closeTimer := none, rampTimer := none, openTimer := some s.now
            acK := s.session.acK.commandedOpen, dcK := s.session.dcK.commandedOpen } ∧
        t.pins = { s.pins with kacDrive := false, kdcpDrive := false, kdcnDrive := false } ∧
        onlyChanges [.session, .pins, .heating, .link, .budgetIn] s t) ∧
    (s.session.st = .energising ∨
        ((s.session.st = .active ∨ s.session.st = .paused) ∧ s.inletCurrent < 10) → contactsOpen s →
      ∃ t, exec (.stop tag) s = .next t ∧ stopDone (some .hostStop) s.session.fault s t ∧
        t.session.causes.hostPause = false ∧
        t.link.replies = s.link.replies ++ [⟨0x94, tag, [byte Status.ok.code], .plain⟩])

/-- R12, R13, R20, R21, R92, R94, R100: DC_STATION replaces the station record and posts it; while charging its flags reach the
monitor, which yields to a monitoring station, its held result flagged EXTERNAL. A fault report at CRITICAL or an EXTERNAL
FAULT does nothing more; at any other assessment it makes it FAULT with source EXTERNAL, takes the monitor to YIELDED but from
OFF, ends a search ABORTED, and stops the session with ISO_EXTERNAL, by its ramp from 1.0 A up and at once below it and in
ENERGISING, where with every contact open the stop ends in the same step (log 8, the model's choice); a stop in progress goes on
as it was. DC_CONNECT closes the pair. -/
def Obligations.StationRecordAndConnect : Prop :=
  ∀ (s : State) (tag : Byte), mayServe s →
    (∀ v i p f, v ≤ 10000 → i ≤ 5000 → p ≤ 400000 → f < 4 →
      let x := { s.session with station := some ⟨v, i, p, f % 2 == 1, f / 2 % 2 == 1, s.now, false⟩ }
      let charging := s.session.mode = some .dc ∧ s.session.st ∈ [.energising, .active, .paused, .stopping]
      let settled := s.iso.assess = .critical ∨ (s.iso.assess = .fault ∧ s.iso.source = .external)
      (s.session.st = .authorising →
        exec (.dcStation tag v i p f) s = .next
          { replied s 0x17 tag [byte Status.ok.code] with
            session := x, budgetIn := s.budgetIn ++ [.stationFresh v i p] }) ∧
      (charging → f < 2 ∨ settled → f % 2 = 0 ∨ s.iso.st ≠ .measuring ∨ s.iso.dcContext = false →
        exec (.dcStation tag v i p f) s = .next
          { replied s 0x17 tag [byte Status.ok.code] with
            session := x, budgetIn := s.budgetIn ++ [.stationFresh v i p]
            iso :=
              { s.iso with
                stationMon := f % 2 == 1, stationFault := decide (2 ≤ f)
                foreign := s.iso.foreign || decide (f % 2 = 1 ∧ s.iso.st = .listening) } }) ∧
      (charging → f = 1 → s.iso.st = .measuring → s.iso.dcContext = true → s.session.causes.searchHold = s.iso.hold →
        exec (.dcStation tag v i p f) s = .next
          { replied (noticed [.insulation] s) 0x17 tag [byte Status.ok.code] with
            session := x, budgetIn := s.budgetIn ++ [.stationFresh v i p, .searchHold s.iso.hold]
            iso :=
              { s.iso with
                stationMon := true, stationFault := false, st := .yielded, period := none, listenTimer := none
                last := s.iso.last.map fun r => { r with external := true } } }) ∧
      (s.session.mode = some .dc → 2 ≤ f → ¬ settled →
        let faulted : Insulation :=
          { s.iso with
            stationMon := f % 2 == 1, stationFault := true, assess := .fault, source := .external, streaks := {}
            foreign := s.iso.foreign || decide (f % 2 = 1 ∧ s.iso.st = .listening) }
        let yielded : Insulation :=
          { faulted with
            st := .yielded, period := none, listenTimer := none
            last := s.iso.last.map fun r => { r with external := true } }
        let graded : Insulation := if s.iso.st = .yielded ∨ s.iso.st = .off then faulted else yielded
        let reported : State → Prop := fun t =>
          (s.iso.st ≠ .searching → t.iso = graded ∧ t.stage = s.stage) ∧
          (s.iso.st = .searching →
            t.iso =
              { yielded with
                search :=
                  { s.iso.search with
                    outcome := .aborted, abort := some .external, culprit := none, under := none, phase := none
                    accepted := false, confirmTimer := none, deadlineTimer := none, reconnectTimer := none } } ∧
              ∀ a, s.iso.search.under = some a → (s.node a).st = .active →
                (⟨.reconnect, a⟩ : StageEntry) ∈ t.stage.urgent) ∧
          t.session.station = x.station ∧ t.session.causes.searchHold = true ∧
          BudgetPosting.searchHold true ∈ t.budgetIn ∧ NoticeKind.insulation ∈ t.link.notices ∧
          t.link.replies = s.link.replies ++ [⟨0x97, tag, [byte Status.ok.code], .plain⟩] ∧
          onlyChanges [.session, .pins, .heating, .iso, .stage, .link, .budgetIn] s t
        let early := s.session.st = .energising ∨
          ((s.session.st = .active ∨ s.session.st = .paused) ∧ s.meter.live.iDc < 10)
        (s.session.st = .active ∨ s.session.st = .paused → 10 ≤ s.meter.live.iDc →
          ∃ t, exec (.dcStation tag v i p f) s = .next t ∧ reported t ∧
            t.session.st = .stopping ∧ t.session.stopCause = some .isoExternal ∧ t.session.rampTimer = some s.now ∧
            t.session.acK = s.session.acK ∧ t.session.dcK = s.session.dcK) ∧
        (early → ¬ contactsOpen s →
          ∃ t, exec (.dcStation tag v i p f) s = .next t ∧ reported t ∧
            t.session.st = .stopping ∧ t.session.stopCause = some .isoExternal ∧ t.session.rampTimer = none ∧
            t.session.openTimer = some s.now ∧ t.session.energiseTimer = none ∧ t.session.closeTimer = none ∧
            t.session.acK = s.session.acK.commandedOpen ∧ t.session.dcK = s.session.dcK.commandedOpen ∧
            t.pins.kacDrive = false ∧ t.pins.kdcpDrive = false ∧ t.pins.kdcnDrive = false) ∧
        (early → contactsOpen s → s.iso.st ≠ .searching →
          ∃ t, exec (.dcStation tag v i p f) s = .next t ∧
            stopDone (some .isoExternal) s.session.fault { s with session := x, iso := graded } t ∧
            t.session.causes.searchHold = true ∧ NoticeKind.insulation ∈ t.link.notices ∧
            t.link.replies = s.link.replies ++ [⟨0x97, tag, [byte Status.ok.code], .plain⟩]) ∧
        (s.session.st = .stopping →
          ∃ t, exec (.dcStation tag v i p f) s = .next t ∧ reported t ∧ t.pins = s.pins ∧
            t.session = { x with causes := { s.session.causes with searchHold := true } }))) ∧
    (∀ v r, s.session.mode = some .dc → s.session.st = .energising → s.session.dcK = .opened →
      s.iso.st ≠ .listening → s.meter.live.packV = some v → s.session.station = some r → r.stale = false →
      v ≤ r.maxV → distance s.meter.live.vDc v ≤ 200 → s.pins.kdcpFb = false ∨ s.pins.kdcnFb = false →
      exec (.dcConnect tag) s = .next
        { replied s 0x18 tag [byte Status.ok.code] with
          session := { s.session with dcK := .closing, energiseTimer := none, closeTimer := some s.now }
          pins := { s.pins with kdcpDrive := true, kdcnDrive := true } })

/-- R1, R2, R7, R12, R20, R24, R25, R200: the proximity windows; in RUN, once the session follows its inputs, an arrival takes
IDLE to CONNECTED and, with a pilot present, on to LOCKING, and moves no other state; a loss takes CONNECTED or an unlocked
FINISHED to IDLE, AUTHORISING or a locked FINISHED to UNLOCKING, and a charging session to STOPPING with CABLE_LOST, where
it is noted as in LOCKING, UNLOCKING and FAULTED. Each change posts the cable rating. The model's choices are that a lock that already reports what it is driven to and a stop with
every contact open come to their end in the same step (log 8), that the feedback removes the lock drive (log 21), and that a
loss in a locked FINISHED drives the lock also while a host reset is pending (log 10). -/
def Obligations.PlugChangesMoveTheSession : Prop :=
  (plugClassOf none = .noPlug ∧ (∀ r, 3500 < r → plugClassOf (some r) = .noPlug) ∧
    (∀ r, 1200 ≤ r → r ≤ 1900 → plugClassOf (some r) = .cable13) ∧
    (∀ r, 550 ≤ r → r ≤ 900 → plugClassOf (some r) = .cable20) ∧
    (∀ r, 180 ≤ r → r ≤ 330 → plugClassOf (some r) = .cable32) ∧
    (∀ r, 70 ≤ r → r ≤ 130 → plugClassOf (some r) = .cable63) ∧
    ∀ r, r < 70 ∨ (130 < r ∧ r < 180) ∨ (330 < r ∧ r < 550) ∨ (900 < r ∧ r < 1200) ∨ (1900 < r ∧ r ≤ 3500) →
      plugClassOf (some r) = .invalid) ∧
  ∀ (s : State) (ohms : Option Nat), s.power.part = .run → s.session.following = true →
    let c := plugClassOf ohms
    let x := { s.session with watchProx := c, proxTaken := true }
    let gone := { x with prox := c, station := none }
    let posts :=
      s.budgetIn ++ [.cable 130] ++ (if s.session.station.isSome then [.stationAbsent] else [])
    let lost := c.present = false ∧ s.session.prox.present = true
    (c = s.session.prox → exec (.proximityClassChange ohms) s = .next { s with session := x }) ∧
    (c ≠ s.session.prox →
        c.present = s.session.prox.present ∨
          (c.present = true ∧ s.session.prox.present = false ∧ s.session.st ≠ .idle) →
      exec (.proximityClassChange ohms) s = .next
        { noticed (if c = .noPlug then [] else [.session]) s with
          session := { x with prox := c }, budgetIn := s.budgetIn ++ [.cable c.rating] }) ∧
    (lost → s.session.st = .idle →
      exec (.proximityClassChange ohms) s = .next { noticed [.session] s with session := gone, budgetIn := posts }) ∧
    (lost → s.session.st = .locking →
      exec (.proximityClassChange ohms) s = .next
        { noticed [.session] s with session := { gone with lockingLost := true }, budgetIn := posts }) ∧
    (lost → s.session.st = .unlocking ∨ s.session.st = .faulted →
      exec (.proximityClassChange ohms) s = .next
        { noticed [.session] s with session := { gone with plugLossSeen := true }, budgetIn := posts }) ∧
    (lost → s.session.st = .authorising ∨ (s.session.st = .finished ∧ s.session.lock = .engaged) →
        s.pins.lockFb = true →
      exec (.proximityClassChange ohms) s = .next
        { noticed [.session] s with
          session :=
            { gone with
              st := .unlocking, lock := .unlockTravel, lockTimer := some s.now }
          pins := { s.pins with cpLoad := false, lockDrive := .towardReleased }
          heating := { s.heating with sess := .unlocking }
          budgetIn := posts ++ [.session .unlocking s.session.mode] }) ∧
    (lost → s.session.st = .authorising ∨ (s.session.st = .finished ∧ s.session.lock = .engaged) →
        s.pins.lockFb = false →
      exec (.proximityClassChange ohms) s = .next
        { noticed [.session] s with
          session := { gone with st := .idle, lock := .notEngaged, lockTimer := none, plugLossSeen := false }
          pins := { s.pins with cpLoad := false, lockDrive := .released }
          heating := { s.heating with sess := .idle }
          budgetIn := posts ++ [.session .unlocking s.session.mode, .session .idle s.session.mode] }) ∧
    (lost → s.session.st = .stopping →
      let seen := { gone with plugLossSeen := true }
      let emergency := (s.session.stopCause.getD .hostStop).emergency
      (emergency = true →
        exec (.proximityClassChange ohms) s = .next
          { noticed [.session] s with session := seen, budgetIn := posts }) ∧
      (emergency = false → s.session.rampTimer = none →
        exec (.proximityClassChange ohms) s = .next
          { noticed [.session] s with session := { seen with stopCause := some .cableLost }, budgetIn := posts }) ∧
      (emergency = false → s.session.rampTimer ≠ none → ¬ contactsOpen s →
        exec (.proximityClassChange ohms) s = .next
          { noticed [.session] s with
            session :=
              { seen with
                stopCause := some .cableLost, energiseTimer := none, closeTimer := none, rampTimer := none
                openTimer := some s.now, acK := s.session.acK.commandedOpen, dcK := s.session.dcK.commandedOpen }
            pins := { s.pins with kacDrive := false, kdcpDrive := false, kdcnDrive := false }
            budgetIn := posts }) ∧
      (emergency = false → s.session.rampTimer ≠ none → contactsOpen s →
        ∃ t, exec (.proximityClassChange ohms) s = .next t ∧
          stopDone (some .cableLost) s.session.fault { s with session := seen } t)) ∧
    (lost → s.session.st ∈ [.energising, .active, .paused] → contactsOpen s →
      ∃ t, exec (.proximityClassChange ohms) s = .next t ∧
        stopDone (some .cableLost) s.session.fault { s with session := gone } t ∧
        t.session.causes.hostPause = false) ∧
    (s.session.st = .idle → c.present = true → s.session.prox.present = false → s.session.pilot = .absent →
      exec (.proximityClassChange ohms) s = .next
        { noticed [.session] s with
          session := { x with prox := c, st := .connected }
          pins := { s.pins with cpLoad := false }
          heating := { s.heating with sess := .connected }
          budgetIn := s.budgetIn ++ [.cable c.rating, .session .connected s.session.mode] }) ∧
    (s.session.st = .idle → c.present = true → s.session.prox.present = false → s.session.pilot ≠ .absent →
        s.pins.lockFb = false →
      exec (.proximityClassChange ohms) s = .next
        { noticed [.session] s with
          session :=
            { x with
              prox := c, st := .locking, lock := .lockTravel, lockTimer := some s.now, stopPending := false
              lockingLost := false }
          pins := { s.pins with cpLoad := false, lockDrive := .towardEngaged }
          heating := { s.heating with sess := .locking }
          budgetIn :=
            s.budgetIn ++
              [.cable c.rating, .session .connected s.session.mode, .session .locking s.session.mode] }) ∧
    (s.session.st = .idle → c.present = true → s.session.prox.present = false → s.session.pilot ≠ .absent →
        s.pins.lockFb = true →
      exec (.proximityClassChange ohms) s = .next
        { noticed [.session] s with
          session :=
            { x with
              prox := c, st := .authorising, lock := .engaged, lockTimer := none, stopPending := false
              lockingLost := false }
          pins := { s.pins with cpLoad := false, lockDrive := .released }
          heating := { s.heating with sess := .authorising }
          budgetIn :=
            s.budgetIn ++
              [.cable c.rating, .session .connected s.session.mode, .session .locking s.session.mode,
               .session .authorising s.session.mode] }) ∧
    (c.present = false → s.session.prox.present = true →
        s.session.st = .connected ∨ (s.session.st = .finished ∧ s.session.lock ≠ .engaged) →
      exec (.proximityClassChange ohms) s = .next
        { noticed [.session] s with
          session := { gone with st := .idle, plugLossSeen := false }
          pins := { s.pins with cpLoad := false }
          heating := { s.heating with sess := .idle }
          budgetIn := posts ++ [.session .idle s.session.mode] }) ∧
    (c.present = false → s.session.prox.present = true → s.session.st ∈ [.energising, .active, .paused] →
        ¬ contactsOpen s →
      exec (.proximityClassChange ohms) s = .next
        { noticed [.session] s with
          session :=
            { gone with
              st := .stopping, stopCause := some .cableLost, causes := { s.session.causes with hostPause := false }, dcRequest := 0
              energiseTimer := none, closeTimer := none, rampTimer := none, openTimer := some s.now
              acK := s.session.acK.commandedOpen, dcK := s.session.dcK.commandedOpen }
          pins := { s.pins with kacDrive := false, kdcpDrive := false, kdcnDrive := false }
          heating := { s.heating with sess := .stopping }
          budgetIn := posts ++ [.session .stopping s.session.mode] })

/-- R2, R3, R4, R7, R20 to R23, R200: in RUN, once the session follows its inputs, a pilot class is held with its duty and its
offer posted; CONNECTED goes on to LOCKING, ERROR stops a charging session with STATION_FAULT and ABSENT with CABLE_LOST.
ABSENT is noted in LOCKING, cuts the ramp of a normal stop in STOPPING, and takes AUTHORISING or a locked FINISHED to UNLOCKING;
every other change moves no state. A level outside the windows changes nothing; a new duty in OFFERING posts its offer and
raises no notice. The model's choices are that a lock that already reports what it is driven to and a stop with every contact
open come to their end in the same step (log 8), that the feedback removes the lock drive (log 21), that ERROR leaves CONNECTED
where it is, and that ABSENT in a locked FINISHED drives the lock also while a host reset is pending (log 10). -/
def Obligations.PilotChangesMoveTheSession : Prop :=
  ∀ s : State, s.power.part = .run → s.session.following = true →
    (∀ sig, pilotClassOf sig = none → exec (.pilotClassChange sig) s = .next s) ∧
    (∀ sig c d, pilotClassOf sig = some (c, d) →
      let x := { s.session with watchPilot := c, watchDuty := d, pilotTaken := true }
      let held := { x with pilot := c, duty := d }
      let posts := s.budgetIn ++ [.offer (offerOf c d)]
      (c = s.session.pilot → d = s.session.duty → exec (.pilotClassChange sig) s = .next { s with session := x }) ∧
      (c ≠ s.session.pilot →
        s.session.st ∈ [.idle, .unlocking, .faulted] ∨ (s.session.st = .finished ∧ s.session.lock ≠ .engaged) ∨
          (c = .error ∧ s.session.st ∉ [.energising, .active, .paused]) ∨ (c = .absent ∧ s.session.st = .connected) ∨
          ((c = .steady ∨ c = .offering) ∧ s.session.st ≠ .connected) →
        exec (.pilotClassChange sig) s = .next { noticed [.session] s with session := held, budgetIn := posts }) ∧
      (c ≠ s.session.pilot → s.session.st = .connected → c = .steady ∨ c = .offering → s.pins.lockFb = false →
        exec (.pilotClassChange sig) s = .next
          { noticed [.session] s with
            session :=
              { held with
                st := .locking, lock := .lockTravel, lockTimer := some s.now, stopPending := false
                lockingLost := false }
            pins := { s.pins with cpLoad := false, lockDrive := .towardEngaged }
            heating := { s.heating with sess := .locking }
            budgetIn := posts ++ [.session .locking s.session.mode] }) ∧
      (c ≠ s.session.pilot → s.session.st = .connected → c = .steady ∨ c = .offering → s.pins.lockFb = true →
        exec (.pilotClassChange sig) s = .next
          { noticed [.session] s with
            session :=
              { held with
                st := .authorising, lock := .engaged, lockTimer := none, stopPending := false, lockingLost := false }
            pins := { s.pins with cpLoad := false, lockDrive := .released }
            heating := { s.heating with sess := .authorising }
            budgetIn := posts ++ [.session .locking s.session.mode, .session .authorising s.session.mode] }) ∧
      (c ≠ s.session.pilot → c = .absent → s.session.st = .locking →
        exec (.pilotClassChange sig) s = .next
          { noticed [.session] s with session := { held with lockingLost := true }, budgetIn := posts }) ∧
      (c ≠ s.session.pilot → c = .absent →
          s.session.st = .authorising ∨ (s.session.st = .finished ∧ s.session.lock = .engaged) →
        (s.pins.lockFb = true →
          exec (.pilotClassChange sig) s = .next
            { noticed [.session] s with
              session := { held with st := .unlocking, lock := .unlockTravel, lockTimer := some s.now }
              pins := { s.pins with cpLoad := false, lockDrive := .towardReleased }
              heating := { s.heating with sess := .unlocking }
              budgetIn := posts ++ [.session .unlocking s.session.mode] }) ∧
        (s.pins.lockFb = false →
          let ends : SessState := if s.session.prox.present then .finished else .idle
          exec (.pilotClassChange sig) s = .next
            { noticed [.session] s with
              session := { held with st := ends, lock := .notEngaged, lockTimer := none, plugLossSeen := false }
              pins := { s.pins with cpLoad := false, lockDrive := .released }
              heating := { s.heating with sess := ends }
              budgetIn := posts ++ [.session .unlocking s.session.mode, .session ends s.session.mode] })) ∧
      (c ≠ s.session.pilot → c = .absent → s.session.st = .stopping →
        let emergency := (s.session.stopCause.getD .hostStop).emergency
        (emergency = true →
          exec (.pilotClassChange sig) s = .next { noticed [.session] s with session := held, budgetIn := posts }) ∧
        (emergency = false → s.session.rampTimer = none →
          exec (.pilotClassChange sig) s = .next
            { noticed [.session] s with session := { held with stopCause := some .cableLost }, budgetIn := posts }) ∧
        (emergency = false → s.session.rampTimer ≠ none → ¬ contactsOpen s →
          exec (.pilotClassChange sig) s = .next
            { noticed [.session] s with
              session :=
                { held with
                  stopCause := some .cableLost, energiseTimer := none, closeTimer := none, rampTimer := none
                  openTimer := some s.now, acK := s.session.acK.commandedOpen, dcK := s.session.dcK.commandedOpen }
              pins := { s.pins with kacDrive := false, kdcpDrive := false, kdcnDrive := false }
              budgetIn := posts }) ∧
        (emergency = false → s.session.rampTimer ≠ none → contactsOpen s →
          ∃ t, exec (.pilotClassChange sig) s = .next t ∧
            stopDone (some .cableLost) s.session.fault { s with session := held } t)) ∧
      (c ≠ s.session.pilot → c = .error → s.session.st = .active ∨ s.session.st = .paused → 10 ≤ s.inletCurrent →
        exec (.pilotClassChange sig) s = .next
          { noticed [.session] s with
            session :=
              { held with
                st := .stopping, stopCause := some .stationFault
                causes := { s.session.causes with hostPause := false }, dcRequest := 0, energiseTimer := none, rampTimer := some s.now }
            heating := { s.heating with sess := .stopping }
            budgetIn := posts ++ [.session .stopping s.session.mode] }) ∧
      (∀ k, c ≠ s.session.pilot → s.session.st ∈ [.energising, .active, .paused] →
          (c = .absent ∧ k = StopCause.cableLost) ∨
            (c = .error ∧ k = StopCause.stationFault ∧ (s.session.st = .energising ∨ s.inletCurrent < 10)) →
        (¬ contactsOpen s →
          exec (.pilotClassChange sig) s = .next
            { noticed [.session] s with
              session :=
                { held with
                  st := .stopping, stopCause := some k
                  causes := { s.session.causes with hostPause := false }, dcRequest := 0
                  energiseTimer := none, closeTimer := none, rampTimer := none, openTimer := some s.now
                  acK := s.session.acK.commandedOpen, dcK := s.session.dcK.commandedOpen }
              pins := { s.pins with kacDrive := false, kdcpDrive := false, kdcnDrive := false }
              heating := { s.heating with sess := .stopping }
              budgetIn := posts ++ [.session .stopping s.session.mode] }) ∧
        (contactsOpen s →
          ∃ t, exec (.pilotClassChange sig) s = .next t ∧
            stopDone (some k) s.session.fault { s with session := held } t ∧ t.session.causes.hostPause = false))) ∧
    (∀ high period, s.session.watchPilot = .offering → s.session.pilot = .offering →
      dutyOf high period ≠ s.session.duty →
      exec (.pilotDutyChange high period) s = .next
        { s with
          session :=
            { s.session with watchDuty := dutyOf high period, pilotTaken := true, duty := dutyOf high period }
          budgetIn := s.budgetIn ++ [.offer (offerOfDuty (dutyOf high period))] }) ∧
    (∀ v, pilotClassOf (.level v) =
      if -20 ≤ v ∧ v ≤ 20 then some (.absent, 0) else if 40 < v then some (.steady, 0)
      else if v < -90 then some (.error, 0) else none) ∧
    (∀ hz v high period, pilotClassOf (.pwm hz v high period) =
      if 900 ≤ hz ∧ hz ≤ 1100 ∧ 40 < v then some (.offering, 1000 * high / period) else none)

/-- R5, R20, R21, R168, R200: the inlet derate, the temperatures taken in RUN, the posting of a derate that changed, and the stop
with INLET_OVERHEAT when the inlet comes above 95.0 °C, by its ramp from 1.0 A up and at once below it and in ENERGISING, where
with every contact open it ends in the same step (log 8, the model's choice). Outside RUN the readings stand at the inputs until the return (log 13). -/
def Obligations.InletTemperatureDeratesAndStops : Prop :=
  (inletDerate none = 0 ∧ (∀ t : Int, t ≤ 140 → inletDerate (some t) = 1000) ∧
    (∀ t : Int, 180 ≤ t → inletDerate (some t) = 0) ∧
    ∀ t : Int, 140 ≤ t → t ≤ 180 → (inletDerate (some t) : Int) = (180 - t) * 25) ∧
  ∀ (s : State) (t1 t2 : Option HalfDeg),
    let a := sensorReading t1
    let b := sensorReading t2
    let read : Pins := { s.pins with sensor1 := a, sensor2 := b }
    let old := inletTemp s.session.temp1 s.session.temp2
    let new := inletTemp a b
    let posts := if inletDerate new = inletDerate old then [] else [BudgetPosting.inletDerate (inletDerate new)]
    (s.power.part ≠ .run → exec (.inletTemperatureChange t1 t2) s = .next { s with pins := read }) ∧
    (s.power.part = .run →
        overheated new = false ∨ overheated old = true ∨ s.session.st ∉ [.energising, .active, .paused] →
      exec (.inletTemperatureChange t1 t2) s = .next
        { noticed (if overheated new = overheated old ∧ (old = none ∨ new ≠ none) then [] else [.session]) s with
          pins := read
          session := { s.session with temp1 := a, temp2 := b }
          budgetIn := s.budgetIn ++ posts }) ∧
    (s.power.part = .run → overheated new = true → overheated old = false →
        s.session.st = .active ∨ s.session.st = .paused → 10 ≤ s.inletCurrent →
      exec (.inletTemperatureChange t1 t2) s = .next
        { noticed [.session] s with
          pins := read
          session :=
            { s.session with
              temp1 := a, temp2 := b, st := .stopping, stopCause := some .inletOverheat
              causes := { s.session.causes with hostPause := false }, dcRequest := 0, energiseTimer := none, rampTimer := some s.now }
          heating := { s.heating with sess := .stopping }
          budgetIn := s.budgetIn ++ posts ++ [.session .stopping s.session.mode] }) ∧
    (s.power.part = .run → overheated new = true → overheated old = false →
        s.session.st = .energising ∨ ((s.session.st = .active ∨ s.session.st = .paused) ∧ s.inletCurrent < 10) →
      (¬ contactsOpen s →
        exec (.inletTemperatureChange t1 t2) s = .next
          { noticed [.session] s with
            pins := { read with kacDrive := false, kdcpDrive := false, kdcnDrive := false }
            session :=
              { s.session with
                temp1 := a, temp2 := b, st := .stopping, stopCause := some .inletOverheat
                causes := { s.session.causes with hostPause := false }, dcRequest := 0
                energiseTimer := none, closeTimer := none, rampTimer := none, openTimer := some s.now
                acK := s.session.acK.commandedOpen, dcK := s.session.dcK.commandedOpen }
            heating := { s.heating with sess := .stopping }
            budgetIn := s.budgetIn ++ posts ++ [.session .stopping s.session.mode] }) ∧
      (contactsOpen s →
        ∃ t, exec (.inletTemperatureChange t1 t2) s = .next t ∧
          stopDone (some .inletOverheat) s.session.fault
            { s with pins := read, session := { s.session with temp1 := a, temp2 := b } } t ∧
          t.session.causes.hostPause = false ∧ t.session.temp1 = a ∧ t.session.temp2 = b ∧
          ∀ q ∈ posts, q ∈ t.budgetIn))

/-- R7, R19, R20, R22, R23: in RUN the lock feedback ends a locking in AUTHORISING, or in UNLOCKING with stop pending or after
CABLE_LOST; not engaged ends an unlocking in FINISHED or IDLE by the plug; a lock lost in AUTHORISING or FINISHED is
FAULTED with LOCK_FAIL, and while energised stops the session with CABLE_LOST; in STOPPING it is noted with LOCK_FAIL, and CABLE_LOST
takes the place of a cause that is no emergency and cuts its ramp; an expired travel is FAULTED. The model's choices are that a stop
with every contact open ends in the same step (log 8), that a lost lock becomes NOT_ENGAGED (log 9), and that the feedback
removes the lock drive and an expired travel leaves its lock state (log 21), and that a pilot that already stood ABSENT is no
CABLE_LOST when the lock engages (log 10). -/
def Obligations.LockTravelEnds : Prop :=
  ∀ s : State, s.power.part = .run →
    let engaged := { s.session with lock := .engaged, lockTimer := none, stopPending := false, lockingLost := false }
    let faulted : FaultKind → State := fun k =>
      { noticed [.session] s with
        session :=
          { s.session with
            st := .faulted, fault := some k, stopPending := false, lockingLost := false, lockTimer := none
            energiseTimer := none, closeTimer := none, openTimer := none, rampTimer := none }
        pins :=
          { s.pins with
            lockDrive := .released, kacDrive := false, kdcpDrive := false, kdcnDrive := false, cpLoad := false }
        heating := { s.heating with sess := .faulted }
        budgetIn := s.budgetIn ++ [.session .faulted s.session.mode] }
    (s.session.st ≠ .locking ∨ s.session.lock ≠ .lockTravel →
      exec .lockEngaged s = .next { s with pins := { s.pins with lockFb := true } }) ∧
    (s.session.st = .locking → s.session.lock = .lockTravel → s.session.stopPending = false →
        s.session.lockingLost = false →
      exec .lockEngaged s = .next
        { noticed [.session] s with
          session := { engaged with st := .authorising }
          pins := { s.pins with lockFb := true, lockDrive := .released, cpLoad := false }
          heating := { s.heating with sess := .authorising }
          budgetIn := s.budgetIn ++ [.session .authorising s.session.mode] }) ∧
    (s.session.st = .locking → s.session.lock = .lockTravel →
        s.session.stopPending = true ∨ s.session.lockingLost = true →
      exec .lockEngaged s = .next
        { noticed [.session] s with
          session := { engaged with st := .unlocking, lock := .unlockTravel, lockTimer := some s.now }
          pins := { s.pins with lockFb := true, lockDrive := .towardReleased, cpLoad := false }
          heating := { s.heating with sess := .unlocking }
          budgetIn := s.budgetIn ++ [.session .unlocking s.session.mode] }) ∧
    (s.session.st = .unlocking → s.session.lock = .unlockTravel →
      let st := if s.session.prox.present then SessState.finished else .idle
      exec .lockReleased s = .next
        { noticed [.session] s with
          session := { s.session with st := st, lock := .notEngaged, lockTimer := none, plugLossSeen := false }
          pins := { s.pins with lockFb := false, lockDrive := .released, cpLoad := false }
          heating := { s.heating with sess := st }
          budgetIn := s.budgetIn ++ [.session st s.session.mode] }) ∧
    (s.session.st = .authorising ∨ s.session.st = .finished → s.session.lock = .engaged →
      exec .lockReleased s = .next
        { faulted .lockFail with
          session := { (faulted .lockFail).session with lock := .notEngaged }
          pins := { (faulted .lockFail).pins with lockFb := false } }) ∧
    (s.session.st ∈ [.energising, .active, .paused] → s.session.lock = .engaged → ¬ contactsOpen s →
      exec .lockReleased s = .next
        { noticed [.session] s with
          session :=
            { s.session with
              lock := .notEngaged, fault := some .lockFail, st := .stopping, stopCause := some .cableLost
              causes := { s.session.causes with hostPause := false }, dcRequest := 0
              energiseTimer := none, closeTimer := none, rampTimer := none, openTimer := some s.now
              acK := s.session.acK.commandedOpen, dcK := s.session.dcK.commandedOpen }
          pins := { s.pins with lockFb := false, kacDrive := false, kdcpDrive := false, kdcnDrive := false }
          heating := { s.heating with sess := .stopping }
          budgetIn := s.budgetIn ++ [.session .stopping s.session.mode] }) ∧
    (let lost : State :=
      { noticed [.session] s with
        session := { s.session with lock := .notEngaged, fault := some .lockFail }
        pins := { s.pins with lockFb := false } }
     (s.session.st ∈ [.energising, .active, .paused] → s.session.lock = .engaged → contactsOpen s →
        ∃ t, exec .lockReleased s = .next t ∧ stopDone (some .cableLost) (some .lockFail) lost t ∧
          t.session.causes.hostPause = false) ∧
     (s.session.st = .stopping → s.session.lock = .engaged →
        let emergency := (s.session.stopCause.getD .hostStop).emergency
        (emergency = true → exec .lockReleased s = .next lost) ∧
        (emergency = false → s.session.rampTimer = none →
          exec .lockReleased s = .next { lost with session := { lost.session with stopCause := some .cableLost } }) ∧
        (emergency = false → s.session.rampTimer ≠ none → ¬ contactsOpen s →
          exec .lockReleased s = .next
            { lost with
              session :=
                { lost.session with
                  stopCause := some .cableLost, energiseTimer := none, closeTimer := none, rampTimer := none
                  openTimer := some s.now, acK := s.session.acK.commandedOpen, dcK := s.session.dcK.commandedOpen }
              pins := { lost.pins with kacDrive := false, kdcpDrive := false, kdcnDrive := false } }) ∧
        (emergency = false → s.session.rampTimer ≠ none → contactsOpen s →
          ∃ t, exec .lockReleased s = .next t ∧ stopDone (some .cableLost) (some .lockFail) lost t))) ∧
    (s.session.lockTimer ≠ none → s.session.st = .locking →
      exec .lockTravelTimeout s = .next (faulted .lockFail)) ∧
    (s.session.lockTimer ≠ none → s.session.st = .unlocking →
      exec .lockTravelTimeout s = .next (faulted .lockStuck))

/-- R10, R13, R14, R17: in RUN a contact that brings its CLOSING contactor, or the second of the DC pair, to CLOSED ends
ENERGISING: in ACTIVE when the pause causes that stand are none, else in PAUSED; in DC the monitor is told. A contact
that completes no contactor that is CLOSING, or closes in any other state, moves its feedback alone. -/
def Obligations.ContactorClosesAndSessionStarts : Prop :=
  ∀ s : State, s.power.part = .run →
    let c : PauseSet :=
      { s.session.causes with noOffer := false, nothingToDo := false, noStages := false, searchHold := s.iso.hold }
    let st := if c = {} then SessState.active else .paused
    let load := decide (s.session.mode = some .ac ∧ s.session.causes.hostPause = false)
    (s.session.st = .energising → s.session.acK = .closing →
      exec (.contactorClosed .ac) s = .next
        { noticed [.session] s with
          session := { s.session with acK := .closed, closeTimer := none, causes := c, st := st }
          pins := { s.pins with kacFb := true, cpLoad := load }
          heating := { s.heating with sess := st }
          budgetIn := s.budgetIn ++ [.session st s.session.mode] }) ∧
    (∀ k, s.session.st = .energising → s.session.dcK = .closing → s.session.acK ≠ .closing →
      (k = .dcPos ∧ s.pins.kdcnFb = true) ∨ (k = .dcNeg ∧ s.pins.kdcpFb = true) →
      exec (.contactorClosed k) s = .next
        { noticed [.session] s with
          session := { s.session with dcK := .closed, closeTimer := none, causes := c, st := st }
          pins := { s.pins with kdcpFb := true, kdcnFb := true, cpLoad := load }
          iso := { s.iso with dcClosed := true }
          heating := { s.heating with sess := st }
          budgetIn := s.budgetIn ++ [.session st s.session.mode] }) ∧
    (∀ k,
      let p := s.pins.setFb k true
      s.session.st ≠ .energising ∨
          (¬ (s.session.acK = .closing ∧ p.kacFb = true) ∧
            ¬ (s.session.dcK = .closing ∧ p.kdcpFb = true ∧ p.kdcnFb = true)) →
        exec (.contactorClosed k) s = .next { s with pins := p })

/-- R10 to R13, R21, R33: in RUN an expired energising wait stops the session with STATION_TIMEOUT, an expired closing
feedback timeout with CONTACTOR, both opening the contactors at once; an expired ramp wait opens them; with every contact
already open the stop ends in the same step (log 8, the model's choice). A station record 1,000 ms old becomes stale and is
posted so; one that stands stale stays so, and with none nothing changes. That it does so in every power state, and not in RUN
alone, is the model's choice too: section 8.1's table and R168 name no such ageing outside RUN (log 5). -/
def Obligations.SessionTimeoutsAct : Prop :=
  ∀ s : State,
    (∀ r, s.session.station = some r → r.stale = false →
      exec .dcStationStale s = .next
        { s with
          session := { s.session with station := some { r with stale := true } }
          budgetIn := s.budgetIn ++ [.stationStale] }) ∧
    ((∀ r, s.session.station = some r → r.stale = true) → exec .dcStationStale s = .next s) ∧
    (s.power.part = .run →
      let opening :=
        { s.session with
          rampTimer := none, closeTimer := none, energiseTimer := none, openTimer := some s.now
          acK := s.session.acK.commandedOpen, dcK := s.session.dcK.commandedOpen }
      let stopped : StopCause → Option FaultKind → State := fun k f =>
        { noticed [.session] s with
          session :=
            { opening with
              st := .stopping, stopCause := some k, fault := f
              causes := { s.session.causes with hostPause := false }, dcRequest := 0 }
          pins := { s.pins with kacDrive := false, kdcpDrive := false, kdcnDrive := false }
          heating := { s.heating with sess := .stopping }
          budgetIn := s.budgetIn ++ [.session .stopping s.session.mode] }
      (s.session.energiseTimer ≠ none → s.session.st = .energising → ¬ contactsOpen s →
        exec .energisingWaitExpiry s = .next (stopped .stationTimeout s.session.fault)) ∧
      (s.session.energiseTimer ≠ none → s.session.st = .energising → contactsOpen s →
        ∃ t, exec .energisingWaitExpiry s = .next t ∧ stopDone (some .stationTimeout) s.session.fault s t ∧
          t.session.causes.hostPause = false) ∧
      (s.session.closeTimer ≠ none → s.session.st = .energising → ¬ contactsOpen s →
        exec .closingFeedbackTimeout s = .next (stopped .contactor (some .contactor))) ∧
      (s.session.closeTimer ≠ none → s.session.st = .energising → contactsOpen s →
        ∃ t, exec .closingFeedbackTimeout s = .next t ∧ stopDone (some .contactor) (some .contactor) s t ∧
          t.session.causes.hostPause = false) ∧
      (s.session.rampTimer ≠ none → s.session.st = .stopping → contactsOpen s →
        ∃ t, exec .stopRampWaitExpiry s = .next t ∧ stopDone s.session.stopCause s.session.fault s t) ∧
      (s.session.rampTimer ≠ none → s.session.st = .stopping → ¬ contactsOpen s →
        exec .stopRampWaitExpiry s = .next
          { s with
            session := opening
            pins := { s.pins with kacDrive := false, kdcpDrive := false, kdcnDrive := false } }))

/-- R12, R19, R21, R23, R25, R136, R148, R150, R154, R159: the last contact that opens ends the stop: the record is priced a
last time, settled, given the meter's figures and the end time, closed with the stop cause and queued for writing, a pending
commit is taken, the lock is kept in FINISHED unless the stop calls for its release, the phases and a station record are posted
gone. An expired opening feedback timeout ends it FAULTED with CONTACTOR. A contact of a CLOSED contactor that opens in ACTIVE
or PAUSED stops the session with CONTACTOR. The model's choices are that this stop ends at once when every contact is then open
(log 8), that the meter's POS_SAT and NEG_SAT stay (log 21), and that a pilot ABSENT that stands without being the stop cause does
not move a locked FINISHED (log 10). -/
def Obligations.StopEndsWhenContactorsOpen : Prop :=
  ∀ s : State, s.power.part = .run →
    (∀ k p, p = s.pins.setFb k false → s.session.st = .stopping → s.session.openTimer ≠ none →
      s.session.acK ≠ .closed → s.session.dcK ≠ .closed → p.allOpen = true →
      ∃ t, exec (.contactorOpened k) s = .next t ∧
        (s.session.fault = none → s.power.hostReset = true ∨
            (s.session.unlockOnStop = false ∧ s.session.stopCause ≠ some .cableLost ∧ s.session.plugLossSeen = false) →
          t.session.st = .finished ∧ t.session.lock = s.session.lock) ∧
        (s.session.fault = none → s.power.hostReset = false → p.lockFb = true →
            (s.session.unlockOnStop = true ∨ s.session.stopCause = some .cableLost ∨ s.session.plugLossSeen = true) →
          t.session.st = .unlocking ∧ t.session.lock = .unlockTravel ∧ t.pins.lockDrive = .towardReleased) ∧
        (∀ f, s.session.fault = some f → t.session.st = .faulted ∧ t.session.fault = some f) ∧
        t.session.openTimer = none ∧ t.session.acK = s.session.acK.settled p.kacFb ∧
        t.session.dcK = s.session.dcK.settled (p.kdcpFb || p.kdcnFb) ∧ t.session.station = none ∧
        BudgetPosting.phases 0 ∈ t.budgetIn ∧ (s.session.station ≠ none → BudgetPosting.stationAbsent ∈ t.budgetIn) ∧
        t.session.stopCause = s.session.stopCause ∧ t.pins.cpLoad = false ∧
        t.iso = (if s.session.mode = some .dc then s.iso.dcOpened s.now else s.iso) ∧
        recordClosed (s.session.stopCause.getD .hostStop) s t ∧
        onlyChanges [.session, .pins, .heating, .iso, .meter, .billing, .nv, .link, .budgetIn] s t) ∧
    (s.session.openTimer ≠ none → s.session.st = .stopping →
      ∃ t, exec .openingFeedbackTimeout s = .next t ∧ t.session.st = .faulted ∧ t.session.fault = some .contactor ∧
        t.session.openTimer = none ∧ t.session.station = none ∧ BudgetPosting.phases 0 ∈ t.budgetIn ∧
        (s.session.station ≠ none → BudgetPosting.stationAbsent ∈ t.budgetIn) ∧
        t.pins.kacDrive = false ∧ t.pins.kdcpDrive = false ∧ t.pins.kdcnDrive = false ∧ t.pins.cpLoad = false ∧
        recordClosed (s.session.stopCause.getD .hostStop) s t ∧
        onlyChanges [.session, .pins, .heating, .iso, .meter, .billing, .nv, .link, .budgetIn] s t) ∧
    (∀ k p, p = s.pins.setFb k false → s.session.st = .active ∨ s.session.st = .paused →
      (if k = .ac then s.session.acK else s.session.dcK) = .closed →
      (p.allOpen = false →
        exec (.contactorOpened k) s = .next
          { noticed [.session] s with
            session :=
              { s.session with
                fault := some .contactor, st := .stopping, stopCause := some .contactor
                causes := { s.session.causes with hostPause := false }, dcRequest := 0
                energiseTimer := none, closeTimer := none, rampTimer := none, openTimer := some s.now
                acK := s.session.acK.commandedOpen, dcK := s.session.dcK.commandedOpen }
            pins := { p with kacDrive := false, kdcpDrive := false, kdcnDrive := false }
            heating := { s.heating with sess := .stopping }
            budgetIn := s.budgetIn ++ [.session .stopping s.session.mode] }) ∧
      (p.allOpen = true →
        ∃ t, exec (.contactorOpened k) s = .next t ∧
          stopDone (some .contactor) (some .contactor) { s with pins := p } t ∧ t.session.causes.hostPause = false))

/-! ### The power budget (chapter 2) -/

/-- R32, R38, R39, R188: the budget's settings are clamped, taken whole and echoed, and each that makes a difference is
followed by an evaluation; a table that is not rising, or out of range, is refused BAD_TABLE and changes nothing. -/
def Obligations.BudgetSettingsTaken : Prop :=
  ∀ (s : State) (tag : Byte), mayServe s →
    (∀ v i h,
      let limits : PackLimits :=
        { packV := min 10000 v, maxI := min 5000 i, heat := min 10000 h, stamp := s.now, present := true
          stale := false }
      ∃ t, exec (.setPackLimits tag v i h) s = .next t ∧
        t.budget.input = { s.budget.input with limits := limits } ∧
        t.budget.params = s.budget.params ∧ t.budget.table = s.budget.table ∧
        t.link.replies =
          s.link.replies ++
            [⟨0xA0, tag, byte Status.ok.code :: (be 2 limits.packV ++ be 2 limits.maxI ++ be 2 limits.heat), .plain⟩] ∧
        (t.budget.input ≠ s.budget.input → evaluated s t) ∧
        (t.budget.input = s.budget.input → onlyChanges [.link] s t)) ∧
    (∀ c a h,
      let p : BudgetParams := { cap := min 800 c, aux := min 3000 a, share := min 1000 h }
      ∃ t, exec (.setBudgetParams tag c a h) s = .next t ∧
        t.budget.params = p ∧ t.budget.input = s.budget.input ∧ t.budget.table = s.budget.table ∧
        t.link.replies =
          s.link.replies ++
            [⟨0xA2, tag, byte Status.ok.code :: (be 2 p.cap ++ be 2 p.aux ++ be 2 p.share), .plain⟩] ∧
        (p ≠ s.budget.params → evaluated s t) ∧ (p = s.budget.params → onlyChanges [.link] s t)) ∧
    (∀ points : List (Int × Nat), points.length = 8 →
      let legal :=
        points.Pairwise (fun p q => p.1 < q.1) ∧ ∀ p ∈ points, -80 ≤ p.1 ∧ p.1 ≤ 250 ∧ p.2 ≤ 1000
      (¬ legal → refusedWith (.setDerateTable tag points) 0x21 tag .badTable s) ∧
      (legal → ∃ t, exec (.setDerateTable tag points) s = .next t ∧ t.budget.table = points ∧
        t.budget.params = s.budget.params ∧ t.budget.input = s.budget.input ∧ evaluated s t ∧
        t.link.replies = s.link.replies ++ [⟨0xA1, tag, [byte Status.ok.code], .plain⟩]))

/-- R30, R32, R37, R41: the budget period, a posting that changes the input record and the staleness of the pack limits
are each followed by an evaluation in RUN; a posting that changes nothing, or comes outside RUN, by none. -/
def Obligations.BudgetEvaluations : Prop :=
  ∀ s : State,
    (s.power.part = .run → s.budget.period ≠ none →
      ∃ t, exec .budgetPeriodExpiry s = .next t ∧ t.budget.period = some s.now ∧ t.budget.input = s.budget.input ∧
        t.budget.params = s.budget.params ∧ t.budget.table = s.budget.table ∧ evaluated s t) ∧
    (∀ w, (∀ p ∈ s.budgetIn, p.writer ≠ w) → exec (.budgetPostingArrival w) s = .next s) ∧
    (∀ w pre p rest, s.budgetIn = pre ++ p :: rest → (∀ q ∈ pre, q.writer ≠ w) → p.writer = w →
      (s.budget.input.take p = s.budget.input ∨ s.power.part ≠ .run →
        exec (.budgetPostingArrival w) s = .next
          { s with
            budgetIn := pre ++ rest, budget := { s.budget with input := s.budget.input.take p } }) ∧
      (s.budget.input.take p ≠ s.budget.input → s.power.part = .run →
        ∃ t, exec (.budgetPostingArrival w) s = .next t ∧ t.budget.input = s.budget.input.take p ∧
          t.budget.params = s.budget.params ∧ t.budget.table = s.budget.table ∧ evaluated s t ∧
          ∃ more, t.budgetIn = pre ++ rest ++ more)) ∧
    (s.power.part = .run → s.budget.input.limits.present = true → s.budget.input.limits.stale = false →
      ∃ t, exec .packLimitsStale s = .next t ∧
        t.budget.input = { s.budget.input with limits := { s.budget.input.limits with stale := true } } ∧
        t.budget.params = s.budget.params ∧ t.budget.table = s.budget.table ∧ evaluated s t)

/-- R4: the offer formed from the duty, row by row, its limit and its two worked values. -/
def Obligations.OfferOfDuty : Prop :=
  (∀ d, d ≤ 79 → offerOfDuty d = 0) ∧ (∀ d, 80 ≤ d → d ≤ 99 → offerOfDuty d = 60) ∧
    (∀ d, 100 ≤ d → d ≤ 850 → offerOfDuty d = d * 6 / 10 ∧ 60 ≤ offerOfDuty d ∧ offerOfDuty d ≤ 510) ∧
    (∀ d, 851 ≤ d → d ≤ 960 →
      offerOfDuty d = (d - 640) * 25 / 10 ∧ 527 ≤ offerOfDuty d ∧ offerOfDuty d ≤ 800) ∧
    (∀ d, 961 ≤ d → d ≤ 1000 → offerOfDuty d = 0) ∧
    (∀ d, offerOfDuty d ≤ 800) ∧ offerOfDuty 534 = 320 ∧ offerOfDuty 900 = 650

/-- R42: the inlet current limit, its law, the no-offer flag it gives an AC session, and that it stands in every
evaluation record but moves the inlet power of no DC session. -/
def Obligations.InletCurrentLimit : Prop :=
  ∀ (i : BudgetInput) (p : BudgetParams) (table : List Point),
    let e := evaluate i p table
    let x := min (min i.offer i.cable) p.cap * i.derate / 1000
    (x < 60 → e.iLim = 0) ∧ (60 ≤ x → e.iLim = x) ∧
      (i.derate ≤ 1000 → e.iLim ≤ i.offer ∧ e.iLim ≤ i.cable ∧ e.iLim ≤ p.cap) ∧
      (i.mode = some .ac → (e.noOffer = true ↔ e.iLim = 0)) ∧
      (i.mode = some .dc → ∀ o c d k,
        (evaluate { i with offer := o, cable := c, derate := d } { p with cap := k } table).pInlet = e.pInlet)

/-- R31, R33, R43, R44, R45, R46, R47, R49, R50, R51: the figures of an evaluation, its three flags of the draw status, and
what is posted. Whether a DC station offers is stated for ACTIVE and PAUSED, and in every state of a station whose record is
not FRESH or whose voltage does not reach V_pack. -/
def Obligations.EvaluationFigures : Prop :=
  ∀ (i : BudgetInput) (p : BudgetParams) (table : List Point),
    let e := evaluate i p table
    let fresh := i.limits.present = true ∧ i.limits.stale = false
    let drawing := i.sess = .active ∨ i.sess = .paused
    let declared := if i.phases = 1 then [i.v1] else if i.phases = 3 then [i.v1, i.v2, i.v3] else []
    let present := declared.filter fun v => decide (1800 < v)
    let gates := i.gating = true ∧ i.preferred = false ∧ e.derate ≠ 0
    let withdrawn := i.mode = some .ac ∧ drawing ∧ e.pInlet = 0 ∧ e.noOffer = false
    let wanted :=
      (withdrawn ∧ (0 < e.pPack ∨ (i.demands = true ∧ e.permitted = true ∧ ¬ gates))) ∨
        (¬ withdrawn ∧ (0 < e.charge ∨ (0 < e.grant ∧ i.demands = true)))
    e.nPh = present.length ∧ (present = [] → e.vMin = 0) ∧
    (present ≠ [] → e.vMin ∈ present ∧ ∀ v ∈ present, e.vMin ≤ v) ∧
    e.permitted = gridPermitted i.gridMode i.window ∧
    (i.mode = some .dc →
      (drawing → (e.noOffer = true ↔ e.pInlet = 0)) ∧
        (i.stState ≠ .fresh ∨ e.vPack = none ∨ (∃ v, e.vPack = some v ∧ i.stMaxV < v) → e.noOffer = true)) ∧
    (e.noDraw = true ↔ ¬ wanted ∧ e.noOffer = false ∧ i.searchHold = false) ∧
    (e.noStages = true ↔
      i.mode = some .ac ∧ 0 < e.charge ∧ i.row1.eligible = false ∧ i.row2.eligible = false ∧ i.row3.eligible = false) ∧
    (∀ v, i.packV = some v → 0 < v → e.vPack = some v ∧ e.vSource = .meter) ∧
    (i.packV = none ∨ i.packV = some 0 →
      (fresh ∧ 0 < i.limits.packV → e.vPack = some i.limits.packV ∧ e.vSource = .limits) ∧
      (¬ (fresh ∧ 0 < i.limits.packV) → e.vPack = none)) ∧
    (drawing → i.mode = some .ac → e.pInlet = e.nPh * e.vMin * e.iLim / 100) ∧
    (∀ v, drawing → i.mode = some .dc → i.stState = .fresh → e.vPack = some v → v ≤ i.stMaxV →
      e.pInlet = min i.stMaxP (i.stMaxI * v / 100)) ∧
    (¬ drawing ∨ (i.mode = some .dc ∧ (i.stState ≠ .fresh ∨ e.vPack = none ∨ ∃ v, e.vPack = some v ∧ i.stMaxV < v)) →
      e.pInlet = 0) ∧
    e.pAvail = (if i.searchHold then 0 else e.pInlet - p.aux) ∧
    (¬ fresh ∨ e.vPack = none ∨ i.limits.maxI = 0 ∨ e.derate = 0 → e.pPack = 0) ∧
    (∀ v, fresh → e.vPack = some v → e.pPack = v * i.limits.maxI * e.derate / 100000) ∧
    e.grant ≤ e.pAvail ∧ (i.demands = false ∨ e.permitted = false → e.grant = 0) ∧
    (e.permitted = true → i.demands = true → e.derate = 0 → e.grant = e.pAvail) ∧
    (i.gating = true → i.preferred = false → e.derate ≠ 0 → e.grant = 0) ∧
    (e.permitted = true → i.demands = true → (i.gating = false ∨ i.preferred = true) → e.derate ≠ 0 →
      e.grant = min e.pAvail (max (e.pAvail * p.share / 1000) (e.pAvail - e.pPack))) ∧
    e.charge = min (e.pAvail - i.heatOn) e.pPack ∧
    (i.mode ≠ some .dc ∨ e.vPack = none → e.dcRequest = 0) ∧
    (∀ v, i.mode = some .dc → e.vPack = some v →
      e.dcRequest = e.charge * 100 / v ∧ e.dcRequest ≤ i.stMaxI) ∧
    (i.sess = .active →
      e.grantPosted = e.grant ∧ e.chargePosted = e.charge ∧ e.dcRequestPosted = e.dcRequest ∧
        e.posted 1 = e.set1 ∧ e.posted 2 = e.set2 ∧ e.posted 3 = e.set3) ∧
    (i.sess ≠ .active →
      e.grantPosted = 0 ∧ e.chargePosted = 0 ∧ e.dcRequestPosted = 0 ∧ ∀ a, e.posted a = 0) ∧
    e.heatAllowance = (if i.limits.present && !i.limits.stale then i.limits.heat else 0)

/-- R40: the derate of an evaluation is read from the table at the posted minimum zone temperature. With a legal table it
lies within 0 to 1,000; below the first point and with the temperature absent it is the first point's, from the last
point on the last's, at a point that point's, and between two points the floored interpolation. -/
def Obligations.DerateReadFromTable : Prop :=
  (∀ (i : BudgetInput) (p : BudgetParams) (table : List Point),
    (evaluate i p table).derate = derateAt table i.minTemp) ∧
  (derateAt factoryTable (some (-13)) = 205 ∧ derateAt factoryTable (some 100) = 500 ∧
    derateAt factoryTable (some 101) = 450) ∧
  ∀ table : List Point, table ≠ [] → table.Pairwise (fun p q => p.1 < q.1) → (∀ p ∈ table, p.2 ≤ 1000) →
    (∀ t, derateAt table t ≤ 1000) ∧ derateAt table none = (table.headD (0, 0)).2 ∧
      (∀ t : Int, t < (table.headD (0, 0)).1 → derateAt table (some t) = (table.headD (0, 0)).2) ∧
      (∀ p ∈ table, derateAt table (some p.1) = p.2) ∧
      (∀ p, table.getLast? = some p → ∀ t : Int, p.1 ≤ t → derateAt table (some t) = p.2) ∧
      ∀ pre p q post, table = pre ++ p :: q :: post → ∀ t : Int, p.1 ≤ t → t < q.1 →
        (derateAt table (some t) : Int) = p.2 + (t - p.1) * ((q.2 : Int) - p.2) / (q.1 - p.1)

/-- R48: in an AC session the setpoints sum to the lesser of the charge target and the eligible headrooms, none above its
own headroom; no charger has more than one below its own headroom has, but for one watt at the lower address. In any
other session each is 0. -/
def Obligations.ChargerSplitFillsEvenly : Prop :=
  ∀ (i : BudgetInput) (p : BudgetParams) (table : List Point),
    let e := evaluate i p table
    let head : ChargerRow → Nat := fun r => if r.eligible then r.headroom else 0
    (i.mode = some .ac → e.set1 + e.set2 + e.set3 = min e.charge (head i.row1 + head i.row2 + head i.row3)) ∧
    (i.mode ≠ some .ac → e.set1 = 0 ∧ e.set2 = 0 ∧ e.set3 = 0) ∧
    e.set1 ≤ head i.row1 ∧ e.set2 ≤ head i.row2 ∧ e.set3 ≤ head i.row3 ∧
    (i.mode = some .ac →
      (e.set1 < head i.row1 → e.set2 ≤ e.set1 ∧ e.set3 ≤ e.set1) ∧
      (e.set2 < head i.row2 → e.set1 ≤ e.set2 + 1 ∧ e.set3 ≤ e.set2) ∧
      (e.set3 < head i.row3 → e.set1 ≤ e.set3 + 1 ∧ e.set2 ≤ e.set3 + 1))

/-! ### Battery heating (chapter 3) -/

/-- R60, R70, R72, R73, R188: a zone's parameters, the policy and the departure timer are taken, clamped and echoed; the
rows are worked again at once, a PACK source loses its permission with packHeat, and the window is opened or closed by
the count. Codes outside their sets and a zone outside 1 to 8 are refused BAD_VALUE. That a disabled ISOLATED zone stays
ISOLATED, and that a zone in its hysteresis band demands only while HEATING, is log 21's reading. -/
def Obligations.HeatSettingsTaken : Prop :=
  ∀ (s : State) (tag : Byte), mayServe s →
    (∀ z e t h, 1 < e ∨ z = 0 ∨ 8 < z → refusedWith (.setZone tag z e t h) 0x30 tag .badValue s) ∧
    (∀ z e (t : Int) h, e ≤ 1 → 1 ≤ z → z ≤ 8 →
      let target := max (-40) (min 80 t)
      let hyst := max 1 (min 20 h)
      ∃ u, exec (.setZone tag z e t h) s = .next u ∧
        u.heating.zones =
          (s.heating.zones.modify (z - 1) fun x =>
            { x with enabled := decide (e = 1), target := target, hyst := hyst }).map Zone.refresh ∧
        u.heating.policy = s.heating.policy ∧ u.heating.departure = s.heating.departure ∧
        u.heating.source = s.heating.source ∧ u.heating.grant = s.heating.grant ∧
        u.heating.allowance = s.heating.allowance ∧
        (∀ n, 1 ≤ n → n ≤ 8 → (s.zone n).heat = .heating → (u.zone n).heat ≠ .heating →
          n + 3 ≤ s.stage.nodes.length → (u.node (n + 3)).commanded = 0) ∧
        u.link.replies =
          s.link.replies ++
            [⟨0xB0, tag, byte Status.ok.code :: ([byte z, flag (decide (e = 1))] ++ beInt 2 target ++ [byte hyst]),
              .plain⟩] ∧
        onlyChanges [.heating, .stage, .budgetIn, .link] s u) ∧
    (∀ m g p, 2 < m ∨ 1 < g ∨ 1 < p → refusedWith (.setHeatPolicy tag m g p) 0x31 tag .badValue s) ∧
    (∀ m g p k, gridMode? m = some k → g ≤ 1 → p ≤ 1 →
      let lost := s.heating.source = .pack ∧ p = 0
      ∃ u, exec (.setHeatPolicy tag m g p) s = .next u ∧
        u.heating.policy = { gridMode := k, gating := decide (g = 1), packHeat := decide (p = 1) } ∧
        (lost → u.heating.source = .none ∧ ∀ z ∈ u.heating.zones, z.heat ≠ .heating) ∧
        (¬ lost → u.heating.source = s.heating.source ∧ u.heating.zones = s.heating.zones.map Zone.refresh) ∧
        (∃ pre, u.budgetIn = s.budgetIn ++ pre ++ [.gridMode k, .gating (decide (g = 1))]) ∧
        u.link.replies = s.link.replies ++ [⟨0xB1, tag, [byte Status.ok.code], .plain⟩] ∧
        onlyChanges [.heating, .stage, .budgetIn, .link] s u) ∧
    (∀ n m l, 1 < m → refusedWith (.setDeparture tag n m l) 0x32 tag .badValue s) ∧
    (∀ n m l, m ≤ 1 →
      let count := min 10080 n
      let lead := max 10 (min 240 l)
      let d : Departure :=
        { initial := count, count := count, mode := if m = 0 then .oneShot else .periodic, lead := lead
          minuteStamp := s.now, window := decide (0 < count ∧ count ≤ lead) }
      let body := byte Status.ok.code :: (be 2 count ++ [byte m, byte lead])
      (d.window = s.heating.departure.window →
        exec (.setDeparture tag n m l) s = .next
          { replied s 0x32 tag body with heating := { s.heating with departure := d } }) ∧
      (d.window ≠ s.heating.departure.window →
        exec (.setDeparture tag n m l) s = .next
          { replied (noticed [.departure] s) 0x32 tag body with
            heating := { s.heating with departure := d }, budgetIn := s.budgetIn ++ [.window d.window] }))

/-- R53, R55, R56, R65: every step keeps the ranks of the configured zones a permutation, and every zone in the heat state and
with the deficit that its row gives it. Where the rules leave that state open (a zone in its hysteresis band, an ISOLATED one that
is disabled or ceases to be configured) it is log 21's: the model's choice. -/
def Obligations.RanksKeptByEveryStep : Prop :=
  ∀ s t : State, step s = .next t → (rankLaw s → rankLaw t) ∧ (zoneLaw s → zoneLaw t)

/-- R61, R62, R64, R65, R66, R67: at a heat period the source is chosen afresh, no zone heats without a source, and the HEATING
zones' ratings sum to no more than the limit in force. The HEATING zones that still demand are kept, but for those shed to
the limit; the rest of it is arbitrated, round by round to the zone of the greatest need, until no zone that demands fits
what is left, and the winners' ranks rotate. Every zone chosen anew demanded, and its rating is commanded.
That a zone in its hysteresis band demands only while HEATING, and that one shed there is IDLE, is log 21's reading, and that a
zone held FAILED is no candidate is log 10's. -/
def Obligations.HeatPeriodStaysInLimit : Prop :=
  ∀ s : State, s.power.part = .run → s.heating.heatPeriod ≠ none → s.heating.zones.length = 8 →
      (∀ z ∈ s.heating.zones, 1 ≤ z.hyst) →
    ∃ t, exec .heatPeriodExpiry s = .next t ∧
      t.heating.source =
        (if s.heating.sess = .active ∧
            gridPermitted s.heating.policy.gridMode s.heating.departure.window = true then HeatSource.grid
          else if s.heating.departure.window = true ∧ s.heating.policy.packHeat = true ∧ 0 < s.heating.allowance then
            .pack
          else .none) ∧
      t.heating.heatPeriod = some s.now ∧ heatLaw t ∧ t.heating.grant = s.heating.grant ∧
      t.heating.allowance = s.heating.allowance ∧ t.heating.policy = s.heating.policy ∧
      (∀ n, 1 ≤ n → n ≤ 8 → (t.zone n).heat = .heating → (s.zone n).demands = true) ∧
      (∀ n, 1 ≤ n → n ≤ 8 → (t.zone n).heat ≠ .heating → (t.zone n).demands = true → (t.zone n).failed = false →
        (t.zone n).heat = .waiting) ∧
      (t.heating.source = .none → heatingZones t = [] ∧ t.heating.zones.map Zone.rank = s.heating.zones.map Zone.rank) ∧
      (t.heating.source ≠ .none → zoneLaw s → rankLaw s →
        let focus := (heatingZones s).filter fun n => (s.zone n).demands
        ∃ won : List Nat,
          let kept := focus.filter fun n => decide (n ∈ heatingZones t ∧ n ∉ won)
          shedTo s t.heating.limit focus kept ∧ (∀ n ∈ heatingZones t, n ∈ kept ∨ n ∈ won) ∧ arbitrated s t won) ∧
      (∀ n, 1 ≤ n → n ≤ 8 → (t.zone n).heat = .heating → (s.zone n).heat ≠ .heating →
        s.stage.nodes.length = 11 → (s.node (n + 3)).isolated = false →
        (t.node (n + 3)).commanded = ((s.zone n).rating).getD 0) ∧
      (∀ n, 1 ≤ n → n ≤ 8 → (t.zone n).heat ≠ .heating → (s.zone n).heat = .heating → s.stage.nodes.length = 11 →
        (t.node (n + 3)).commanded = 0) ∧
      (heatSum t.heating.zones ≠ s.heating.postedHeatOn → t.heating.source = .grid →
        BudgetPosting.heatOn (heatSum t.heating.zones) ∈ t.budgetIn) ∧
      onlyChanges [.heating, .stage, .budgetIn, .link] s t

/-- R62, R67: the oldest posted grant and allowance are taken; a sum above the limit is shed to it, the zone with the
smallest deficit first and the lower rank among equals, and no further than the limit; each zone shed is commanded 0, no rank
changes and no zone is added. -/
def Obligations.HeatGrantTakenAndShed : Prop :=
  (∀ s : State, s.power.part = .run → s.heatIn = [] → exec .heatGrantTaken s = .next s) ∧
  ∀ (s : State) (p : HeatPosting) (rest : List HeatPosting), s.power.part = .run → s.heatIn = p :: rest →
    s.heating.zones.length = 8 → (∀ z ∈ s.heating.zones, z.refresh = z) →
    ∃ t, exec .heatGrantTaken s = .next t ∧
      t.heating.grant = p.grant ∧ t.heating.allowance = p.allowance ∧ t.heating.source = s.heating.source ∧
      t.heatIn = rest ∧ heatLaw t ∧
      (heatSum s.heating.zones ≤ t.heating.limit → t.heating.zones = s.heating.zones) ∧
      (∀ n, (t.zone n).heat = .heating → (s.zone n).heat = .heating) ∧
      (∀ m n, 1 ≤ m → m ≤ 8 → 1 ≤ n → n ≤ 8 → (s.zone m).heat = .heating → (t.zone m).heat ≠ .heating →
        (t.zone n).heat = .heating →
        (s.zone m).deficit < (s.zone n).deficit ∨
          ((s.zone m).deficit = (s.zone n).deficit ∧ (s.zone m).rank.getD 0 ≤ (s.zone n).rank.getD 0)) ∧
      (rankLaw s → shedTo s t.heating.limit (heatingZones s) (heatingZones t)) ∧
      t.heating.zones.map Zone.rank = s.heating.zones.map Zone.rank ∧
      (∀ n, n ∈ heatingZones s → n ∉ heatingZones t → s.stage.nodes.length = 11 → (t.node (n + 3)).commanded = 0) ∧
      onlyChanges [.heating, .stage, .budgetIn, .link, .heatIn] s t

/-- R54, R71, R72, R76: a reply 2,000 ms old makes the zone's temperature absent; the on-time tick adds a second to
every HEATING zone up to its limit; the departure minute counts down, closes the window at 0 and loads a PERIODIC
timer again. In STANDBY and SLEEP an opening window is a wake source. -/
def Obligations.HeatTimersRun : Prop :=
  ∀ s : State,
    (∀ z, s.power.part = .run → (s.zone z).replyStamp = none → exec (.heaterReplyAgeExpiry z) s = .next s) ∧
    (∀ z, s.power.part = .run → 1 ≤ z → z ≤ s.heating.zones.length → (s.zone z).replyStamp ≠ none →
      ∃ t, exec (.heaterReplyAgeExpiry z) s = .next t ∧
        t.heating.zones = (s.heating.zones.modify (z - 1) fun x => { x with temp := none }).map Zone.refresh ∧
        (t.zone z).temp = none ∧ (t.zone z).heat ≠ .heating ∧
        onlyChanges [.heating, .stage, .budgetIn, .link] s t) ∧
    (s.power.part = .run → s.heating.onTick ≠ none →
      exec .onTimeTick s = .next
        { s with
          heating :=
            { s.heating with
              onTick := some s.now
              zones := s.heating.zones.map fun z =>
                if z.heat = .heating then { z with onTime := min 16777215 (z.onTime + 1) } else z } }) ∧
    (s.power.part = .run ∨ s.power.part = .supplyHold →
      let d := { s.heating.departure with minuteStamp := s.now }
      (d.count = 0 → exec .departureMinute s = .next { s with heating := { s.heating with departure := d } }) ∧
      (2 ≤ d.count →
        let w := decide (d.count - 1 ≤ d.lead)
        (w = d.window →
          exec .departureMinute s = .next
            { s with heating := { s.heating with departure := { d with count := d.count - 1 } } }) ∧
        (w ≠ d.window →
          exec .departureMinute s = .next
            { noticed [.departure] s with
              heating := { s.heating with departure := { d with count := d.count - 1, window := w } }
              budgetIn := s.budgetIn ++ [.window w] })) ∧
      (d.count = 1 → d.mode = .oneShot →
        exec .departureMinute s = .next
          { noticed [.departure] s with
            heating := { s.heating with departure := { d with count := 0, window := false } }
            budgetIn := s.budgetIn ++ (if d.window then [.window false] else []) }) ∧
      (d.count = 1 → d.mode = .periodic →
        ∃ t, exec .departureMinute s = .next t ∧
          t.heating =
            { s.heating with
              departure := { d with count := d.initial, window := decide (0 < d.initial ∧ d.initial ≤ d.lead) } } ∧
          onlyChanges [.heating, .link, .budgetIn] s t)) ∧
    (s.power.part = .standby ∨ s.power.part = .sleep → s.stage.entryWait = false →
      s.heating.departure.window = false → s.heating.departure.count = s.heating.departure.lead + 1 →
      1 ≤ s.heating.departure.lead →
      ∃ t, exec .departureMinute s = .next t ∧ t.power.part = .run ∧ t.power.lastWake = .preheat ∧
        t.heating.departure.window = true ∧ t.heating.departure.count = s.heating.departure.lead)

/-! ### Insulation supervision (chapter 4) -/

/-- R78, R86, R95, R102, R103, R104: the monitor's settings are checked in order and taken whole: BAD_VALUE for a field
out of its range, STATE while SEARCHING; the monitor then leaves or enters OFF as its conditions say. CLEAR_ISOLATION
forgets its branches, queues the memory for NV and RECONNECT for the ACTIVE nodes. A request
that is both out of range and made while SEARCHING is answered BAD_VALUE: the model's reading, log 10. -/
def Obligations.IsoSettingsTaken : Prop :=
  ∀ (s : State) (tag : Byte), mayServe s →
    (∀ e m f w x c,
      let legal := e ≤ 1 ∧ m ≤ 1 ∧ f ≤ 3 ∧ 1 ≤ c ∧ c < x ∧ x < w ∧ w ≤ 10000
      (¬ legal → refusedWith (.setIsoParams tag e m f w x c) 0x40 tag .badValue s) ∧
      (legal → s.iso.st = .searching → refusedWith (.setIsoParams tag e m f w x c) 0x40 tag .state s) ∧
      (legal → s.iso.st ≠ .searching → ∀ pm pf, profMode? m = some pm → profile? f = some pf →
        let runs := e = 1 ∧ packAlive s.iso.vPack = true
        ∃ t, exec (.setIsoParams tag e m f w x c) s = .next t ∧
          t.iso.params =
            { enabled := decide (e = 1), profMode := pm, fixed := pf, warn := w, fault := x, critical := c } ∧
          (w ≠ s.iso.params.warn ∨ x ≠ s.iso.params.fault ∨ c ≠ s.iso.params.critical → t.iso.streaks = {}) ∧
          (pm = .fixed → t.iso.profile = pf) ∧
          (t.iso.st = .off ↔ ¬ runs) ∧
          (runs → s.iso.st = .off →
            t.iso.st = .measuring ∧ t.iso.assess = .unknown ∧ t.iso.source = .own ∧ t.iso.last = none ∧
              t.iso.period = some s.now ∧ (pm = .auto → t.iso.profile = .p1)) ∧
          (runs → s.iso.st ≠ .off → t.iso.st = s.iso.st ∧ t.iso.assess = s.iso.assess ∧ t.iso.last = s.iso.last) ∧
          (¬ runs → s.iso.st ≠ .off →
            t.iso.assess = .unknown ∧ t.iso.source = .own ∧ t.iso.last = none ∧ t.iso.period = none ∧
              t.iso.listenTimer = none ∧ t.session.causes.searchHold = false) ∧
          t.link.replies = s.link.replies ++ [⟨0xC0, tag, [byte Status.ok.code], .plain⟩] ∧
          onlyChanges [.iso, .session, .pins, .heating, .link, .budgetIn] s t)) ∧
    (∀ l,
      let legal := (∀ a ∈ l, 1 ≤ a ∧ a ≤ 11) ∧ l.Nodup
      (¬ legal → refusedWith (.setSearchList tag l) 0x41 tag .badValue s) ∧
      (legal → s.iso.st = .searching → refusedWith (.setSearchList tag l) 0x41 tag .state s) ∧
      (legal → s.iso.st ≠ .searching →
        exec (.setSearchList tag l) s = .next
          { replied s 0x41 tag [byte Status.ok.code] with
            iso := { s.iso with searchList := l } })) ∧
    (∀ a, a ≠ 255 → a = 0 ∨ 11 < a → refusedWith (.clearIsolation tag a) 0x43 tag .badValue s) ∧
    (∀ a, 1 ≤ a → a ≤ 11 → s.iso.search.under = some a → refusedWith (.clearIsolation tag a) 0x43 tag .state s) ∧
    (∀ a, a = 255 ∨ (1 ≤ a ∧ a ≤ 11 ∧ s.iso.search.under ≠ some a) →
      let left := if a = 255 then [] else s.iso.memory.filter fun b => b != a
      ∃ t, exec (.clearIsolation tag a) s = .next t ∧ t.iso = { s.iso with memory := left } ∧
        (left ≠ s.iso.memory →
          (∃ w ∈ t.nv.queue, w.content = .isoMemory left) ∧ NoticeKind.insulation ∈ t.link.notices) ∧
        (∀ b, (a ≠ 255 ∧ b = a) ∨ (a = 255 ∧ b ∈ s.iso.memory) → (s.node b).st = .active →
          (⟨.reconnect, b⟩ : StageEntry) ∈ t.stage.urgent) ∧
        t.link.replies = s.link.replies ++ [⟨0xC3, tag, [byte Status.ok.code], .plain⟩] ∧
        onlyChanges [.iso, .stage, .heating, .nv, .link, .budgetIn] s t)

/-- R16, R90, R96, R97, R100: START_SEARCH is taken in MEASURING with the assessment WARNING or FAULT and a search list:
the session is held, and the first branch that can be tested is isolated, or waits for its charger's setpoint to read
0; with none the search ends NOT_FOUND. In every other case it is refused STATE. -/
def Obligations.SearchStarts : Prop :=
  ∀ (s : State) (tag : Byte), mayServe s →
    let starts := s.iso.st = .measuring ∧ (s.iso.assess = .warning ∨ s.iso.assess = .fault)
    (¬ starts ∨ s.iso.searchList = [] → refusedWith (.startSearch tag) 0x44 tag .state s) ∧
    (∀ a rest, starts → s.iso.searchList = a :: rest → (s.node a).st = .active → (s.node a).isolated = false →
      a ∉ s.iso.memory →
      ∃ t, exec (.startSearch tag) s = .next t ∧ t.iso.st = .searching ∧ t.iso.assess = s.iso.assess ∧
        t.iso.search.outcome = .running ∧ t.iso.search.origin = .host ∧ t.iso.search.cursor = 0 ∧
        t.iso.search.under = some a ∧ t.iso.search.marks = s.iso.searchList.map (fun _ => Mark.pending) ∧
        (3 < a ∨ (s.node a).commanded = 0 →
          t.iso.search.phase = some .isolateWait ∧ t.iso.search.confirmTimer = some s.now ∧
            (⟨.isolate, a⟩ : StageEntry) ∈ t.stage.urgent) ∧
        (a ≤ 3 → (s.node a).commanded ≠ 0 →
          t.iso.search.phase = some .setpointWait ∧ t.stage = s.stage) ∧
        t.session.causes.searchHold = true ∧
        (s.session.st = .active → s.session.causes.searchHold = false → t.session.st = .paused) ∧
        BudgetPosting.searchHold true ∈ t.budgetIn ∧ NoticeKind.insulation ∈ t.link.notices ∧
        t.link.replies = s.link.replies ++ [⟨0xC4, tag, [byte Status.ok.code], .plain⟩] ∧
        onlyChanges [.iso, .session, .pins, .heating, .stage, .link, .budgetIn] s t) ∧
    (starts → s.iso.assess = .warning → s.iso.searchList ≠ [] → (∀ a ∈ s.iso.searchList, (s.node a).st ≠ .active) →
      ∃ t, exec (.startSearch tag) s = .next t ∧
        t.iso.st = (if s.iso.dcContext && s.iso.stationMon then .yielded else .measuring) ∧
        t.iso.search.outcome = .notFound ∧ t.iso.search.under = none ∧ t.iso.search.phase = none ∧
        t.iso.search.marks = s.iso.searchList.map (fun _ => Mark.skipped) ∧ t.session.causes.searchHold = false ∧
        onlyChanges [.iso, .session, .pins, .heating, .link, .budgetIn] s t)

/-- R78, R79, R91, R92, R100: a posted pack voltage takes the monitor out of OFF above 50.0 V and into OFF at or below
it, aborting a search; the end of the listen window yields to a foreign monitor, and measures otherwise. That the working
thresholds outlast the result given up is the model's choice, log 21. -/
def Obligations.MonitorStateMoves : Prop :=
  ∀ s : State, s.power.part = .run →
    (s.isoIn = [] → exec .packVoltagePosting s = .next s) ∧
    (∀ v rest, s.isoIn = v :: rest →
      let alive := s.iso.params.enabled = true ∧ ∃ x, v = some x ∧ 500 < x
      let y := { s.iso with vPack := v }
      ((alive ∧ s.iso.st ≠ .off) ∨ (¬ alive ∧ s.iso.st = .off) →
        exec .packVoltagePosting s = .next { s with isoIn := rest, iso := y }) ∧
      (alive → s.iso.st = .off →
        ∃ t, exec .packVoltagePosting s = .next t ∧ t.isoIn = rest ∧
          t.iso =
            { y with
              st := .measuring, period := some s.now, assess := .unknown, source := .own, last := none, streaks := {}
              profile := if s.iso.params.profMode = .auto then .p1 else s.iso.params.fixed } ∧
          NoticeKind.insulation ∈ t.link.notices ∧
          onlyChanges [.iso, .session, .pins, .heating, .link, .budgetIn, .isoIn] s t) ∧
      (¬ alive → s.iso.st ∈ [.listening, .measuring, .yielded] →
        ∃ t, exec .packVoltagePosting s = .next t ∧ t.isoIn = rest ∧
          t.iso =
            { y with
              st := .off, period := none, listenTimer := none, foreign := false, assess := .unknown, source := .own
              last := none, streaks := {} } ∧
          t.session.causes.searchHold = false ∧ BudgetPosting.searchHold false ∈ t.budgetIn ∧
          onlyChanges [.iso, .session, .pins, .heating, .link, .budgetIn, .isoIn] s t) ∧
      (¬ alive → s.iso.st = .searching →
        ∃ t, exec .packVoltagePosting s = .next t ∧ t.isoIn = rest ∧ t.iso.st = .off ∧
          t.iso.assess = .unknown ∧ t.iso.search.outcome = .aborted ∧ t.iso.search.abort = some .off ∧
          t.iso.search.under = none ∧ t.session.causes.searchHold = false ∧
          (∀ a, s.iso.search.under = some a → (s.node a).st = .active →
            (⟨.reconnect, a⟩ : StageEntry) ∈ t.stage.urgent) ∧
          onlyChanges [.iso, .session, .pins, .heating, .stage, .link, .budgetIn, .isoIn] s t)) ∧
    (∀ low high, s.iso.st = .listening → s.iso.listenTimer ≠ none →
      let foreign := s.iso.foreign || decide (4000 < high - low)
      ∃ t, exec (.listenWindowExpiry low high) s = .next t ∧
        (foreign = true ∨ s.iso.stationMon = true →
          t.iso =
            { s.iso with
              foreign := foreign, listenTimer := none, st := .yielded, period := none
              last := s.iso.last.map fun r => { r with external := true } }) ∧
        (foreign = false → s.iso.stationMon = false →
          t.iso = { s.iso with listenTimer := none, st := .measuring, period := some s.now }) ∧
        NoticeKind.insulation ∈ t.link.notices ∧
        onlyChanges [.iso, .session, .pins, .heating, .link, .budgetIn] s t)

/-- R81 to R90: the end of an injection period. Settled, it forms the working thresholds and the result, and
in MEASURING grades it: the assessment moves by the streaks, CRITICAL stops a charging session, FAULT begins a search
or, with no search list, stops it; INVALID results yield in DC and give up the assessment otherwise. In SEARCHING
(R98, R100) CRITICAL aborts the search, and a step's first result is discarded and its next two, an INVALID one failing,
decide between CULPRIT and CLEARED. In AUTO a period speeds the profile up at its 16th settled run and, unsettled, breaks
the value streaks and slows it; the third in a row at P3 gives up the assessment, UNKNOWN with source OWN, outside SEARCHING.
That the result is graded before its run is counted, and what FIXED mode leaves of the
counters, is log 21's. -/
def Obligations.InjectionResultGraded : Prop :=
  (∀ um, um < 0 → readingOf um = .invalid) ∧
  (∀ um : Int, 40000 ≤ um → readingOf um = .kOhm 10000) ∧
  (∀ um : Nat, um < 40000 → readingOf um = .kOhm (min 10000 (200 * um / (40000 - um)))) ∧
  ∀ (s : State) (p3 pe n3 ne : Int), s.power.part = .run →
    let c := Instr.injectionPeriodEnd p3 pe n3 ne
    let settled := (pe - p3).natAbs * 32 ≤ pe.natAbs ∧ (ne - n3).natAbs * 32 ≤ ne.natAbs
    let um := (pe - ne).tdiv 2
    let w := workingOf s.iso.params (s.iso.vPack.getD 0)
    (s.iso.period = none → exec c s = .next s) ∧
    (s.iso.period ≠ none → ∃ t, exec c s = .next t ∧
      (¬ settled →
        t.iso.last = s.iso.last ∧ t.iso.working = s.iso.working ∧ t.iso.st = s.iso.st ∧
        { t.iso.streaks with settled := 0, p3Unsettled := 0, invalid := 0 } = ({} : Streaks) ∧
        t.iso.streaks.settled = 0 ∧
        (s.iso.params.profMode = .auto → s.iso.profile ≠ .p3 →
          t.iso.profile = s.iso.profile.slower ∧ t.iso.assess = s.iso.assess) ∧
        (s.iso.params.profMode = .auto → s.iso.profile = .p3 →
          let n := s.iso.streaks.p3Unsettled + 1
          t.iso.profile = .p3 ∧
          (n < 3 → t.iso.streaks.p3Unsettled = n ∧ t.iso.assess = s.iso.assess ∧ t.iso.source = s.iso.source) ∧
          (3 ≤ n → t.iso.streaks.p3Unsettled = 0) ∧
          (3 ≤ n → s.iso.st = .searching → t.iso.assess = s.iso.assess ∧ t.iso.source = s.iso.source) ∧
          (3 ≤ n → s.iso.st ≠ .searching →
            t.iso.assess = .unknown ∧ t.iso.source = .own ∧
              (s.iso.assess ≠ .unknown ∨ s.iso.source ≠ .own →
                t.session.causes.searchHold = false ∧ NoticeKind.insulation ∈ t.link.notices)))) ∧
      (s.iso.params.profMode = .fixed → t.iso.profile = s.iso.profile) ∧
      (settled → s.iso.params.profMode = .auto → t.iso.assess = s.iso.assess → t.iso.source = s.iso.source →
        let n := s.iso.streaks.settled + 1
        t.iso.streaks.p3Unsettled = 0 ∧
        (16 ≤ n ∧ s.iso.profile ≠ .p0 → t.iso.profile = s.iso.profile.faster ∧ t.iso.streaks.settled = 0) ∧
        (n < 16 ∨ s.iso.profile = .p0 → t.iso.profile = s.iso.profile ∧ t.iso.streaks.settled = min 16 n)) ∧
      (settled →
        t.iso.working = some w ∧ (∃ ext, t.iso.last = some ⟨readingOf um, um, s.iso.profile, s.now, ext⟩) ∧
        (s.iso.st = .measuring → ∀ r, readingOf um = .kOhm r →
          let k := s.iso.streaks.value r w
          let a := gradedBy s.iso.assess k r w
          let charging := s.session.st ∈ [.energising, .active, .paused] ∧ ¬ contactsOpen s
          t.iso.assess = a ∧
          { t.iso.streaks with settled := 0, p3Unsettled := 0 } =
            (if a = s.iso.assess then { k with settled := 0, p3Unsettled := 0 } else {}) ∧
          (a = .critical → a ≠ s.iso.assess → charging →
            t.session.st = .stopping ∧ t.session.stopCause = some .isoCritical ∧
              t.session.causes.searchHold = true) ∧
          (a = .fault → a ≠ s.iso.assess → s.iso.searchList = [] → charging →
            t.session.st = .stopping ∧ t.session.stopCause = some .isoFault) ∧
          (a = .fault → a ≠ s.iso.assess → s.iso.searchList ≠ [] →
            t.iso.search.origin = .fault ∧ t.iso.search.outcome ≠ .none)) ∧
        (∀ r b, s.iso.st = .searching → readingOf um = .kOhm r → s.iso.search.under = some b →
          let q := s.iso.search
          (r < w.critical →
            t.iso.st = .measuring ∧ t.iso.assess = .critical ∧ t.iso.search.outcome = .aborted ∧
              t.iso.search.abort = some .critical ∧ t.iso.search.under = none) ∧
          (w.critical ≤ r → q.phase ≠ some .results → t.iso.search = q) ∧
          (w.critical ≤ r → q.phase = some .results →
            (q.discarded = none → t.iso.search = { q with discarded := some (.kOhm r) }) ∧
            (q.discarded ≠ none → q.first = none →
              t.iso.search = { q with first := some ⟨.kOhm r, decide (w.warn ≤ r)⟩ }) ∧
            (∀ u, q.discarded ≠ none → q.first = some u →
              (u.passes = true → w.warn ≤ r →
                t.iso.search.outcome = .found ∧ t.iso.search.under = none ∧
                  t.iso.search.marks = q.marks.set q.cursor .culprit ∧ b ∈ t.iso.memory ∧
                  waits t (.isoMemory t.iso.memory) ∧
                  t.iso.st = if s.iso.dcContext && s.iso.stationMon then .yielded else .measuring) ∧
              (u.passes = false ∨ r < w.warn →
                t.iso.search.marks = q.marks.set q.cursor .cleared ∧
                  t.iso.search.phase = some .reconnectWait ∧ t.iso.search.reconnectTimer = some s.now ∧
                  t.iso.search.under = some b ∧
                  ((s.node b).st = .active → (⟨.reconnect, b⟩ : StageEntry) ∈ t.stage.urgent))))) ∧
        (∀ b, s.iso.st = .searching → um < 0 → s.iso.search.under = some b →
          let q := s.iso.search
          t.iso.st = .searching ∧ t.iso.assess = s.iso.assess ∧
          (q.phase ≠ some .results → t.iso.search = q) ∧
          (q.phase = some .results →
            (q.discarded = none → t.iso.search = { q with discarded := some .invalid }) ∧
            (q.discarded ≠ none → q.first = none → t.iso.search = { q with first := some ⟨.invalid, false⟩ }) ∧
            (q.discarded ≠ none → q.first ≠ none →
              t.iso.search.marks = q.marks.set q.cursor .cleared ∧ t.iso.search.phase = some .reconnectWait ∧
                t.iso.search.reconnectTimer = some s.now ∧ t.iso.search.under = some b ∧
                ((s.node b).st = .active → (⟨.reconnect, b⟩ : StageEntry) ∈ t.stage.urgent)))) ∧
        (s.iso.st = .measuring → um < 0 →
          (s.iso.dcContext = true → 1 ≤ s.iso.streaks.invalid →
            t.iso.st = .yielded ∧ t.iso.assess = s.iso.assess) ∧
          (s.iso.dcContext = false → 2 ≤ s.iso.streaks.invalid →
            t.iso.st = .measuring ∧ t.iso.assess = .unknown ∧ t.iso.source = .own) ∧
          (s.iso.streaks.invalid = 0 → t.iso.st = .measuring ∧ t.iso.assess = s.iso.assess))) ∧
      onlyChanges
        [.iso, .session, .pins, .heating, .stage, .meter, .billing, .nv, .link, .budgetIn] s t)

/-- R97, R98, R99, R100: with the node under test ACTIVE, an expired confirmation or result deadline marks the entry SKIPPED,
queues RECONNECT for its branch and starts the reconnect wait. An expired confirmation with the node not ACTIVE leaves the
RECONNECT to its next join and skips the wait. A wait that is over or skipped goes on to the next entry, and past the last one
the search ends NOT_FOUND. -/
def Obligations.SearchTimeoutsStep : Prop :=
  ∀ (s : State) (a : Nat), s.power.part = .run → s.iso.search.under = some a →
    let q := s.iso.search
    let skipped : Insulation :=
      { s.iso with
        search :=
          { q with
            marks := q.marks.set q.cursor .skipped, phase := some .reconnectWait, confirmTimer := none
            deadlineTimer := none, reconnectTimer := some s.now } }
    let waits : Instr → Prop := fun c =>
      ∃ t, exec c s = .next t ∧ t.iso = skipped ∧ (⟨.reconnect, a⟩ : StageEntry) ∈ t.stage.urgent ∧
        onlyChanges [.iso, .heating, .stage, .link, .budgetIn] s t
    let goesOn : Instr → List Mark → Prop := fun c marks =>
      (∀ b rest, s.iso.searchList.drop (q.cursor + 1) = b :: rest → (s.node b).st = .active →
        (s.node b).isolated = false → b ∉ s.iso.memory → 3 < b ∨ (s.node b).commanded = 0 →
        ∃ t, exec c s = .next t ∧ t.iso.st = s.iso.st ∧
          t.iso.search.cursor = q.cursor + 1 ∧ t.iso.search.under = some b ∧ t.iso.search.marks = marks ∧
          t.iso.search.phase = some .isolateWait ∧ t.iso.search.confirmTimer = some s.now ∧
          t.iso.search.deadlineTimer = none ∧ t.iso.search.reconnectTimer = none ∧
          (⟨.isolate, b⟩ : StageEntry) ∈ t.stage.urgent ∧
          onlyChanges [.iso, .heating, .stage, .link, .budgetIn] s t) ∧
      (s.iso.searchList.drop (q.cursor + 1) = [] → s.iso.assess ≠ .fault →
        ∃ t, exec c s = .next t ∧ t.iso.search.outcome = .notFound ∧
          t.iso.search.under = none ∧ t.iso.search.marks = marks ∧
          t.iso.st = (if s.iso.dcContext && s.iso.stationMon then .yielded else .measuring) ∧
          onlyChanges [.iso, .session, .pins, .heating, .link, .budgetIn] s t)
    (q.confirmTimer ≠ none → (s.node a).st = .active → waits .isolateConfirmTimeout) ∧
    (q.deadlineTimer ≠ none → (s.node a).st = .active → waits .resultDeadlineExpiry) ∧
    (q.confirmTimer ≠ none → (s.node a).st ≠ .active →
      goesOn .isolateConfirmTimeout (q.marks.set q.cursor .skipped)) ∧
    (q.reconnectTimer ≠ none → goesOn .reconnectWaitTimeout q.marks)

/-- R114, R115: SET_ROSTER checks each address's kind, is refused STATE while SEARCHING, and makes a changed address ABSENT
without entries or MISSING with a roll call queued; ROLL_CALL queues the nodes that are not ACTIVE and answers how many
it added; the re-call period queues the MISSING and LOST ones. The model's
choices are that a roster both illegal and sent while SEARCHING is answered BAD_VALUE (log 10), that a ROLL_CALL request queues
its nodes in address order (log 21), and that ROLL_CALL answers in
one byte the entries it added, so that a node whose entry already stands is not counted (log 11). -/
def Obligations.RosterAndRollCalls : Prop :=
  let queued : State → List Nat → List StageEntry := fun s l =>
    (l.filter fun a => !s.stage.normal.contains ⟨.rollCall, a⟩).map fun a => ⟨.rollCall, a⟩
  ∀ s : State,
    let new := queued s
      (addresses.filter fun a => decide ((s.node a).st = .missing ∨ (s.node a).st = .lost ∨ (s.node a).st = .mismatch))
    (∀ tag : Byte, mayServe s →
      (∀ l : List Nat, l.length = 11 →
        let kind : Nat → NodeKind := fun a => if l.getD (a - 1) 0 = 0 then .none else if a ≤ 3 then .charger else .heater
        let legal := ∀ a, 1 ≤ a → a ≤ 11 → l.getD (a - 1) 0 = 0 ∨ l.getD (a - 1) 0 = if a ≤ 3 then 1 else 2
        (¬ legal → refusedWith (.setRoster tag l) 0x50 tag .badValue s) ∧
        (legal → s.iso.st = .searching → refusedWith (.setRoster tag l) 0x50 tag .state s) ∧
        (legal → s.iso.st ≠ .searching → s.iso.search.under = none → s.stage.nodes.length = 11 →
          s.heating.zones.length = 8 →
          ∃ t, exec (.setRoster tag l) s = .next t ∧
            (∀ a, 1 ≤ a → a ≤ 11 →
              (t.node a).expected = kind a ∧
              (kind a = (s.node a).expected → (t.node a).st = (s.node a).st ∧ (t.node a).rating = (s.node a).rating) ∧
              (kind a ≠ (s.node a).expected → kind a = .none →
                (t.node a).st = .absent ∧ (∀ e ∈ t.stage.normal, e.addr ≠ a) ∧ ∀ e ∈ t.stage.urgent, e.addr ≠ a) ∧
              (kind a ≠ (s.node a).expected → kind a ≠ .none →
                (t.node a).st = .missing ∧ (⟨.rollCall, a⟩ : StageEntry) ∈ t.stage.normal) ∧
              (4 ≤ a → (t.zone (a - 3)).configured = decide (kind a = .heater))) ∧
            t.link.replies = s.link.replies ++ [⟨0xD0, tag, [byte Status.ok.code], .plain⟩] ∧
            onlyChanges [.stage, .heating, .link, .budgetIn] s t)) ∧
      (exec (.rollCall tag) s = .next
          { replied s 0x51 tag [byte Status.ok.code, byte new.length] with
            stage := { s.stage with normal := s.stage.normal ++ new } })) ∧
    (s.power.part = .run →
      (s.stage.recallTimer = none → exec .recallPeriodExpiry s = .next s) ∧
      (s.stage.recallTimer ≠ none →
        exec .recallPeriodExpiry s = .next
          { s with
            stage :=
              { s.stage with
                recallTimer := some s.now
                normal := s.stage.normal ++ queued s
                  (addresses.filter fun a => decide ((s.node a).st = .missing ∨ (s.node a).st = .lost)) } }))

/-- R110, R118, R122: on the free link in RUN the urgent queue's head begins before the normal queue's, with the
commanded setpoint as it stands, which forms its payload; after the retry wait the attempt is made again with the payload
formed then. -/
def Obligations.TransactionsBegin : Prop :=
  ∀ s : State,
    let free :=
      s.stage.supplyOn = true ∧ s.stage.inFlight = none ∧ s.stage.broadcast = .idle ∧ s.stage.silent = false
    let payload : StageCmd → Nat → Nat → List Byte := fun c a v =>
      if c ≠ .setpoint then [] else if (s.node a).expected = .heater then [if 0 < v then 1 else 0] else be 2 v
    let begun : StageEntry → Stage → Stage := fun e g =>
      let v := (s.node e.addr).commanded
      { g with
        inFlight := some
          { cmd := e.cmd, addr := e.addr, value := v, attempt := 1, phase := .awaitStatus
            payload := payload e.cmd e.addr v }
        wire := stageFrame e.addr e.cmd.code (payload e.cmd e.addr v) }
    (¬ free → exec .transactionBegin s = .next s) ∧
    (s.power.part = .run → s.stage.safeStop = false → s.stage.urgent = [] → s.stage.normal = [] →
      exec .transactionBegin s = .next s) ∧
    (∀ e rest, s.power.part = .run → free → s.stage.safeStop = false → s.stage.urgent = e :: rest →
      exec .transactionBegin s = .next { s with stage := begun e { s.stage with urgent := rest } }) ∧
    (∀ e rest, s.power.part = .run → free → s.stage.safeStop = false → s.stage.urgent = [] →
      s.stage.normal = e :: rest →
      exec .transactionBegin s = .next { s with stage := begun e { s.stage with normal := rest } }) ∧
    (∀ x, s.stage.inFlight = some x → x.phase = .retryWait →
      exec .retryWaitExpiry s = .next
        { s with
          stage :=
            { s.stage with
              inFlight := some { x with attempt := x.attempt + 1, phase := .awaitStatus }
              wire := stageFrame x.addr x.cmd.code x.payload } })

/-- R109, R110, R111, R113, R119, R123, R124: an attempt's outcome sets its error flag; ACCEPT waits for the response or
ends the transaction, RETRY and the errors wait for another attempt and, after the fourth, make an ACTIVE node LOST and
leave any other node, as a roll call's MISSING one, as it is; REJECT ends it; a transaction cut short ends with nothing else. A SETPOINT accepted is acknowledged; an ISOLATE of the
branch under test is the search's (R97). That a rejected SETPOINT whose value still stands is queued by its refresh alone
is the model's reading, log 10. -/
def Obligations.AttemptOutcomes : Prop :=
  ∀ (s : State) (x : Transaction), s.stage.inFlight = some x → s.stage.entryWait = false →
    let ended : StageErrors → State := fun e => { s with stage := { s.stage with inFlight := none, errors := e } }
    let waits : StageErrors → State := fun e =>
      { s with stage := { s.stage with inFlight := some { x with phase := .retryWait }, errors := e } }
    let err : Byte → StageErrors := fun b =>
      if b = 2 then s.stage.errors else if b = 3 then { s.stage.errors with rejected := true }
      else if b = 4 then { s.stage.errors with sendCheck := true } else { s.stage.errors with rxCheck := true }
    let lost : StageErrors → State → Prop := fun e t =>
      (t.node x.addr).st = .lost ∧ (t.node x.addr).acked = none ∧ (t.node x.addr).headroom = 0 ∧
        t.stage.errors = { e with lostEvent := true } ∧ t.stage.inFlight = none ∧
        (∀ q ∈ t.stage.normal, q.addr ≠ x.addr) ∧ (∀ q ∈ t.stage.urgent, q.addr ≠ x.addr) ∧
        NoticeKind.stage ∈ t.link.notices ∧ onlyChanges [.stage, .heating, .link, .budgetIn] s t
    let row := 1 ≤ x.addr ∧ x.addr ≤ s.stage.nodes.length
    (x.phase ≠ .awaitStatus → ∀ b, exec (.statusSlotReceived b) s = .next s) ∧
    (x.phase = .awaitStatus → x.abandon = true → ∀ b, b ≠ 1 → exec (.statusSlotReceived b) s = .next (ended (err b))) ∧
    (x.phase = .awaitStatus → x.cmd = .rollCall ∨ x.cmd = .statusQuery →
      exec (.statusSlotReceived 1) s = .next
        { s with stage := { s.stage with inFlight := some { x with phase := .awaitResponse } } }) ∧
    (x.phase = .awaitStatus → x.abandon = false → x.cmd = .setpoint → (s.node x.addr).st = .active → row →
      ∃ t, exec (.statusSlotReceived 1) s = .next t ∧ t.stage.inFlight = none ∧
        t.node x.addr = { s.node x.addr with acked := some x.value, refreshTimer := some s.now } ∧
        (setpointDiffers (some x.value) (s.node x.addr).commanded = true →
          (⟨.setpoint, x.addr⟩ : StageEntry) ∈ t.stage.normal) ∧
        (setpointDiffers (some x.value) (s.node x.addr).commanded = false → t.stage.normal = s.stage.normal) ∧
        onlyChanges [.stage] s t) ∧
    (x.phase = .awaitStatus → x.abandon = false → x.attempt < 4 → ∀ b, b ≠ 1 → b ≠ 3 →
      exec (.statusSlotReceived b) s = .next (waits (err b))) ∧
    (x.phase = .awaitStatus → x.abandon = false → x.cmd = .rollCall ∨ x.cmd = .statusQuery →
      exec (.statusSlotReceived 3) s = .next (ended (err 3))) ∧
    (x.phase = .awaitStatus → x.abandon = false → x.cmd = .setpoint → (s.node x.addr).commanded = x.value →
      exec (.statusSlotReceived 3) s = .next (ended (err 3))) ∧
    (x.phase = .awaitStatus → x.abandon = false → x.cmd = .isolate ∨ x.cmd = .reconnect →
      let tested := x.cmd = .isolate ∧ s.iso.search.under = some x.addr ∧ s.iso.search.phase = some .isolateWait
      (¬ tested → exec (.statusSlotReceived 1) s = .next (ended s.stage.errors) ∧
        exec (.statusSlotReceived 3) s = .next (ended (err 3))) ∧
      (tested → (s.node x.addr).st = .active →
        exec (.statusSlotReceived 1) s = .next
          { ended s.stage.errors with
            iso := { s.iso with search := { s.iso.search with accepted := true } } } ∧
        ∃ t, exec (.statusSlotReceived 3) s = .next t ∧ t.stage.inFlight = none ∧ t.stage.errors = err 3 ∧
          t.iso.search.marks = s.iso.search.marks.set s.iso.search.cursor .skipped ∧
          t.iso.search.phase = some .reconnectWait ∧ t.iso.search.reconnectTimer = some s.now ∧
          (⟨.reconnect, x.addr⟩ : StageEntry) ∈ t.stage.urgent ∧
          onlyChanges [.iso, .heating, .stage, .link, .budgetIn] s t)) ∧
    (x.phase = .awaitStatus → x.abandon = false → 4 ≤ x.attempt → (s.node x.addr).st = .active → row →
      s.iso.search.under ≠ some x.addr → ∀ b, b ≠ 1 → b ≠ 3 →
      ∃ t, exec (.statusSlotReceived b) s = .next t ∧ lost (err b) t) ∧
    (x.phase = .awaitStatus → x.abandon = false → 4 ≤ x.attempt → (s.node x.addr).st ≠ .active → ∀ b, b ≠ 1 → b ≠ 3 →
      exec (.statusSlotReceived b) s = .next (ended (err b))) ∧
    (x.phase ≠ .retryWait → x.abandon = false → 4 ≤ x.attempt → (s.node x.addr).st ≠ .active →
      exec .slotWaitTimeout s = .next (ended { s.stage.errors with noResponse := true })) ∧
    (x.phase = .retryWait → exec .slotWaitTimeout s = .next s) ∧
    (x.phase ≠ .retryWait → x.abandon = false → x.attempt < 4 →
      exec .slotWaitTimeout s = .next (waits { s.stage.errors with noResponse := true })) ∧
    (x.phase ≠ .retryWait → x.abandon = false → 4 ≤ x.attempt → (s.node x.addr).st = .active → row →
      s.iso.search.under ≠ some x.addr →
      ∃ t, exec .slotWaitTimeout s = .next t ∧ lost { s.stage.errors with noResponse := true } t)

/-- R102, R108, R109, R110, R112, R113, R121, R199: a response frame of the right head, length and check is the reply. A roll call's
reply of the expected kind joins the node, of another kind makes it MISMATCH; a status reply that names the kind and
rating held is taken into the row, queues ISOLATE or RECONNECT where outside a test it disagrees with the isolation memory,
and confirms the isolation of the branch under test or, reporting a charger isolated that
waits for its setpoint, sets that to 0 and so ends the wait (R97, R98, R122); any other makes the node MISMATCH. A bad frame
is retried, and the fourth makes an ACTIVE node LOST and leaves any other as it is. -/
def Obligations.ResponseFramesJudged : Prop :=
  ∀ (s : State) (x : Transaction) (bytes : List Byte), s.stage.inFlight = some x → x.phase = .awaitResponse →
    s.stage.entryWait = false → x.abandon = false →
    (responsePayload x bytes = none → x.attempt < 4 →
      exec (.responseFrameReceived bytes) s = .next
        { s with
          stage :=
            { s.stage with
              inFlight := some { x with phase := .retryWait }
              errors := { s.stage.errors with rxCheck := true } } }) ∧
    (responsePayload x bytes = none → 4 ≤ x.attempt → (s.node x.addr).st ≠ .active →
      exec (.responseFrameReceived bytes) s = .next
        { s with stage := { s.stage with inFlight := none, errors := { s.stage.errors with rxCheck := true } } }) ∧
    (responsePayload x bytes = none → 4 ≤ x.attempt → (s.node x.addr).st = .active → 1 ≤ x.addr →
      x.addr ≤ s.stage.nodes.length → s.iso.search.under ≠ some x.addr →
      ∃ t, exec (.responseFrameReceived bytes) s = .next t ∧
        (t.node x.addr).st = .lost ∧ (t.node x.addr).acked = none ∧ (t.node x.addr).headroom = 0 ∧
        t.stage.errors = { s.stage.errors with rxCheck := true, lostEvent := true } ∧ t.stage.inFlight = none ∧
        (∀ q ∈ t.stage.normal, q.addr ≠ x.addr) ∧ (∀ q ∈ t.stage.urgent, q.addr ≠ x.addr) ∧
        NoticeKind.stage ∈ t.link.notices ∧ onlyChanges [.stage, .heating, .link, .budgetIn] s t) ∧
    (∀ p, responsePayload x bytes = some p →
      p.length = x.cmd.responseLen ∧ bytes.head? = some (byte (x.addr * 16 + x.cmd.code)) ∧ sum8 bytes = 255) ∧
    (∀ p, responsePayload x bytes = some p → 1 ≤ x.addr → x.addr ≤ 11 → s.stage.nodes.length = 11 →
      s.heating.zones.length = 8 →
      let n := s.node x.addr
      let kind := replyNodeKind (p.getD 0 0)
      let rating := ofBe ((p.drop 1).take 2)
      let waiting := n.st = .missing ∨ n.st = .lost ∨ n.st = .mismatch
      (x.cmd = .rollCall → waiting → kind = some n.expected →
        ∃ t, exec (.responseFrameReceived bytes) s = .next t ∧
          (t.node x.addr).st = .active ∧ (t.node x.addr).rating = some rating ∧
          (t.node x.addr).headroom = 0 ∧ (t.node x.addr).acked = none ∧ (t.node x.addr).isolated = false ∧
          (t.node x.addr).pollTimer = some s.now ∧ (t.node x.addr).refreshTimer = some s.now ∧
          (⟨.statusQuery, x.addr⟩ : StageEntry) ∈ t.stage.normal ∧
          (⟨.setpoint, x.addr⟩ : StageEntry) ∈ t.stage.normal ∧
          (x.addr ∈ s.iso.memory → (⟨.isolate, x.addr⟩ : StageEntry) ∈ t.stage.urgent) ∧
          (x.addr ∉ s.iso.memory → (⟨.reconnect, x.addr⟩ : StageEntry) ∈ t.stage.urgent) ∧
          (4 ≤ x.addr →
            (t.zone (x.addr - 3)).node = .active ∧
              (t.zone (x.addr - 3)).rating = if legalRating rating then some rating else none) ∧
          t.stage.inFlight = none ∧ NoticeKind.stage ∈ t.link.notices ∧
          onlyChanges [.stage, .heating, .link, .budgetIn] s t) ∧
      (x.cmd = .rollCall → waiting → kind ≠ some n.expected →
        ∃ t, exec (.responseFrameReceived bytes) s = .next t ∧ (t.node x.addr).st = .mismatch ∧
          (t.node x.addr).rating = some rating ∧ (4 ≤ x.addr → (t.zone (x.addr - 3)).node = .mismatch) ∧
          t.stage.inFlight = none ∧ onlyChanges [.stage, .heating, .link, .budgetIn] s t) ∧
      (x.cmd = .statusQuery → n.st = .active → kind = some n.expected → n.rating = some rating →
        s.iso.search.under ≠ some x.addr →
        let flags := p.getD 5 0
        ∃ t, exec (.responseFrameReceived bytes) s = .next t ∧
          (t.node x.addr).st = .active ∧
          (t.node x.addr).headroom =
            (if n.expected = .charger then min 7400 (ofBe ((p.drop 3).take 2)) else n.headroom) ∧
          (t.node x.addr).temp =
            (if n.expected = .heater ∧ flags.getLsbD 0 = true then some (ofBeInt16 ((p.drop 3).take 2)) else none) ∧
          (t.node x.addr).isolated = flags.getLsbD 1 ∧ (t.node x.addr).faultA = flags.getLsbD 2 ∧
          (t.node x.addr).faultB = flags.getLsbD 3 ∧ (t.node x.addr).replyStamp = some s.now ∧
          (flags.getLsbD 1 = true → (t.node x.addr).commanded = 0) ∧
          (x.addr ∈ s.iso.memory → flags.getLsbD 1 = false → (⟨.isolate, x.addr⟩ : StageEntry) ∈ t.stage.urgent) ∧
          (x.addr ∉ s.iso.memory → flags.getLsbD 1 = true → (⟨.reconnect, x.addr⟩ : StageEntry) ∈ t.stage.urgent) ∧
          (flags.getLsbD 1 = decide (x.addr ∈ s.iso.memory) → t.stage.urgent = s.stage.urgent) ∧
          (4 ≤ x.addr → (t.zone (x.addr - 3)).replyStamp = some s.now ∧
            (t.zone (x.addr - 3)).temp = if flags.getLsbD 2 then none else (t.node x.addr).temp) ∧
          t.stage.inFlight = none ∧ onlyChanges [.stage, .heating, .link, .budgetIn] s t) ∧
      (x.cmd = .statusQuery → n.st = .active → kind = some n.expected → n.rating = some rating →
        s.iso.search.under = some x.addr → x.addr ∉ s.iso.memory →
        s.iso.search.phase = some .isolateWait → s.iso.search.accepted = true → (p.getD 5 0).getLsbD 1 = true →
        ∃ t, exec (.responseFrameReceived bytes) s = .next t ∧ (t.node x.addr).isolated = true ∧
          t.iso.search.phase = some .results ∧ t.iso.search.confirmTimer = none ∧
          t.iso.search.deadlineTimer = some s.now ∧ t.iso.period = some s.now ∧
          onlyChanges [.iso, .stage, .heating, .link, .budgetIn] s t) ∧
      (x.cmd = .statusQuery → n.st = .active → kind = some n.expected → n.rating = some rating →
        s.iso.search.under = some x.addr → x.addr ∉ s.iso.memory →
        s.iso.search.phase = some .setpointWait → (p.getD 5 0).getLsbD 1 = true →
        ∃ t, exec (.responseFrameReceived bytes) s = .next t ∧ (t.node x.addr).isolated = true ∧
          (t.node x.addr).commanded = 0 ∧ t.iso.search.phase = some .isolateWait ∧
          t.iso.search.confirmTimer = some s.now ∧ (⟨.isolate, x.addr⟩ : StageEntry) ∈ t.stage.urgent ∧
          onlyChanges [.iso, .stage, .heating, .link, .budgetIn] s t) ∧
      (x.cmd = .statusQuery → n.st = .active → kind ≠ some n.expected ∨ n.rating ≠ some rating →
        s.iso.search.under ≠ some x.addr →
        ∃ t, exec (.responseFrameReceived bytes) s = .next t ∧ (t.node x.addr).st = .mismatch ∧
          (∀ q ∈ t.stage.normal, q.addr ≠ x.addr) ∧ (∀ q ∈ t.stage.urgent, q.addr ≠ x.addr) ∧
          t.stage.inFlight = none ∧ onlyChanges [.stage, .heating, .link, .budgetIn] s t))

/-- R120, R123: the poll and refresh times of an ACTIVE node queue STATUS_QUERY and SETPOINT, once each, and start again;
those of any other node do nothing. -/
def Obligations.NodePeriodsQueue : Prop :=
  ∀ (s : State) (i : Nat), s.power.part = .run →
    let n := s.stage.nodes.getD i {}
    let add : StageEntry → List StageEntry := fun e =>
      if e ∈ s.stage.normal then s.stage.normal else s.stage.normal ++ [e]
    (n.st ≠ .active ∨ n.pollTimer = none → exec (.pollTimeExpiry (i + 1)) s = .next s) ∧
    (n.st = .active → n.pollTimer ≠ none →
      exec (.pollTimeExpiry (i + 1)) s = .next
        { s with
          stage :=
            { s.stage with
              nodes := s.stage.nodes.modify i fun n => { n with pollTimer := some s.now }
              normal := add ⟨.statusQuery, i + 1⟩ } }) ∧
    (n.st ≠ .active ∨ n.refreshTimer = none → exec (.refreshTimeExpiry (i + 1)) s = .next s) ∧
    (n.st = .active → n.refreshTimer ≠ none →
      exec (.refreshTimeExpiry (i + 1)) s = .next
        { s with
          stage :=
            { s.stage with
              nodes := s.stage.nodes.modify i fun n => { n with refreshTimer := some s.now }
              normal := add ⟨.setpoint, i + 1⟩ } })

/-- R118, R119: a safe stop pending on the free link sends its first broadcast: SETPOINT entries leave the queue, every
node's acknowledged setpoint reads 0 and its refresh stops; the second broadcast clears it, and the link falls silent
with the node supply off. -/
def Obligations.SafeStopBroadcasts : Prop :=
  ∀ s : State,
    let free :=
      s.stage.supplyOn = true ∧ s.stage.inFlight = none ∧ s.stage.broadcast = .idle ∧ s.stage.silent = false
    let first : State :=
      { s with
        stage :=
          { s.stage with
            broadcast := .firstSent, wire := safeStopFrame
            normal := s.stage.normal.filter fun e => e.cmd != .setpoint
            nodes := s.stage.nodes.map fun n => { n with acked := some 0, refreshTimer := none } } }
    (s.stage.safeStop = false ∨ ¬ free → exec .safeStop s = .next s) ∧
    (s.stage.safeStop = true → free → exec .safeStop s = .next first ∧ exec .transactionBegin s = .next first) ∧
    (s.stage.broadcast = .idle → exec .safeStopRepeat s = .next s) ∧
    (s.stage.broadcast = .firstSent →
      exec .safeStopRepeat s = .next
        { s with
          stage :=
            { s.stage with
              broadcast := .idle, wire := safeStopFrame, safeStop := false, silent := true, supplyOn := false } }) ∧
    safeStopFrame = [0xF6, 0x00, 0x09]

/-! ### Metering (chapter 6) -/

/-- R128, R129, R131, R132, R133, R134, R137: a sample replaces the live record, integrates each power into its
channel with the residue kept, and posts the voltages that moved, a phase that did not with its value last posted (log 16).
It closes the AC contactor of a session waiting for
inlet voltage, and ends the stop ramp below 1.0 A. That a contactor that already reports closed starts the session, and one whose
every contact is open ends the stop, in the same step is the model's choice, log 8. -/
def Obligations.MeterSamples : Prop :=
  ∀ (s : State) (f : FrontEnd), s.power.part = .run →
    (s.meter.period = none → exec (.meterSample f) s = .next s) ∧
    (s.meter.period ≠ none → heldReadings f = f →
      let m := s.meter
      let pack : Option Nat := if f.packValid = true ∧ 0 < f.vPack then some f.vPack else none
      let pGrid : Nat :=
        if m.mode = some .dc then ((f.vDc : Int) * f.iDc / 100).toNat else (f.p1 + f.p2 + f.p3).toNat
      let pHeat : Nat := (((pack.getD 0 : Nat) : Int) * f.iHeat / 100).toNat
      let pNet : Int := (((pack.getD 0 : Nat) : Int) * (f.iHv - f.iHeat)).tdiv 100
      let toGrid : Bool := decide (s.heating.source = .grid ∨ (s.heating.source = .none ∧ 0 < pGrid))
      let grid := (m.resGrid + pGrid) / 36
      let heatGrid := if toGrid then (m.resHeatGrid + pHeat) / 36 else 0
      let heatPack := if toGrid then 0 else (m.resHeatPack + pHeat) / 36
      let net := (m.resPackNet + pNet).tdiv 36
      let moved : Nat → Nat → Prop := fun a b => 5 ≤ distance a b ∨ (1800 < a ∧ b ≤ 1800) ∨ (a ≤ 1800 ∧ 1800 < b)
      let packMoved : Prop :=
        pack.isSome ≠ m.postedPack.isSome ∨ ∃ a b, m.postedPack = some a ∧ pack = some b ∧
          (5 ≤ distance a b ∨ (500 < a ∧ b ≤ 500) ∨ (a ≤ 500 ∧ 500 < b))
      let current : Int := if s.session.mode = some .dc then f.iDc else max f.i1 (max f.i2 f.i3)
      let starts :=
        s.session.st = .energising ∧ s.session.mode = some .ac ∧ s.session.energiseTimer ≠ none ∧ 1800 < f.v1
      let ramps := s.session.st = .stopping ∧ s.session.rampTimer ≠ none ∧ current < 10
      ∃ t x, exec (.meterSample f) s = .next t ∧
        x.live =
          { v1 := f.v1, v2 := f.v2, v3 := f.v3, i1 := f.i1, i2 := f.i2, i3 := f.i3, p1 := f.p1, p2 := f.p2, p3 := f.p3
            vDc := f.vDc, iDc := f.iDc, packV := pack, iHv := f.iHv, iHeat := f.iHeat
            pGrid := pGrid, pHeat := pHeat, pPackNet := pNet, running := true } ∧
        x.sampleStamp = some s.now ∧ x.period = some s.now ∧
        x.lastChannel = (if toGrid then .heatGrid else .heatPack) ∧
        x.resGrid = (m.resGrid + pGrid) % 36 ∧
        x.resHeatGrid = (if toGrid then (m.resHeatGrid + pHeat) % 36 else m.resHeatGrid) ∧
        x.resHeatPack = (if toGrid then m.resHeatPack else (m.resHeatPack + pHeat) % 36) ∧
        net * 36 + x.resPackNet = m.resPackNet + pNet ∧ x.resPackNet.natAbs ≤ 35 ∧
        x.totals =
          { grid := min 281474976710655 (m.totals.grid + grid)
            heatGrid := min 281474976710655 (m.totals.heatGrid + heatGrid)
            heatPack := min 281474976710655 (m.totals.heatPack + heatPack) } ∧
        x.satGrid = (m.satGrid || decide (281474976710655 < m.totals.grid + grid)) ∧
        x.satHeatGrid = (m.satHeatGrid || decide (281474976710655 < m.totals.heatGrid + heatGrid)) ∧
        x.satHeatPack = (m.satHeatPack || decide (281474976710655 < m.totals.heatPack + heatPack)) ∧
        x.mode = m.mode ∧ x.lastWrite = m.lastWrite ∧ x.totalsLost = m.totalsLost ∧
        (m.channel.isOpen = false → x.channel = m.channel) ∧
        (m.channel.isOpen = true → x.channel =
          { m.channel with
            grid := min 1099511627775 (m.channel.grid + grid)
            heatGrid := min 1099511627775 (m.channel.heatGrid + heatGrid)
            heatPack := min 1099511627775 (m.channel.heatPack + heatPack)
            packNet := max (-549755813888) (min 549755813887 (m.channel.packNet + net))
            posSat := m.channel.posSat || decide (549755813887 < m.channel.packNet + net)
            negSat := m.channel.negSat || decide (m.channel.packNet + net < -549755813888) }) ∧
        (packMoved → t.meter.postedPack = pack ∧ t.isoIn = s.isoIn ++ [pack] ∧ BudgetPosting.packVolts pack ∈ t.budgetIn) ∧
        (¬ packMoved → t.meter.postedPack = m.postedPack ∧ t.isoIn = s.isoIn) ∧
        (moved m.posted1 f.v1 → t.meter.posted1 = f.v1) ∧ (¬ moved m.posted1 f.v1 → t.meter.posted1 = m.posted1) ∧
        (moved m.posted2 f.v2 → t.meter.posted2 = f.v2) ∧ (¬ moved m.posted2 f.v2 → t.meter.posted2 = m.posted2) ∧
        (moved m.posted3 f.v3 → t.meter.posted3 = f.v3) ∧ (¬ moved m.posted3 f.v3 → t.meter.posted3 = m.posted3) ∧
        (moved m.posted1 f.v1 ∨ moved m.posted2 f.v2 ∨ moved m.posted3 f.v3 →
          BudgetPosting.phaseVolts t.meter.posted1 t.meter.posted2 t.meter.posted3 ∈ t.budgetIn) ∧
        (¬ moved m.posted1 f.v1 → ¬ moved m.posted2 f.v2 → ¬ moved m.posted3 f.v3 → ¬ packMoved → ¬ starts → ¬ ramps →
          onlyChanges [.meter] s t) ∧
        (¬ starts → ¬ ramps → onlyChanges [.meter, .budgetIn, .isoIn] s t) ∧
        (starts → s.pins.kacFb = false →
          t.session = { s.session with acK := .closing, energiseTimer := none, closeTimer := some s.now } ∧
          t.pins = { s.pins with kacDrive := true } ∧
          onlyChanges [.meter, .session, .pins, .budgetIn, .isoIn] s t) ∧
        (ramps → ¬ contactsOpen s →
          t.session =
            { s.session with
              acK := s.session.acK.commandedOpen, dcK := s.session.dcK.commandedOpen
              rampTimer := none, closeTimer := none, energiseTimer := none, openTimer := some s.now } ∧
          t.pins = { s.pins with kacDrive := false, kdcpDrive := false, kdcnDrive := false } ∧
          onlyChanges [.meter, .session, .pins, .budgetIn, .isoIn] s t) ∧
        (starts → s.pins.kacFb = true →
          let c : PauseSet :=
            { s.session.causes with noOffer := false, nothingToDo := false, noStages := false, searchHold := s.iso.hold }
          t.session.acK = .closed ∧ t.session.energiseTimer = none ∧ t.session.closeTimer = none ∧
          t.session.causes = c ∧ t.session.st = (if c = {} then .active else .paused) ∧
          onlyChanges [.meter, .session, .pins, .heating, .link, .budgetIn, .isoIn] s t) ∧
        (¬ (ramps ∧ contactsOpen s) → t.meter = x) ∧
        (ramps → contactsOpen s →
          stopDone s.session.stopCause s.session.fault { s with meter := x, isoIn := t.isoIn } t))

/-! ### Tariffs and billing records (chapter 7) -/

/-- R142, R143, R149, R158: a second advances the clock, which rolls over at 60 seconds, 1,440 minutes and 65,536 days;
a roll into a minute of another band is a boundary, at which an open record is priced and checkpointed and a pending
commit is taken. SET_CLOCK sets the clock and relocates the cursor, pricing and flagging an open record. That the clock stands without
supply, and runs without a boundary in reset and start-up, is the model's choice, log 15. -/
def Obligations.ClockAndBands : Prop :=
  ∀ s : State,
    let b := s.billing
    let c := b.clock
    let tick : Clock :=
      if c.second < 59 then { c with second := c.second + 1, secondStamp := s.now }
      else if c.minute < 1439 then { c with second := 0, minute := c.minute + 1, secondStamp := s.now }
      else { c with second := 0, minute := 0, day := (c.day + 1) % 65536, secondStamp := s.now }
    let page := b.tariff.page b.tariff.selector
    let other := b.tariff.page (!b.tariff.selector)
    let preferred : List Band → Nat → BudgetPosting := fun p k => .preferred (p.getD k {}).preferred
    let powered := s.power.part ∈ [.run, .standby, .sleep, .supplyHold]
    (s.power.part = .off → exec .clockSecond s = .next s) ∧
    (s.power.part ≠ .off →
      ¬ powered ∨ c.second < 59 ∨ c.valid = false ∨ bandAt page tick.minute = b.cursor.band →
      exec .clockSecond s = .next { s with billing := { b with clock := tick } }) ∧
    (powered → 59 ≤ c.second → c.valid = true → bandAt page tick.minute ≠ b.cursor.band →
      (b.openSlot = none → b.commitPending = false →
        exec .clockSecond s = .next
          { s with
            billing := { b with clock := tick, cursor := ⟨b.tariff.selector, bandAt page tick.minute⟩ }
            budgetIn := s.budgetIn ++ [preferred page (bandAt page tick.minute)] }) ∧
      (∀ i, b.openSlot = some i → ∃ t, exec .clockSecond s = .next t ∧
        t.billing.slots = b.slots.set i ⟨.opened, checkpointed s.meter.channel 0 0 (priced s i)⟩ ∧
        t.billing.clock = tick ∧ t.billing.commitPending = false ∧ t.meter = marksMoved s.meter ∧
        checkpointTaken s t i ∧
        (b.commitPending = false →
          t.billing.tariff = b.tariff ∧ t.billing.cursor = ⟨b.tariff.selector, bandAt page tick.minute⟩ ∧
          t.budgetIn = s.budgetIn ++ [preferred page (bandAt page tick.minute)] ∧ t.link = s.link) ∧
        (b.commitPending = true →
          t.billing.tariff = { b.tariff with selector := !b.tariff.selector } ∧
          t.billing.cursor = ⟨!b.tariff.selector, bandAt other tick.minute⟩ ∧
          t.budgetIn = s.budgetIn ++ [preferred other (bandAt other tick.minute)] ∧
          waits t (.tariff t.billing.tariff) ∧ notices [.tariff] s t) ∧
        onlyChanges [.billing, .meter, .nv, .link, .budgetIn] s t)) ∧
    (∀ (tag : Byte) (day minute second : Nat), mayServe s →
      let legal := day ≤ 65535 ∧ minute ≤ 1439 ∧ second ≤ 59
      let set : Clock := { day := day, minute := minute, second := second, valid := true, secondStamp := s.now }
      let k := bandAt page minute
      (¬ legal → refusedWith (.setClock tag day minute second) 0x70 tag .badValue s) ∧
      (legal → b.openSlot = none →
        exec (.setClock tag day minute second) s = .next
          { replied s 0x70 tag [byte Status.ok.code] with
            billing := { b with clock := set, cursor := ⟨b.tariff.selector, k⟩ }
            budgetIn := s.budgetIn ++ [preferred page k] }) ∧
      (∀ i, legal → b.openSlot = some i →
        let r := priced s i
        ∃ t, exec (.setClock tag day minute second) s = .next t ∧
          t.billing =
            { b with
              clock := set, cursor := ⟨b.tariff.selector, k⟩, checkpoint := some s.now
              slots := b.slots.set i
                ⟨.opened, checkpointed s.meter.channel 0 0 { r with flags := { r.flags with clockAdjusted := true } }⟩ } ∧
          t.meter = marksMoved s.meter ∧ checkpointTaken s t i ∧ t.budgetIn = s.budgetIn ++ [preferred page k] ∧
          answers 0x70 tag .ok [] [] s t ∧ onlyChanges [.billing, .meter, .nv, .link, .budgetIn] s t)) ∧
    (∀ (p : List Band) (m : Nat), pageValid p = true →
      let k := bandAt p m
      k < p.length ∧ (p.getD k {}).start ≤ m ∧ ∀ j, k < j → j < p.length → m < (p.getD j {}).start)

/-- R144, R145, R146, R147, R148: TARIFF_WRITE is checked in order and replaces the whole WRITABLE page; TARIFF_COMMIT
swaps the pages at once with no record open, and else stays pending, which TARIFF_CANCEL withdraws. The one-byte
answers of COMMIT and CANCEL are log 11. -/
def Obligations.TariffRequests : Prop :=
  ∀ (s : State) (tag : Byte), mayServe s →
    let b := s.billing
    let other := b.tariff.page (!b.tariff.selector)
    let ok := byte Status.ok.code
    (∀ (page : Nat) (bands : List BandEntry),
      let cmd := Instr.tariffWrite tag page bands
      let legal :=
        page ≤ 1 ∧ 1 ≤ bands.length ∧ bands.length ≤ 8 ∧ ∀ x ∈ bands, x.start ≤ 1439 ∧ x.preferred ≤ 1
      let writable := decide (page = 1) = !b.tariff.selector ∧ b.commitPending = false
      let digits := ∀ x ∈ bands, ∀ k, k < 6 → x.price / 16 ^ k % 16 ≤ 9
      let value : Nat → Nat := fun p => ((List.range 6).map fun k => p / 16 ^ k % 16 * 10 ^ k).sum
      let l : List Band := bands.map fun x => ⟨x.start, value x.price, decide (x.preferred = 1)⟩
      (¬ legal → refusedWith cmd 0x71 tag .badValue s) ∧
      (legal → ¬ writable → refusedWith cmd 0x71 tag .protectedPage s) ∧
      (legal → writable → ¬ digits → refusedWith cmd 0x71 tag .badDecimal s) ∧
      (legal → writable → digits →
        exec cmd s = .next
          { replied s 0x71 tag [ok] with
            billing :=
              { b with
                tariff := if page = 1 then { b.tariff with page1 := l } else { b.tariff with page0 := l } } })) ∧
    (let valid :=
        other ≠ [] ∧ (other.getD 0 {}).start = 0 ∧
          ∀ i, i + 1 < other.length → (other.getD i {}).start < (other.getD (i + 1) {}).start
     (b.commitPending = true → exec (.tariffCommit tag) s = .next (replied s 0x73 tag [ok, 0])) ∧
     (b.commitPending = false → ¬ valid → refusedWith (.tariffCommit tag) 0x73 tag .badTable s) ∧
     (b.commitPending = false → valid → b.openSlot ≠ none ∨ b.reservation ≠ none →
        exec (.tariffCommit tag) s = .next
          { replied (noticed [.tariff] s) 0x73 tag [ok, 0] with billing := { b with commitPending := true } }) ∧
     (b.commitPending = false → valid → b.openSlot = none → b.reservation = none →
        let k := if b.clock.valid = true then bandAt other b.clock.minute else 0
        ∃ t, exec (.tariffCommit tag) s = .next t ∧ answers 0x73 tag .ok [1] [.tariff] s t ∧
          t.billing =
            { b with
              tariff := { b.tariff with selector := !b.tariff.selector }, cursor := ⟨!b.tariff.selector, k⟩ } ∧
          waits t (.tariff t.billing.tariff) ∧ t.budgetIn = s.budgetIn ++ [.preferred (other.getD k {}).preferred] ∧
          onlyChanges [.billing, .nv, .link, .budgetIn] s t)) ∧
    (b.commitPending = true →
      exec (.tariffCancel tag) s = .next
        { replied (noticed [.tariff] s) 0x74 tag [ok, 1] with billing := { b with commitPending := false } }) ∧
    (b.commitPending = false → exec (.tariffCancel tag) s = .next (replied s 0x74 tag [ok, 0]))

/-- R158, R161, R163: RELEASE_RECORD makes a CLOSED record COLLECTED and writes it through, and is refused of the OPEN
one; the checkpoint period checkpoints the open record with its unpriced energy; the rewrite period queues every slot
that is behind. -/
def Obligations.LogCommands : Prop :=
  ∀ s : State,
    let b := s.billing
    (∀ (tag : Byte) (n i : Nat), mayServe s → b.findNumber n = some i →
      ((b.slot i).st = .closed →
        ∃ t, exec (.releaseRecord tag n) s = .next t ∧ answers 0x76 tag .ok [] [] s t ∧
          t.billing = { b with slots := b.slots.set i ⟨.collected, (b.slot i).record⟩ } ∧
          waits t (.slot i (t.billing.slot i)) ∧ onlyChanges [.billing, .nv, .link] s t) ∧
      ((b.slot i).st = .collected →
        exec (.releaseRecord tag n) s = .next (replied s 0x76 tag [byte Status.ok.code])) ∧
      ((b.slot i).st = .opened → refusedWith (.releaseRecord tag n) 0x76 tag .state s)) ∧
    (s.power.part = .run → b.checkpoint = none ∨ b.openSlot = none →
      exec .checkpointPeriodExpiry s = .next s) ∧
    (∀ i, s.power.part = .run → b.checkpoint ≠ none → b.openSlot = some i →
      let d := s.meter.channel
      ∃ t, exec .checkpointPeriodExpiry s = .next t ∧
        t.billing =
          { b with
            checkpoint := some s.now
            slots := b.slots.set i ⟨.opened, checkpointed d d.gridDelta d.heatDelta (b.slot i).record⟩ } ∧
        t.meter = { s.meter with lastWrite := if s.meter.lastWrite = .failed then .failed else .pending } ∧
        checkpointTaken s t i ∧ onlyChanges [.billing, .meter, .nv] s t) ∧
    (s.power.part ∉ [.run, .standby, .sleep] ∨ b.rewrite = none → exec .rewritePeriodExpiry s = .next s) ∧
    (s.power.part ∈ [.run, .standby, .sleep] → b.rewrite ≠ none →
      ∃ t, exec .rewritePeriodExpiry s = .next t ∧
        t.billing = { b with rewrite := if (List.range 24).any fun i => b.behind.getD i false then some s.now else none } ∧
        (∀ i, i < 24 → b.behind.getD i false = true → waits t (.slot i (b.slot i))) ∧
        onlyChanges [.billing, .nv] s t)

/-- R151, R152, R153, R154: a pricing point divides the deltas, carries the remainders, chooses the segment and adds
the costs, and keeps the law of costs (an empty last segment takes the band's price, log 21); the settling at the close rounds each remainder and the three totals. -/
def Obligations.PricingPoints : Prop :=
  ∀ r : Record,
    (∀ (c : Cursor) (price dGrid dHeat : Nat),
      let h := min dHeat dGrid
      let whC := (r.remC + (dGrid - h)) / 1000
      let whH := (r.remH + h) / 1000
      let t := r.pricePoint c price dGrid dHeat
      t.remC = (r.remC + (dGrid - h)) % 1000 ∧ t.remH = (r.remH + h) % 1000 ∧
      t.flags.heatClamped = (r.flags.heatClamped || decide (dGrid < dHeat)) ∧
      (whC = 0 → whH = 0 → t.segments = r.segments ∧ t.chargeCost = r.chargeCost ∧ t.heatCost = r.heatCost) ∧
      (∀ l, r.segments.getLast? = some l → 0 < whC ∨ 0 < whH →
        let same := l.page = c.page ∧ l.band = c.band
        let empty := l.chargeWh = 0 ∧ l.heatWh = 0
        let fresh := ¬ same ∧ ¬ empty ∧ r.segments.length < 12
        let base : Segment :=
          if same ∧ ¬ empty then l
          else if fresh then { page := c.page, band := c.band, price := price }
          else { l with page := c.page, band := c.band, price := price }
        t.segments =
          (if fresh then r.segments else r.segments.dropLast) ++
            [{ base with
               chargeWh := base.chargeWh + whC, heatWh := base.heatWh + whH
               chargeCost := min 999999999999 (base.chargeCost + whC * price)
               heatCost := min 999999999999 (base.heatCost + whH * price) }] ∧
        t.chargeCost = min 999999999999 (r.chargeCost + whC * price) ∧
        t.heatCost = min 999999999999 (r.heatCost + whH * price) ∧
        t.flags.costSaturated =
          (r.flags.costSaturated ||
            decide (999999999999 < base.chargeCost + whC * price ∨ 999999999999 < base.heatCost + whH * price ∨
              999999999999 < r.chargeCost + whC * price ∨ 999999999999 < r.heatCost + whH * price)) ∧
        t.flags.segmentsMerged = (r.flags.segmentsMerged || decide (¬ same ∧ ¬ empty ∧ 12 ≤ r.segments.length)) ∧
        (costLaw r → (same → ¬ empty → l.price = price) → t.flags.costSaturated = false → t.flags.segmentsMerged = false →
          costLaw t))) ∧
    (∀ l, r.segments.getLast? = some l →
      let up : Nat → Nat := fun x => if 500 ≤ x then 1 else 0
      let cents : Nat → Nat := fun x => min 9999999 ((x + 50000) / 100000)
      let t := r.settle
      t.remC = 0 ∧ t.remH = 0 ∧
        t.segments =
          r.segments.dropLast ++
            [{ l with
               chargeWh := l.chargeWh + up r.remC, heatWh := l.heatWh + up r.remH
               chargeCost := min 999999999999 (l.chargeCost + up r.remC * l.price)
               heatCost := min 999999999999 (l.heatCost + up r.remH * l.price) }] ∧
        t.chargeCost = min 999999999999 (r.chargeCost + up r.remC * l.price) ∧
        t.heatCost = min 999999999999 (r.heatCost + up r.remH * l.price) ∧
        t.flags.costSaturated =
          (r.flags.costSaturated ||
            decide (999999999999 < l.chargeCost + up r.remC * l.price ∨ 999999999999 < l.heatCost + up r.remH * l.price ∨
              999999999999 < r.chargeCost + up r.remC * l.price ∨ 999999999999 < r.heatCost + up r.remH * l.price)) ∧
        t.chargeTotal = cents t.chargeCost ∧ t.heatTotal = cents t.heatCost ∧
        t.grandTotal = cents (t.chargeCost + t.heatCost))

/-! ### The NV store (section 8.4) -/

/-- R177, R178, R179, R180: SAVE_SETTINGS queues the settings as they stand; the store begins SUPPLY_LOSS writes, then a
retry held back, then record slots, then the rest, each in the order queued, into the copy that does not hold the
newest good content; a write whose verify fails is made once more, and a second failure is its owner's, a slot's
record and what waits for the slot being flagged NV_FAULT (R161). A queue that holds the retry back behind SUPPLY_LOSS
writes is one in SUPPLY_HOLD. The model's choices are the retry's place before the ordinary slot writes, where R178 gives only
that it follows every SUPPLY_LOSS write, that a write of the area that is over gives it up, and that an area with neither copy
good is written in its first copy, where R177 leaves either (log 14); and what is shown of a settings write that ends while
another waits, and that a slot's failure starts the rewrite period during start-up too (log 21). The order among SUPPLY_LOSS
writes is R178's, also where R160 would have a closing slot before totals queued earlier (log 10). -/
def Obligations.NvWrites : Prop :=
  (∀ (s : State) (tag : Byte), mayServe s →
    ∃ t, exec (.saveSettings tag) s = .next t ∧
      waits t (.settings
        { table := s.budget.table, params := s.budget.params, policy := s.heating.policy
          zones := s.heating.zones.map fun z => ⟨z.enabled, z.target, z.hyst⟩, iso := s.iso.params
          searchList := s.iso.searchList, roster := s.stage.nodes.map fun n => n.expected }) ∧
      t.power = { s.power with settingsWrite := .pending } ∧ answers 0x05 tag .ok [] [] s t ∧
      onlyChanges [.nv, .power, .link] s t) ∧
  (∀ s : State,
    let v := s.nv
    (v.inFlight ≠ none ∨ (v.queue = [] ∧ v.deferred = none) → exec .nvWriteBegin s = .next s) ∧
    (∀ f, v.inFlight = none → v.queue.find? NvWrite.supplyLoss = none → v.deferred = some f →
      exec .nvWriteBegin s = .next { s with nv := { v with inFlight := some f, deferred := none } }) ∧
    (∀ w, v.inFlight = none →
      v.queue.find? NvWrite.supplyLoss = some w ∨
        (v.queue.find? NvWrite.supplyLoss = none ∧ v.deferred = none ∧
          (v.queue.find? NvWrite.isSlot = some w ∨
            (v.queue.find? NvWrite.isSlot = none ∧ v.queue.head? = some w))) →
      exec .nvWriteBegin s = .next
        { s with
          nv :=
            { v.startWrite w.content s.freeCount with
              inFlight := some ⟨w, false⟩
              queue := v.queue.filter fun x => x.content.area != w.content.area }
          freeCount := s.freeCount + 1 }) ∧
    (v.inFlight = none → ∀ b, exec (.nvWriteComplete b) s = .next s) ∧
    (∀ f, v.inFlight = some f →
      let c := f.write.content
      let left := v.deferred.filter fun g => g.write.content.area != c.area
      let waiting := if v.queue.any fun w => w.content.area == c.area then WriteState.pending else .done
      let done : State := { s with nv := { v.endWrite c with inFlight := none, deferred := left } }
      let failed : Nv := { v with inFlight := none, deferred := left }
      (match c with
        | .settings _ =>
          exec (.nvWriteComplete true) s = .next { done with power := { s.power with settingsWrite := waiting } }
        | .totals _ => exec (.nvWriteComplete true) s = .next { done with meter := { s.meter with lastWrite := waiting } }
        | .slot i _ =>
          exec (.nvWriteComplete true) s = .next
            { done with
              billing :=
                { s.billing with
                  behind := s.billing.behind.set i false
                  rewrite := if (s.billing.behind.set i false).any id then s.billing.rewrite else none } }
        | .tariff _ => exec (.nvWriteComplete true) s = .next done
        | .isoMemory _ => exec (.nvWriteComplete true) s = .next done) ∧
      (f.second = false →
        s.power.part ≠ .supplyHold ∨ f.write.supplyLoss = true ∨ (∀ w ∈ v.queue, w.supplyLoss = false) →
        exec (.nvWriteComplete false) s = .next { s with nv := { v with inFlight := some { f with second := true } } }) ∧
      (f.second = false → s.power.part = .supplyHold → f.write.supplyLoss = false →
        (∃ w ∈ v.queue, w.supplyLoss = true) →
        exec (.nvWriteComplete false) s = .next
          { s with nv := { failed with deferred := some { f with second := true } } }) ∧
      (f.second = true →
        match c with
        | .settings _ =>
          exec (.nvWriteComplete false) s = .next
            { noticed [.part] s with
              nv := { failed with failSettings := true }, power := { s.power with settingsWrite := .failed } }
        | .totals _ =>
          exec (.nvWriteComplete false) s = .next
            { noticed [.part] s with
              nv := { failed with failTotals := true }, meter := { s.meter with lastWrite := .failed } }
        | .tariff _ =>
          exec (.nvWriteComplete false) s = .next { noticed [.part] s with nv := { failed with failTariff := true } }
        | .isoMemory _ =>
          exec (.nvWriteComplete false) s = .next { noticed [.part] s with nv := { failed with failIso := true } }
        | .slot i _ =>
          ∃ t, exec (.nvWriteComplete false) s = .next t ∧
            t.nv = { failed with queue := v.queue.map fun w => { w with content := w.content.faulted i } } ∧
            (i < s.billing.slots.length → (t.billing.slot i).record.flags.nvFault = true) ∧
            t.billing.behind = s.billing.behind.set i true ∧ t.billing.rewrite ≠ none ∧
            onlyChanges [.nv, .billing] s t))) ∧
  ∀ (α : Type) (x : Area α) (k : Nat) (c : α),
    (∀ q y b, newest x = some (q, y, b) →
      newest (startCopy x k) = some (q, y, b) ∧ newest (endCopy (startCopy x k) c) = some (q + 1, c, !b)) ∧
    (newest x = none → newest (startCopy x k) = none ∧ ∃ q, newest (endCopy (startCopy x k) c) = some (q, c, false))

/-! ### Operating states, supply loss and start-up (chapter 8) -/

/-- R127, R168, R169, R170, R192: SET_POWER_STATE is refused unless its conditions hold, and then every block takes the entry,
which is complete once no transaction is in flight; a wake source hands every block the return to RUN, or is held
until the entry is complete; a WAKE line found asserted is such a source, and the reply to SLEEP then switches nothing off.
At the return the session takes its inputs as they stand: the temperatures and, of a locked
FINISHED, a lock feedback that was lost (R5, R19; logs 13, 19), which is taken before a class found changed with it (log 22:
the model's choice). -/
def Obligations.PowerStates : Prop :=
  (∀ (s : State) (tag : Byte), mayServe s →
    let rest :=
      (s.session.st = .idle ∨ s.session.st = .finished) ∧ (∀ z ∈ s.heating.zones, z.heat ≠ .heating) ∧
        s.iso.st ≠ .searching ∧ s.link.requests = [] ∧ s.power.hostReset = false
    (∀ n, 2 < n → refusedWith (.setPowerState tag n) 0x04 tag .badValue s) ∧
    exec (.setPowerState tag 0) s = .next (replied s 0x04 tag [byte Status.ok.code]) ∧
    (¬ rest → refusedWith (.setPowerState tag 1) 0x04 tag .state s ∧ refusedWith (.setPowerState tag 2) 0x04 tag .state s) ∧
    (rest → s.pins.wake = false → s.stage.nodes.length = 11 → ∀ n, n = 1 ∨ n = 2 →
      ∃ t, exec (.setPowerState tag n) s = .next t ∧ rested (if n = 1 then .standby else .sleep) s t ∧
        t.power = { s.power with part := if n = 1 then .standby else .sleep, heldWake := none } ∧
        t.link.replies = s.link.replies ++ [⟨0x84, tag, [byte Status.ok.code], if n = 2 then .sleepAck else .plain⟩] ∧
        t.link.requests = [] ∧
        (s.stage.inFlight = none → linkResting s t) ∧
        (s.stage.inFlight ≠ none → t.stage = { s.stage with entryWait := true }) ∧
        onlyChanges
          [.power, .heating, .meter, .nv, .iso, .isoIn, .budget, .budgetIn, .stage, .link, .session, .pins] s t) ∧
    (rest → s.pins.wake = true → s.stage.inFlight = none → ∀ n, n = 1 ∨ n = 2 →
      ∃ t, exec (.setPowerState tag n) s = .next t ∧
        t.power = { s.power with part := .run, lastWake := .wakeLine, heldWake := none } ∧
        t.link.on = true ∧ NoticeKind.part ∈ t.link.notices ∧ t.stage.supplyOn = true ∧ t.meter.period = some s.now ∧
        t.link.replies =
          (s.link.replies.map fun r => { r with mark := r.mark.awake }) ++
            [⟨0x84, tag, [byte Status.ok.code], .plain⟩])) ∧
  (∀ s : State,
    let low := s.power.part = .standby ∨ s.power.part = .sleep
    let p : State := { s with pins := { s.pins with wake := true } }
    exec (.wakeLine false) s = .next { s with pins := { s.pins with wake := false } } ∧
    (¬ low → exec (.wakeLine true) s = .next p) ∧
    (low → s.stage.entryWait = true →
      exec (.wakeLine true) s = .next
        { p with power := { s.power with heldWake := some (s.power.heldWake.getD .wakeLine) } }) ∧
    (low → s.stage.entryWait = false →
      (∃ t, exec (.wakeLine true) s = .next t ∧ returned .wakeLine s t ∧
        t.session.temp1 = s.pins.sensor1 ∧ t.session.temp2 = s.pins.sensor2 ∧
        (s.session.following = true → s.session.st = .finished → s.session.lock = .engaged → s.pins.lockFb = false →
          t.session.st = .faulted ∧ t.session.fault = some .lockFail)) ∧
      (∀ r, plugClassOf r ≠ s.session.watchProx →
        ∃ t, exec (.proximityClassChange r) s = .next t ∧ returned .plug s t) ∧
      (∀ sig c d, pilotClassOf sig = some (c, d) → c ≠ s.session.watchPilot →
        ∃ t, exec (.pilotClassChange sig) s = .next t ∧ returned .pilot s t)) ∧
    (low → s.stage.entryWait = true → ∀ x, s.stage.inFlight = some x → x.abandon = false → 4 ≤ x.attempt →
      x.phase ≠ .retryWait → (s.node x.addr).st = .active → s.iso.search.under = none → s.stage.nodes.length = 11 →
      (s.power.heldWake = none → ∃ t, exec .slotWaitTimeout s = .next t ∧ linkResting s t ∧ t.power = s.power) ∧
      (∀ src, s.power.heldWake = some src →
        ∃ t, exec .slotWaitTimeout s = .next t ∧ t.power.part = .run ∧ t.power.lastWake = src ∧
          t.stage.entryWait = false ∧ t.stage.supplyOn = true ∧ t.meter.period = some s.now)))

/-- R6, R22, R138, R160, R171, R172: SUPPLY_WARN hands every block the entry to SUPPLY_HOLD, where a charging session holds STOPPING
with its contactors opening and its record, priced and settled, is closed with SUPPLY_LOSS and queued as a supply-loss write, a
pending commit withdrawn, and the declared phase count is posted 0; its release starts the dwell, a reassertion stops it, and its expiry makes the SUPPLY_DIP start-up due.
That the entry during start-up is the same, and that a part without supply or in reset takes the level alone, is log 17;
that the lock drive and the load are released and that the opening timeout settles the contactors there is log 19, and that the
meter's POS_SAT and NEG_SAT stay is log 21: the model's choices. -/
def Obligations.SupplyWarning : Prop :=
  ∀ s : State,
    let hold := s.power.part = .supplyHold
    let warned : Pins := { s.pins with supplyWarn := true }
    (hold → exec .supplyWarn s = .next { s with pins := warned, power := { s.power with dwell := none } }) ∧
    (s.power.part = .heldInReset ∨ s.power.part = .off → exec .supplyWarn s = .next { s with pins := warned }) ∧
    (s.power.part ∈ [.run, .standby, .sleep, .startUp] → ∃ t, exec .supplyWarn s = .next t ∧
      t.power =
        { s.power with
          part := .supplyHold, heldWake := none, hostReset := false, resetAcked := false, dwell := none
          dipDue := false } ∧
      t.pins.supplyWarn = true ∧ t.pins.lockDrive = .released ∧ t.pins.cpLoad = false ∧
      (s.session.st ∈ [.energising, .active, .paused] →
        t.session.st = .stopping ∧ t.session.stopCause = some .supplyLoss ∧ t.session.dcRequest = 0 ∧
          t.session.acK = s.session.acK.commandedOpen.settled s.pins.kacFb ∧
          t.session.dcK = s.session.dcK.commandedOpen.settled (s.pins.kdcpFb || s.pins.kdcnFb) ∧
          t.session.openTimer = (if s.pins.allOpen then none else some s.now) ∧
          (s.pins.allOpen = true → s.session.mode = some .dc → t.iso.dcContext = false ∧ t.iso.dcClosed = false) ∧
          t.pins.kacDrive = false ∧ t.pins.kdcpDrive = false ∧ t.pins.kdcnDrive = false) ∧
      t.meter.live = {} ∧ t.meter.period = none ∧ t.meter.totals = s.meter.totals ∧
      (s.billing.openSlot = none → t.billing = s.billing) ∧
      (∀ i, s.billing.openSlot = some i →
        t.billing = { closedBilling s i .supplyLoss with commitPending := false } ∧
          t.meter.channel = { (marksMoved s.meter).channel with isOpen := false } ∧
          NoticeKind.record ∈ t.link.notices ∧ BudgetPosting.phases 0 ∈ t.budgetIn ∧
          ∃ w ∈ t.nv.queue, w.content = .slot i (closedImage s i .supplyLoss) ∧ w.supplyLoss = true) ∧
      (∃ w ∈ t.nv.queue, w.content = .totals s.meter.totals ∧ w.supplyLoss = true) ∧
      t.heating.source = .none ∧ t.heating.heatPeriod = none ∧ (∀ z ∈ t.heating.zones, z.heat ≠ .heating) ∧
      t.iso.st = .off ∧ t.budget.period = none ∧
      t.stage.safeStop = (s.stage.safeStop || s.stage.supplyOn) ∧ NoticeKind.part ∈ t.link.notices ∧
      onlyChanges
        [.power, .pins, .session, .heating, .iso, .stage, .meter, .billing, .nv, .link, .budget, .budgetIn] s t) ∧
    (hold → s.session.st = .stopping →
      let settled : Pins → Session := fun p =>
        { s.session with
          acK := s.session.acK.settled p.kacFb, dcK := s.session.dcK.settled (p.kdcpFb || p.kdcnFb) }
      (∀ k p, p = s.pins.setFb k false → p.allOpen = false →
        exec (.contactorOpened k) s = .next { s with pins := p, session := settled p }) ∧
      (∀ k p, p = s.pins.setFb k false → p.allOpen = true → s.session.openTimer ≠ none → s.session.mode ≠ some .dc →
        exec (.contactorOpened k) s = .next { s with pins := p, session := { settled p with openTimer := none } }) ∧
      (∀ k p, p = s.pins.setFb k false → p.allOpen = true → s.session.openTimer ≠ none → s.session.mode = some .dc →
        ∃ t, exec (.contactorOpened k) s = .next t ∧ t.iso = s.iso.dcOpened s.now ∧ t.session.openTimer = none ∧
          t.session.acK = (settled p).acK ∧ t.session.dcK = (settled p).dcK ∧ t.session.st = .stopping ∧
          onlyChanges [.session, .pins, .iso, .link, .budgetIn] s t) ∧
      (s.session.openTimer ≠ none → s.session.mode ≠ some .dc →
        exec .openingFeedbackTimeout s = .next { s with session := { settled s.pins with openTimer := none } })) ∧
    (let p : State := { s with pins := { s.pins with supplyWarn := false } }
     (hold → s.power.dipDue = false →
        exec .supplyWarnRelease s = .next { p with power := { s.power with dwell := some s.now } }) ∧
     (¬ hold ∨ s.power.dipDue = true → exec .supplyWarnRelease s = .next p)) ∧
    (hold → s.power.dwell ≠ none →
      exec .warningClearDwellExpiry s = .next { s with power := { s.power with dwell := none, dipDue := true } }) ∧
    (¬ hold ∨ s.power.dwell = none → exec .warningClearDwellExpiry s = .next s)

/-- R29, R70, R142, R165, R173, R174, R175, R176, R193: a RESET is pending until no record is open, the NV queue is empty and
every reply has gone out, and then restarts the part; the reset line holds it with every drive released and restarts it at
the release; a part without supply starts with POWER_ON; start-up completes into RUN, where a session whose classes were
both taken makes its first move. The two forms of START_UP are log 2, that every reply is waited for is log 10, the drives and the
node supply of a part in reset or without supply are log 20, that a RESET in ENERGISING with every contact open ends its stop
in the same step is log 8, the inlet temperatures absent after a restart are log 13, and the one POWER_ON start-up of a part whose supply was off while the
reset line was asserted is log 21: the model's choices. -/
def Obligations.ResetsAndStartUp : Prop :=
  ∀ s : State,
    let quiet := s.nv.queue = [] ∧ s.nv.inFlight = none ∧ s.nv.deferred = none
    let ready :=
      s.power.part = .run ∧ s.power.hostReset = true ∧ s.billing.openSlot = none ∧ quiet ∧
        s.power.resetAcked = true ∧ s.link.replies = [] ∧ ∀ f, s.link.tx = some f → f.notice = true
    (∀ tag, mayServe s →
      let p := { s.power with hostReset := true, resetAcked := false }
      let replies := s.link.replies ++ [⟨0x83, tag, [byte Status.ok.code], .resetAck⟩]
      (s.session.st ∉ [.energising, .active, .paused] →
        exec (.reset tag) s = .next { s with power := p, link := { s.link with replies := replies } }) ∧
      (s.session.st ∈ [.energising, .active, .paused] → ¬ contactsOpen s →
        ∃ t, exec (.reset tag) s = .next t ∧ t.power = p ∧ t.session.st = .stopping ∧
          t.session.stopCause = some .hostReset ∧ t.link.replies = replies ∧
          onlyChanges [.power, .session, .pins, .heating, .link, .budgetIn] s t) ∧
      (s.session.st = .energising → contactsOpen s →
        ∃ t, exec (.reset tag) s = .next t ∧ stopDone (some .hostReset) s.session.fault { s with power := p } t ∧
          t.link.replies = replies)) ∧
    (¬ ready → exec .hostResetGo s = .next s) ∧
    (ready → ∃ t, exec .hostResetGo s = .next t ∧ restarted .hostRequest s t) ∧
    (s.power.part = .off → exec .resetLineAssert s = .next { s with pins := { s.pins with resetLine := true } }) ∧
    (s.power.part ≠ .off → ∃ t, exec .resetLineAssert s = .next t ∧
      t.power.part = .heldInReset ∧ t.pins.resetLine = true ∧ drivesReleased s t ∧ nvStands s t ∧
      t.link = {} ∧ t.stage.inFlight = none ∧ t.iso.st = .off ∧ t.billing.clock = s.billing.clock ∧
      t.heating.departure = s.heating.departure) ∧
    (∃ t, exec .supplyFailure s = .next t ∧ t.power.part = .off ∧ nvStands s t ∧ drivesReleased s t) ∧
    (s.power.part = .off → ∃ t, exec (.startUp false) s = .next t ∧ restarted .powerOn s t) ∧
    (s.power.part = .heldInReset →
      ∃ t, exec (.startUp false) s = .next t ∧ restarted .resetLine s t ∧ t.pins.resetLine = false) ∧
    (s.power.part = .supplyHold → s.power.dipDue = true → quiet →
      ∃ t, exec (.startUp false) s = .next t ∧ restarted .supplyDip s t) ∧
    (s.power.part = .supplyHold → s.power.dipDue = false ∨ ¬ quiet → ∀ b, exec (.startUp b) s = .next s) ∧
    (s.power.part ∈ [.run, .standby, .sleep] → ∀ b, exec (.startUp b) s = .next s) ∧
    (s.power.part = .startUp → exec (.startUp false) s = .next s ∧
      ∃ t, exec (.startUp true) s = .next t ∧ t.power = { s.power with part := .run, started := true, lastWake := .none } ∧
        t.stage.supplyOn = true ∧ t.stage.recallTimer = some s.now ∧
        (∀ a ∈ addresses, (s.node a).expected ≠ .none → (⟨.rollCall, a⟩ : StageEntry) ∈ t.stage.normal) ∧
        t.meter.period = some s.now ∧ t.budget.period = some s.now ∧ t.heating.heatPeriod = some s.now ∧
        t.budget.last = evaluate s.budget.input s.budget.params s.budget.table ∧
        (s.billing.openSlot = none → t.billing.cursor = s.billing.located) ∧ NoticeKind.part ∈ t.link.notices ∧
        (s.session.following = false → s.session.proxTaken = true → s.session.pilotTaken = true →
          s.session.watchProx.present = true → s.pins.lockFb = true →
          t.session.st = if s.session.watchPilot = .absent then .unlocking else .authorising))

/-! ### Host link (chapter 9) -/

/-- R182, R183, R184, R185: a good frame taken in HUNT is added to the request queue; with 4 requests waiting it is answered
BUSY, or dropped when no reply can be placed; bytes outside a frame are discarded; a bad check, a LEN above 60, a missing
stop bit and an inter-byte timeout drop the frame and set their flags. A command's bytes are taken one by one. That a
RECEIVE_ERROR for a LEN above 60 acts also after a LEN has been taken is the model's choice (log 7). -/
def Obligations.FramesReceived : Prop :=
  ∀ s : State,
    let receives := s.link.on = true ∧ s.power.part ≠ .heldInReset ∧ s.power.part ≠ .off
    let e := s.link.errors
    let flagged : Bool → LinkErrors → State := fun was e =>
      { noticed (if was then [] else [.link]) s with
        link := { (noticed (if was then [] else [.link]) s).link with framer := .hunt, errors := e } }
    (¬ receives → ∀ l, exec (.hostFrameReceived l) s = .next s) ∧
    (∀ a b t, exec (.hostFrameReceived a) s = .next t →
      exec (.hostFrameReceived (a ++ b)) s = exec (.hostFrameReceived b) t) ∧
    (receives → s.link.framer = .hunt →
      (∀ b, b ≠ 0xC3 → exec (.hostFrameReceived [b]) s = .next s) ∧
      (∀ len, 60 < BitVec.toNat len →
        exec (.hostFrameReceived [0xC3, len]) s = .next (flagged e.rxLength { e with rxLength := true })) ∧
      (∀ kind tag payload, payload.length ≤ 60 →
        (s.power.part ≠ .standby → s.link.requests.length < 4 →
          exec (.hostFrameReceived (hostFrame kind tag payload)) s = .next
            { s with link := { s.link with requests := s.link.requests ++ [⟨kind, tag, payload⟩] } }) ∧
        (s.power.part ≠ .standby → 4 ≤ s.link.requests.length →
          exec (.hostFrameReceived (hostFrame kind tag payload)) s = .next
            { flagged e.queueFull { e with queueFull := true } with
              link :=
                { (flagged e.queueFull { e with queueFull := true }).link with
                  replies :=
                    if s.link.replies.length < 8 then
                      s.link.replies ++ [⟨if kind.toNat < 0x80 then kind + 0x80 else 0xFF, tag, [1], .plain⟩]
                    else s.link.replies } }) ∧
        (s.power.part = .standby → s.stage.entryWait = false → s.link.requests.length < 4 →
          ∃ t, exec (.hostFrameReceived (hostFrame kind tag payload)) s = .next t ∧ returned .hostFrame s t ∧
            t.link.requests = s.link.requests ++ [⟨kind, tag, payload⟩])) ∧
      (∀ body chk, 3 ≤ body.length → body.length ≤ 63 → body.head? = some (byte (body.length - 3)) → chk.length = 2 →
        good16 body (ofBe chk) = false →
        exec (.hostFrameReceived (0xC3 :: body ++ chk)) s = .next (flagged e.rxCheck { e with rxCheck := true }))) ∧
    (¬ receives ∨ s.link.framer = .hunt →
      exec .rxTimeout s = .next s ∧ ∀ x, exec (.receiveError x) s = .next s) ∧
    (receives → s.link.framer ≠ .hunt →
      exec .rxTimeout s = .next (flagged e.rxTimeout { e with rxTimeout := true }) ∧
      exec (.receiveError .lenAbove60) s = .next (flagged e.rxLength { e with rxLength := true }) ∧
      exec (.receiveError .missingStopBit) s = .next (flagged e.rxCheck { e with rxCheck := true })) ∧
    (good16 [0x00, 0x01, 0x2A] 0xD5FE = true ∧ good16 [0x01, 0x23, 0xFF, 0x02] 0xFFD9 = true)

/-- R175, R186, R187, R189, R190, R192: the request at the head of the queue is served as its own command, or answered
UNKNOWN_KIND or BAD_LENGTH; the idle transmitter takes replies before notices; a sent reply to SET_POWER_STATE switches
the link off in SLEEP, and a sent reply to RESET is what the reset waits for. The model's choices are
that replies are sent and notices held during start-up (log 20), that a SUPPLY_HOLD entered before start-up has completed serves
nothing (log 17), and how a notice's payload is laid out (log 11, and the points of log 21 that name PART_STATUS and
HEAT_STATUS). -/
def Obligations.ServeAndSend : Prop :=
  ∀ s : State,
    let unknown : Byte → Byte → State → State := fun kind tag s =>
      { s with
        link :=
          { s.link with
            errors := { s.link.errors with unknownKind := true }
            notices := if s.link.errors.unknownKind then s.link.notices else withNotices [.link] s.link.notices
            replies := s.link.replies ++ [⟨if kind.toNat < 0x80 then kind + 0x80 else 0xFF, tag, [2], .plain⟩] } }
    let sends := s.link.on = true ∧ s.power.part ≠ .heldInReset ∧ s.power.part ≠ .off ∧ s.link.tx = none
    (¬ serves s ∨ s.link.requests = [] → exec .serveRequest s = .next s) ∧
    (∀ r rest, serves s → s.link.requests = r :: rest →
      let p : State := { s with link := { s.link with requests := rest } }
      (∀ c, parseRequest r.kind r.tag r.payload = .request c →
        exec .serveRequest s = exec c p ∧ requestHead c = some (r.kind, r.tag)) ∧
      (parseRequest r.kind r.tag r.payload = .badLength →
        exec .serveRequest s = .next (replied p r.kind r.tag [3])) ∧
      (parseRequest r.kind r.tag r.payload = .unknown → exec .serveRequest s = .next (unknown r.kind r.tag p))) ∧
    (∀ tag kind,
      (serves s → exec (.unknownKind tag kind) s = .next (unknown kind tag s)) ∧
      (¬ serves s → exec (.unknownKind tag kind) s = .next s)) ∧
    (¬ sends ∨ (s.link.replies = [] ∧ (s.link.notices = [] ∨ s.power.part ∉ [.run, .standby, .supplyHold])) →
      exec .frameTransmit s = .next s) ∧
    (∀ r rest, sends → s.link.replies = r :: rest →
      exec .frameTransmit s = .next
        { s with link := { s.link with replies := rest, tx := some ⟨r.kind, r.tag, r.payload, r.mark, false⟩ } }) ∧
    (∀ k rest, sends → s.link.replies = [] → s.link.notices = k :: rest →
      s.power.part ∈ [.run, .standby, .supplyHold] →
      exec .frameTransmit s = .next
        { s with link := { s.link with notices := rest, tx := some ⟨byte k.code, 0, noticeBytes s k, .plain, true⟩ } }) ∧
    (s.link.tx = none → exec .frameSent s = .next s) ∧
    (∀ x, s.link.tx = some x →
      let p : State := { s with link := { s.link with tx := none } }
      (x.mark = .plain ∨ (x.mark = .sleepAck ∧ s.power.part ≠ .sleep) → exec .frameSent s = .next p) ∧
      (x.mark = .sleepAck → s.power.part = .sleep →
        exec .frameSent s = .next { p with link := { p.link with on := false, framer := .hunt } }) ∧
      (x.mark = .resetAck →
        exec .frameSent s = .next { p with power := { s.power with resetAcked := s.power.hostReset } }))
end

