-- ==== Sys2Proof/Laws/State.lean ====
section
/-! SUPPORT. One lemma per field per update of `State`, true by unfolding one update, so that no later proof unfolds
a record update. -/

namespace Sys2Proof.Machine

variable (s : State)

/-! ### Change of one block -/

@[simp] theorem State.onSession_session (f : Session → Session) : (s.onSession f).session = f s.session := rfl
@[simp] theorem State.onSession_pins (f : Session → Session) : (s.onSession f).pins = s.pins := rfl
@[simp] theorem State.onSession_budget (f : Session → Session) : (s.onSession f).budget = s.budget := rfl
@[simp] theorem State.onSession_heating (f : Session → Session) : (s.onSession f).heating = s.heating := rfl
@[simp] theorem State.onSession_iso (f : Session → Session) : (s.onSession f).iso = s.iso := rfl
@[simp] theorem State.onSession_stage (f : Session → Session) : (s.onSession f).stage = s.stage := rfl
@[simp] theorem State.onSession_meter (f : Session → Session) : (s.onSession f).meter = s.meter := rfl
@[simp] theorem State.onSession_billing (f : Session → Session) : (s.onSession f).billing = s.billing := rfl
@[simp] theorem State.onSession_nv (f : Session → Session) : (s.onSession f).nv = s.nv := rfl
@[simp] theorem State.onSession_link (f : Session → Session) : (s.onSession f).link = s.link := rfl
@[simp] theorem State.onSession_power (f : Session → Session) : (s.onSession f).power = s.power := rfl
@[simp] theorem State.onSession_budgetIn (f : Session → Session) : (s.onSession f).budgetIn = s.budgetIn := rfl
@[simp] theorem State.onSession_heatIn (f : Session → Session) : (s.onSession f).heatIn = s.heatIn := rfl
@[simp] theorem State.onSession_isoIn (f : Session → Session) : (s.onSession f).isoIn = s.isoIn := rfl
@[simp] theorem State.onSession_now (f : Session → Session) : (s.onSession f).now = s.now := rfl
@[simp] theorem State.onSession_freeCount (f : Session → Session) : (s.onSession f).freeCount = s.freeCount := rfl
@[simp] theorem State.onSession_pending (f : Session → Session) : (s.onSession f).pending = s.pending := rfl

@[simp] theorem State.onPins_session (f : Pins → Pins) : (s.onPins f).session = s.session := rfl
@[simp] theorem State.onPins_pins (f : Pins → Pins) : (s.onPins f).pins = f s.pins := rfl
@[simp] theorem State.onPins_budget (f : Pins → Pins) : (s.onPins f).budget = s.budget := rfl
@[simp] theorem State.onPins_heating (f : Pins → Pins) : (s.onPins f).heating = s.heating := rfl
@[simp] theorem State.onPins_iso (f : Pins → Pins) : (s.onPins f).iso = s.iso := rfl
@[simp] theorem State.onPins_stage (f : Pins → Pins) : (s.onPins f).stage = s.stage := rfl
@[simp] theorem State.onPins_meter (f : Pins → Pins) : (s.onPins f).meter = s.meter := rfl
@[simp] theorem State.onPins_billing (f : Pins → Pins) : (s.onPins f).billing = s.billing := rfl
@[simp] theorem State.onPins_nv (f : Pins → Pins) : (s.onPins f).nv = s.nv := rfl
@[simp] theorem State.onPins_link (f : Pins → Pins) : (s.onPins f).link = s.link := rfl
@[simp] theorem State.onPins_power (f : Pins → Pins) : (s.onPins f).power = s.power := rfl
@[simp] theorem State.onPins_budgetIn (f : Pins → Pins) : (s.onPins f).budgetIn = s.budgetIn := rfl
@[simp] theorem State.onPins_heatIn (f : Pins → Pins) : (s.onPins f).heatIn = s.heatIn := rfl
@[simp] theorem State.onPins_isoIn (f : Pins → Pins) : (s.onPins f).isoIn = s.isoIn := rfl
@[simp] theorem State.onPins_now (f : Pins → Pins) : (s.onPins f).now = s.now := rfl
@[simp] theorem State.onPins_freeCount (f : Pins → Pins) : (s.onPins f).freeCount = s.freeCount := rfl
@[simp] theorem State.onPins_pending (f : Pins → Pins) : (s.onPins f).pending = s.pending := rfl

@[simp] theorem State.onBudget_session (f : Budget → Budget) : (s.onBudget f).session = s.session := rfl
@[simp] theorem State.onBudget_pins (f : Budget → Budget) : (s.onBudget f).pins = s.pins := rfl
@[simp] theorem State.onBudget_budget (f : Budget → Budget) : (s.onBudget f).budget = f s.budget := rfl
@[simp] theorem State.onBudget_heating (f : Budget → Budget) : (s.onBudget f).heating = s.heating := rfl
@[simp] theorem State.onBudget_iso (f : Budget → Budget) : (s.onBudget f).iso = s.iso := rfl
@[simp] theorem State.onBudget_stage (f : Budget → Budget) : (s.onBudget f).stage = s.stage := rfl
@[simp] theorem State.onBudget_meter (f : Budget → Budget) : (s.onBudget f).meter = s.meter := rfl
@[simp] theorem State.onBudget_billing (f : Budget → Budget) : (s.onBudget f).billing = s.billing := rfl
@[simp] theorem State.onBudget_nv (f : Budget → Budget) : (s.onBudget f).nv = s.nv := rfl
@[simp] theorem State.onBudget_link (f : Budget → Budget) : (s.onBudget f).link = s.link := rfl
@[simp] theorem State.onBudget_power (f : Budget → Budget) : (s.onBudget f).power = s.power := rfl
@[simp] theorem State.onBudget_budgetIn (f : Budget → Budget) : (s.onBudget f).budgetIn = s.budgetIn := rfl
@[simp] theorem State.onBudget_heatIn (f : Budget → Budget) : (s.onBudget f).heatIn = s.heatIn := rfl
@[simp] theorem State.onBudget_isoIn (f : Budget → Budget) : (s.onBudget f).isoIn = s.isoIn := rfl
@[simp] theorem State.onBudget_now (f : Budget → Budget) : (s.onBudget f).now = s.now := rfl
@[simp] theorem State.onBudget_freeCount (f : Budget → Budget) : (s.onBudget f).freeCount = s.freeCount := rfl
@[simp] theorem State.onBudget_pending (f : Budget → Budget) : (s.onBudget f).pending = s.pending := rfl

@[simp] theorem State.onHeating_session (f : Heating → Heating) : (s.onHeating f).session = s.session := rfl
@[simp] theorem State.onHeating_pins (f : Heating → Heating) : (s.onHeating f).pins = s.pins := rfl
@[simp] theorem State.onHeating_budget (f : Heating → Heating) : (s.onHeating f).budget = s.budget := rfl
@[simp] theorem State.onHeating_heating (f : Heating → Heating) : (s.onHeating f).heating = f s.heating := rfl
@[simp] theorem State.onHeating_iso (f : Heating → Heating) : (s.onHeating f).iso = s.iso := rfl
@[simp] theorem State.onHeating_stage (f : Heating → Heating) : (s.onHeating f).stage = s.stage := rfl
@[simp] theorem State.onHeating_meter (f : Heating → Heating) : (s.onHeating f).meter = s.meter := rfl
@[simp] theorem State.onHeating_billing (f : Heating → Heating) : (s.onHeating f).billing = s.billing := rfl
@[simp] theorem State.onHeating_nv (f : Heating → Heating) : (s.onHeating f).nv = s.nv := rfl
@[simp] theorem State.onHeating_link (f : Heating → Heating) : (s.onHeating f).link = s.link := rfl
@[simp] theorem State.onHeating_power (f : Heating → Heating) : (s.onHeating f).power = s.power := rfl
@[simp] theorem State.onHeating_budgetIn (f : Heating → Heating) : (s.onHeating f).budgetIn = s.budgetIn := rfl
@[simp] theorem State.onHeating_heatIn (f : Heating → Heating) : (s.onHeating f).heatIn = s.heatIn := rfl
@[simp] theorem State.onHeating_isoIn (f : Heating → Heating) : (s.onHeating f).isoIn = s.isoIn := rfl
@[simp] theorem State.onHeating_now (f : Heating → Heating) : (s.onHeating f).now = s.now := rfl
@[simp] theorem State.onHeating_freeCount (f : Heating → Heating) : (s.onHeating f).freeCount = s.freeCount := rfl
@[simp] theorem State.onHeating_pending (f : Heating → Heating) : (s.onHeating f).pending = s.pending := rfl

@[simp] theorem State.onIso_session (f : Insulation → Insulation) : (s.onIso f).session = s.session := rfl
@[simp] theorem State.onIso_pins (f : Insulation → Insulation) : (s.onIso f).pins = s.pins := rfl
@[simp] theorem State.onIso_budget (f : Insulation → Insulation) : (s.onIso f).budget = s.budget := rfl
@[simp] theorem State.onIso_heating (f : Insulation → Insulation) : (s.onIso f).heating = s.heating := rfl
@[simp] theorem State.onIso_iso (f : Insulation → Insulation) : (s.onIso f).iso = f s.iso := rfl
@[simp] theorem State.onIso_stage (f : Insulation → Insulation) : (s.onIso f).stage = s.stage := rfl
@[simp] theorem State.onIso_meter (f : Insulation → Insulation) : (s.onIso f).meter = s.meter := rfl
@[simp] theorem State.onIso_billing (f : Insulation → Insulation) : (s.onIso f).billing = s.billing := rfl
@[simp] theorem State.onIso_nv (f : Insulation → Insulation) : (s.onIso f).nv = s.nv := rfl
@[simp] theorem State.onIso_link (f : Insulation → Insulation) : (s.onIso f).link = s.link := rfl
@[simp] theorem State.onIso_power (f : Insulation → Insulation) : (s.onIso f).power = s.power := rfl
@[simp] theorem State.onIso_budgetIn (f : Insulation → Insulation) : (s.onIso f).budgetIn = s.budgetIn := rfl
@[simp] theorem State.onIso_heatIn (f : Insulation → Insulation) : (s.onIso f).heatIn = s.heatIn := rfl
@[simp] theorem State.onIso_isoIn (f : Insulation → Insulation) : (s.onIso f).isoIn = s.isoIn := rfl
@[simp] theorem State.onIso_now (f : Insulation → Insulation) : (s.onIso f).now = s.now := rfl
@[simp] theorem State.onIso_freeCount (f : Insulation → Insulation) : (s.onIso f).freeCount = s.freeCount := rfl
@[simp] theorem State.onIso_pending (f : Insulation → Insulation) : (s.onIso f).pending = s.pending := rfl

@[simp] theorem State.onStage_session (f : Stage → Stage) : (s.onStage f).session = s.session := rfl
@[simp] theorem State.onStage_pins (f : Stage → Stage) : (s.onStage f).pins = s.pins := rfl
@[simp] theorem State.onStage_budget (f : Stage → Stage) : (s.onStage f).budget = s.budget := rfl
@[simp] theorem State.onStage_heating (f : Stage → Stage) : (s.onStage f).heating = s.heating := rfl
@[simp] theorem State.onStage_iso (f : Stage → Stage) : (s.onStage f).iso = s.iso := rfl
@[simp] theorem State.onStage_stage (f : Stage → Stage) : (s.onStage f).stage = f s.stage := rfl
@[simp] theorem State.onStage_meter (f : Stage → Stage) : (s.onStage f).meter = s.meter := rfl
@[simp] theorem State.onStage_billing (f : Stage → Stage) : (s.onStage f).billing = s.billing := rfl
@[simp] theorem State.onStage_nv (f : Stage → Stage) : (s.onStage f).nv = s.nv := rfl
@[simp] theorem State.onStage_link (f : Stage → Stage) : (s.onStage f).link = s.link := rfl
@[simp] theorem State.onStage_power (f : Stage → Stage) : (s.onStage f).power = s.power := rfl
@[simp] theorem State.onStage_budgetIn (f : Stage → Stage) : (s.onStage f).budgetIn = s.budgetIn := rfl
@[simp] theorem State.onStage_heatIn (f : Stage → Stage) : (s.onStage f).heatIn = s.heatIn := rfl
@[simp] theorem State.onStage_isoIn (f : Stage → Stage) : (s.onStage f).isoIn = s.isoIn := rfl
@[simp] theorem State.onStage_now (f : Stage → Stage) : (s.onStage f).now = s.now := rfl
@[simp] theorem State.onStage_freeCount (f : Stage → Stage) : (s.onStage f).freeCount = s.freeCount := rfl
@[simp] theorem State.onStage_pending (f : Stage → Stage) : (s.onStage f).pending = s.pending := rfl

@[simp] theorem State.onMeter_session (f : Meter → Meter) : (s.onMeter f).session = s.session := rfl
@[simp] theorem State.onMeter_pins (f : Meter → Meter) : (s.onMeter f).pins = s.pins := rfl
@[simp] theorem State.onMeter_budget (f : Meter → Meter) : (s.onMeter f).budget = s.budget := rfl
@[simp] theorem State.onMeter_heating (f : Meter → Meter) : (s.onMeter f).heating = s.heating := rfl
@[simp] theorem State.onMeter_iso (f : Meter → Meter) : (s.onMeter f).iso = s.iso := rfl
@[simp] theorem State.onMeter_stage (f : Meter → Meter) : (s.onMeter f).stage = s.stage := rfl
@[simp] theorem State.onMeter_meter (f : Meter → Meter) : (s.onMeter f).meter = f s.meter := rfl
@[simp] theorem State.onMeter_billing (f : Meter → Meter) : (s.onMeter f).billing = s.billing := rfl
@[simp] theorem State.onMeter_nv (f : Meter → Meter) : (s.onMeter f).nv = s.nv := rfl
@[simp] theorem State.onMeter_link (f : Meter → Meter) : (s.onMeter f).link = s.link := rfl
@[simp] theorem State.onMeter_power (f : Meter → Meter) : (s.onMeter f).power = s.power := rfl
@[simp] theorem State.onMeter_budgetIn (f : Meter → Meter) : (s.onMeter f).budgetIn = s.budgetIn := rfl
@[simp] theorem State.onMeter_heatIn (f : Meter → Meter) : (s.onMeter f).heatIn = s.heatIn := rfl
@[simp] theorem State.onMeter_isoIn (f : Meter → Meter) : (s.onMeter f).isoIn = s.isoIn := rfl
@[simp] theorem State.onMeter_now (f : Meter → Meter) : (s.onMeter f).now = s.now := rfl
@[simp] theorem State.onMeter_freeCount (f : Meter → Meter) : (s.onMeter f).freeCount = s.freeCount := rfl
@[simp] theorem State.onMeter_pending (f : Meter → Meter) : (s.onMeter f).pending = s.pending := rfl

@[simp] theorem State.onBilling_session (f : Billing → Billing) : (s.onBilling f).session = s.session := rfl
@[simp] theorem State.onBilling_pins (f : Billing → Billing) : (s.onBilling f).pins = s.pins := rfl
@[simp] theorem State.onBilling_budget (f : Billing → Billing) : (s.onBilling f).budget = s.budget := rfl
@[simp] theorem State.onBilling_heating (f : Billing → Billing) : (s.onBilling f).heating = s.heating := rfl
@[simp] theorem State.onBilling_iso (f : Billing → Billing) : (s.onBilling f).iso = s.iso := rfl
@[simp] theorem State.onBilling_stage (f : Billing → Billing) : (s.onBilling f).stage = s.stage := rfl
@[simp] theorem State.onBilling_meter (f : Billing → Billing) : (s.onBilling f).meter = s.meter := rfl
@[simp] theorem State.onBilling_billing (f : Billing → Billing) : (s.onBilling f).billing = f s.billing := rfl
@[simp] theorem State.onBilling_nv (f : Billing → Billing) : (s.onBilling f).nv = s.nv := rfl
@[simp] theorem State.onBilling_link (f : Billing → Billing) : (s.onBilling f).link = s.link := rfl
@[simp] theorem State.onBilling_power (f : Billing → Billing) : (s.onBilling f).power = s.power := rfl
@[simp] theorem State.onBilling_budgetIn (f : Billing → Billing) : (s.onBilling f).budgetIn = s.budgetIn := rfl
@[simp] theorem State.onBilling_heatIn (f : Billing → Billing) : (s.onBilling f).heatIn = s.heatIn := rfl
@[simp] theorem State.onBilling_isoIn (f : Billing → Billing) : (s.onBilling f).isoIn = s.isoIn := rfl
@[simp] theorem State.onBilling_now (f : Billing → Billing) : (s.onBilling f).now = s.now := rfl
@[simp] theorem State.onBilling_freeCount (f : Billing → Billing) : (s.onBilling f).freeCount = s.freeCount := rfl
@[simp] theorem State.onBilling_pending (f : Billing → Billing) : (s.onBilling f).pending = s.pending := rfl

@[simp] theorem State.onNv_session (f : Nv → Nv) : (s.onNv f).session = s.session := rfl
@[simp] theorem State.onNv_pins (f : Nv → Nv) : (s.onNv f).pins = s.pins := rfl
@[simp] theorem State.onNv_budget (f : Nv → Nv) : (s.onNv f).budget = s.budget := rfl
@[simp] theorem State.onNv_heating (f : Nv → Nv) : (s.onNv f).heating = s.heating := rfl
@[simp] theorem State.onNv_iso (f : Nv → Nv) : (s.onNv f).iso = s.iso := rfl
@[simp] theorem State.onNv_stage (f : Nv → Nv) : (s.onNv f).stage = s.stage := rfl
@[simp] theorem State.onNv_meter (f : Nv → Nv) : (s.onNv f).meter = s.meter := rfl
@[simp] theorem State.onNv_billing (f : Nv → Nv) : (s.onNv f).billing = s.billing := rfl
@[simp] theorem State.onNv_nv (f : Nv → Nv) : (s.onNv f).nv = f s.nv := rfl
@[simp] theorem State.onNv_link (f : Nv → Nv) : (s.onNv f).link = s.link := rfl
@[simp] theorem State.onNv_power (f : Nv → Nv) : (s.onNv f).power = s.power := rfl
@[simp] theorem State.onNv_budgetIn (f : Nv → Nv) : (s.onNv f).budgetIn = s.budgetIn := rfl
@[simp] theorem State.onNv_heatIn (f : Nv → Nv) : (s.onNv f).heatIn = s.heatIn := rfl
@[simp] theorem State.onNv_isoIn (f : Nv → Nv) : (s.onNv f).isoIn = s.isoIn := rfl
@[simp] theorem State.onNv_now (f : Nv → Nv) : (s.onNv f).now = s.now := rfl
@[simp] theorem State.onNv_freeCount (f : Nv → Nv) : (s.onNv f).freeCount = s.freeCount := rfl
@[simp] theorem State.onNv_pending (f : Nv → Nv) : (s.onNv f).pending = s.pending := rfl

@[simp] theorem State.onLink_session (f : Link → Link) : (s.onLink f).session = s.session := rfl
@[simp] theorem State.onLink_pins (f : Link → Link) : (s.onLink f).pins = s.pins := rfl
@[simp] theorem State.onLink_budget (f : Link → Link) : (s.onLink f).budget = s.budget := rfl
@[simp] theorem State.onLink_heating (f : Link → Link) : (s.onLink f).heating = s.heating := rfl
@[simp] theorem State.onLink_iso (f : Link → Link) : (s.onLink f).iso = s.iso := rfl
@[simp] theorem State.onLink_stage (f : Link → Link) : (s.onLink f).stage = s.stage := rfl
@[simp] theorem State.onLink_meter (f : Link → Link) : (s.onLink f).meter = s.meter := rfl
@[simp] theorem State.onLink_billing (f : Link → Link) : (s.onLink f).billing = s.billing := rfl
@[simp] theorem State.onLink_nv (f : Link → Link) : (s.onLink f).nv = s.nv := rfl
@[simp] theorem State.onLink_link (f : Link → Link) : (s.onLink f).link = f s.link := rfl
@[simp] theorem State.onLink_power (f : Link → Link) : (s.onLink f).power = s.power := rfl
@[simp] theorem State.onLink_budgetIn (f : Link → Link) : (s.onLink f).budgetIn = s.budgetIn := rfl
@[simp] theorem State.onLink_heatIn (f : Link → Link) : (s.onLink f).heatIn = s.heatIn := rfl
@[simp] theorem State.onLink_isoIn (f : Link → Link) : (s.onLink f).isoIn = s.isoIn := rfl
@[simp] theorem State.onLink_now (f : Link → Link) : (s.onLink f).now = s.now := rfl
@[simp] theorem State.onLink_freeCount (f : Link → Link) : (s.onLink f).freeCount = s.freeCount := rfl
@[simp] theorem State.onLink_pending (f : Link → Link) : (s.onLink f).pending = s.pending := rfl

@[simp] theorem State.onPower_session (f : Power → Power) : (s.onPower f).session = s.session := rfl
@[simp] theorem State.onPower_pins (f : Power → Power) : (s.onPower f).pins = s.pins := rfl
@[simp] theorem State.onPower_budget (f : Power → Power) : (s.onPower f).budget = s.budget := rfl
@[simp] theorem State.onPower_heating (f : Power → Power) : (s.onPower f).heating = s.heating := rfl
@[simp] theorem State.onPower_iso (f : Power → Power) : (s.onPower f).iso = s.iso := rfl
@[simp] theorem State.onPower_stage (f : Power → Power) : (s.onPower f).stage = s.stage := rfl
@[simp] theorem State.onPower_meter (f : Power → Power) : (s.onPower f).meter = s.meter := rfl
@[simp] theorem State.onPower_billing (f : Power → Power) : (s.onPower f).billing = s.billing := rfl
@[simp] theorem State.onPower_nv (f : Power → Power) : (s.onPower f).nv = s.nv := rfl
@[simp] theorem State.onPower_link (f : Power → Power) : (s.onPower f).link = s.link := rfl
@[simp] theorem State.onPower_power (f : Power → Power) : (s.onPower f).power = f s.power := rfl
@[simp] theorem State.onPower_budgetIn (f : Power → Power) : (s.onPower f).budgetIn = s.budgetIn := rfl
@[simp] theorem State.onPower_heatIn (f : Power → Power) : (s.onPower f).heatIn = s.heatIn := rfl
@[simp] theorem State.onPower_isoIn (f : Power → Power) : (s.onPower f).isoIn = s.isoIn := rfl
@[simp] theorem State.onPower_now (f : Power → Power) : (s.onPower f).now = s.now := rfl
@[simp] theorem State.onPower_freeCount (f : Power → Power) : (s.onPower f).freeCount = s.freeCount := rfl
@[simp] theorem State.onPower_pending (f : Power → Power) : (s.onPower f).pending = s.pending := rfl

/-! ### Postings -/

@[simp] theorem State.postBudget_session (p : BudgetPosting) : (s.postBudget p).session = s.session := rfl
@[simp] theorem State.postBudget_pins (p : BudgetPosting) : (s.postBudget p).pins = s.pins := rfl
@[simp] theorem State.postBudget_budget (p : BudgetPosting) : (s.postBudget p).budget = s.budget := rfl
@[simp] theorem State.postBudget_heating (p : BudgetPosting) : (s.postBudget p).heating = s.heating := rfl
@[simp] theorem State.postBudget_iso (p : BudgetPosting) : (s.postBudget p).iso = s.iso := rfl
@[simp] theorem State.postBudget_stage (p : BudgetPosting) : (s.postBudget p).stage = s.stage := rfl
@[simp] theorem State.postBudget_meter (p : BudgetPosting) : (s.postBudget p).meter = s.meter := rfl
@[simp] theorem State.postBudget_billing (p : BudgetPosting) : (s.postBudget p).billing = s.billing := rfl
@[simp] theorem State.postBudget_nv (p : BudgetPosting) : (s.postBudget p).nv = s.nv := rfl
@[simp] theorem State.postBudget_link (p : BudgetPosting) : (s.postBudget p).link = s.link := rfl
@[simp] theorem State.postBudget_power (p : BudgetPosting) : (s.postBudget p).power = s.power := rfl
@[simp] theorem State.postBudget_budgetIn (p : BudgetPosting) : (s.postBudget p).budgetIn = s.budgetIn ++ [p] := rfl
@[simp] theorem State.postBudget_heatIn (p : BudgetPosting) : (s.postBudget p).heatIn = s.heatIn := rfl
@[simp] theorem State.postBudget_isoIn (p : BudgetPosting) : (s.postBudget p).isoIn = s.isoIn := rfl
@[simp] theorem State.postBudget_now (p : BudgetPosting) : (s.postBudget p).now = s.now := rfl
@[simp] theorem State.postBudget_freeCount (p : BudgetPosting) : (s.postBudget p).freeCount = s.freeCount := rfl
@[simp] theorem State.postBudget_pending (p : BudgetPosting) : (s.postBudget p).pending = s.pending := rfl

@[simp] theorem State.postHeat_session (p : HeatPosting) : (s.postHeat p).session = s.session := rfl
@[simp] theorem State.postHeat_pins (p : HeatPosting) : (s.postHeat p).pins = s.pins := rfl
@[simp] theorem State.postHeat_budget (p : HeatPosting) : (s.postHeat p).budget = s.budget := rfl
@[simp] theorem State.postHeat_heating (p : HeatPosting) : (s.postHeat p).heating = s.heating := rfl
@[simp] theorem State.postHeat_iso (p : HeatPosting) : (s.postHeat p).iso = s.iso := rfl
@[simp] theorem State.postHeat_stage (p : HeatPosting) : (s.postHeat p).stage = s.stage := rfl
@[simp] theorem State.postHeat_meter (p : HeatPosting) : (s.postHeat p).meter = s.meter := rfl
@[simp] theorem State.postHeat_billing (p : HeatPosting) : (s.postHeat p).billing = s.billing := rfl
@[simp] theorem State.postHeat_nv (p : HeatPosting) : (s.postHeat p).nv = s.nv := rfl
@[simp] theorem State.postHeat_link (p : HeatPosting) : (s.postHeat p).link = s.link := rfl
@[simp] theorem State.postHeat_power (p : HeatPosting) : (s.postHeat p).power = s.power := rfl
@[simp] theorem State.postHeat_budgetIn (p : HeatPosting) : (s.postHeat p).budgetIn = s.budgetIn := rfl
@[simp] theorem State.postHeat_heatIn (p : HeatPosting) : (s.postHeat p).heatIn = s.heatIn ++ [p] := rfl
@[simp] theorem State.postHeat_isoIn (p : HeatPosting) : (s.postHeat p).isoIn = s.isoIn := rfl
@[simp] theorem State.postHeat_now (p : HeatPosting) : (s.postHeat p).now = s.now := rfl
@[simp] theorem State.postHeat_freeCount (p : HeatPosting) : (s.postHeat p).freeCount = s.freeCount := rfl
@[simp] theorem State.postHeat_pending (p : HeatPosting) : (s.postHeat p).pending = s.pending := rfl

@[simp] theorem State.postIso_session (p : Option Nat) : (s.postIso p).session = s.session := rfl
@[simp] theorem State.postIso_pins (p : Option Nat) : (s.postIso p).pins = s.pins := rfl
@[simp] theorem State.postIso_budget (p : Option Nat) : (s.postIso p).budget = s.budget := rfl
@[simp] theorem State.postIso_heating (p : Option Nat) : (s.postIso p).heating = s.heating := rfl
@[simp] theorem State.postIso_iso (p : Option Nat) : (s.postIso p).iso = s.iso := rfl
@[simp] theorem State.postIso_stage (p : Option Nat) : (s.postIso p).stage = s.stage := rfl
@[simp] theorem State.postIso_meter (p : Option Nat) : (s.postIso p).meter = s.meter := rfl
@[simp] theorem State.postIso_billing (p : Option Nat) : (s.postIso p).billing = s.billing := rfl
@[simp] theorem State.postIso_nv (p : Option Nat) : (s.postIso p).nv = s.nv := rfl
@[simp] theorem State.postIso_link (p : Option Nat) : (s.postIso p).link = s.link := rfl
@[simp] theorem State.postIso_power (p : Option Nat) : (s.postIso p).power = s.power := rfl
@[simp] theorem State.postIso_budgetIn (p : Option Nat) : (s.postIso p).budgetIn = s.budgetIn := rfl
@[simp] theorem State.postIso_heatIn (p : Option Nat) : (s.postIso p).heatIn = s.heatIn := rfl
@[simp] theorem State.postIso_isoIn (p : Option Nat) : (s.postIso p).isoIn = s.isoIn ++ [p] := rfl
@[simp] theorem State.postIso_now (p : Option Nat) : (s.postIso p).now = s.now := rfl
@[simp] theorem State.postIso_freeCount (p : Option Nat) : (s.postIso p).freeCount = s.freeCount := rfl
@[simp] theorem State.postIso_pending (p : Option Nat) : (s.postIso p).pending = s.pending := rfl

/-! ### The passing of a millisecond -/

@[simp] theorem State.idle_session : s.idle.session = s.session := rfl
@[simp] theorem State.idle_pins : s.idle.pins = s.pins := rfl
@[simp] theorem State.idle_budget : s.idle.budget = s.budget := rfl
@[simp] theorem State.idle_heating : s.idle.heating = s.heating := rfl
@[simp] theorem State.idle_iso : s.idle.iso = s.iso := rfl
@[simp] theorem State.idle_stage : s.idle.stage = s.stage := rfl
@[simp] theorem State.idle_meter : s.idle.meter = s.meter := rfl
@[simp] theorem State.idle_billing : s.idle.billing = s.billing := rfl
@[simp] theorem State.idle_nv : s.idle.nv = s.nv := rfl
@[simp] theorem State.idle_link : s.idle.link = s.link := rfl
@[simp] theorem State.idle_power : s.idle.power = s.power := rfl
@[simp] theorem State.idle_budgetIn : s.idle.budgetIn = s.budgetIn := rfl
@[simp] theorem State.idle_heatIn : s.idle.heatIn = s.heatIn := rfl
@[simp] theorem State.idle_isoIn : s.idle.isoIn = s.isoIn := rfl
@[simp] theorem State.idle_now : s.idle.now = s.now + 1 := rfl
@[simp] theorem State.idle_freeCount : s.idle.freeCount = s.freeCount := rfl
@[simp] theorem State.idle_pending : s.idle.pending = s.pending := rfl

/-! ### A conditional change -/

@[simp] theorem State.doIf_true (f : State → State) : s.doIf true f = f s := rfl

@[simp] theorem State.doIf_false (f : State → State) : s.doIf false f = s := rfl

/-- What a change leaves alone, its conditional form leaves alone. -/
theorem State.doIf_keeps {α : Type} (g : State → α) (c : Bool) (f : State → State) (h : g (f s) = g s) :
    g (s.doIf c f) = g s := by
  cases c
  · rfl
  · exact h

/-- A property that a change keeps, its conditional form keeps. -/
theorem State.doIf_inv (P : State → Prop) (c : Bool) (f : State → State) (h : P s) (hf : P s → P (f s)) :
    P (s.doIf c f) := by
  cases c
  · exact h
  · exact hf h

/-- In RUN an event acts. -/
theorem State.whenRun_of_inRun (f : State → State) (h : s.inRun = true) : s.whenRun f = f s := by
  simp [State.whenRun, h]

/-- Outside RUN an event of a block that does not run changes nothing. -/
theorem State.whenRun_of_not_inRun (f : State → State) (h : s.inRun = false) : s.whenRun f = s := by
  simp [State.whenRun, h]

/-! ### A notice -/

@[simp] theorem State.raise_session (k : NoticeKind) : (s.raise k).session = s.session := rfl
@[simp] theorem State.raise_pins (k : NoticeKind) : (s.raise k).pins = s.pins := rfl
@[simp] theorem State.raise_budget (k : NoticeKind) : (s.raise k).budget = s.budget := rfl
@[simp] theorem State.raise_heating (k : NoticeKind) : (s.raise k).heating = s.heating := rfl
@[simp] theorem State.raise_iso (k : NoticeKind) : (s.raise k).iso = s.iso := rfl
@[simp] theorem State.raise_stage (k : NoticeKind) : (s.raise k).stage = s.stage := rfl
@[simp] theorem State.raise_meter (k : NoticeKind) : (s.raise k).meter = s.meter := rfl
@[simp] theorem State.raise_billing (k : NoticeKind) : (s.raise k).billing = s.billing := rfl
@[simp] theorem State.raise_nv (k : NoticeKind) : (s.raise k).nv = s.nv := rfl
@[simp] theorem State.raise_power (k : NoticeKind) : (s.raise k).power = s.power := rfl
@[simp] theorem State.raise_budgetIn (k : NoticeKind) : (s.raise k).budgetIn = s.budgetIn := rfl
@[simp] theorem State.raise_heatIn (k : NoticeKind) : (s.raise k).heatIn = s.heatIn := rfl
@[simp] theorem State.raise_isoIn (k : NoticeKind) : (s.raise k).isoIn = s.isoIn := rfl
@[simp] theorem State.raise_now (k : NoticeKind) : (s.raise k).now = s.now := rfl
@[simp] theorem State.raise_freeCount (k : NoticeKind) : (s.raise k).freeCount = s.freeCount := rfl
@[simp] theorem State.raise_pending (k : NoticeKind) : (s.raise k).pending = s.pending := rfl

@[simp] theorem State.raise_requests (k : NoticeKind) : (s.raise k).link.requests = s.link.requests := by
  unfold State.raise State.onLink
  dsimp only
  split <;> rfl

@[simp] theorem State.raise_replies (k : NoticeKind) : (s.raise k).link.replies = s.link.replies := by
  unfold State.raise State.onLink
  dsimp only
  split <;> rfl

@[simp] theorem State.raise_tx (k : NoticeKind) : (s.raise k).link.tx = s.link.tx := by
  unfold State.raise State.onLink
  dsimp only
  split <;> rfl

@[simp] theorem State.raise_errors (k : NoticeKind) : (s.raise k).link.errors = s.link.errors := by
  unfold State.raise State.onLink
  dsimp only
  split <;> rfl

@[simp] theorem State.raise_framer (k : NoticeKind) : (s.raise k).link.framer = s.link.framer := by
  unfold State.raise State.onLink
  dsimp only
  split <;> rfl

@[simp] theorem State.raise_on (k : NoticeKind) : (s.raise k).link.on = s.link.on := by
  unfold State.raise State.onLink
  dsimp only
  split <;> rfl

/-- R190: a raise is absorbed when the kind is queued, and otherwise adds it at the tail. -/
theorem State.raise_notices (k : NoticeKind) :
    (s.raise k).link.notices = if k ∈ s.link.notices then s.link.notices else s.link.notices ++ [k] := by
  unfold State.raise State.onLink
  dsimp only
  split <;> rfl

/-! ### A reply -/

@[simp] theorem State.placeReply_session (k t : Byte) (p : List Byte) (m : ReplyMark) :
    (s.placeReply k t p m).session = s.session := rfl
@[simp] theorem State.placeReply_pins (k t : Byte) (p : List Byte) (m : ReplyMark) :
    (s.placeReply k t p m).pins = s.pins := rfl
@[simp] theorem State.placeReply_budget (k t : Byte) (p : List Byte) (m : ReplyMark) :
    (s.placeReply k t p m).budget = s.budget := rfl
@[simp] theorem State.placeReply_heating (k t : Byte) (p : List Byte) (m : ReplyMark) :
    (s.placeReply k t p m).heating = s.heating := rfl
@[simp] theorem State.placeReply_iso (k t : Byte) (p : List Byte) (m : ReplyMark) :
    (s.placeReply k t p m).iso = s.iso := rfl
@[simp] theorem State.placeReply_stage (k t : Byte) (p : List Byte) (m : ReplyMark) :
    (s.placeReply k t p m).stage = s.stage := rfl
@[simp] theorem State.placeReply_meter (k t : Byte) (p : List Byte) (m : ReplyMark) :
    (s.placeReply k t p m).meter = s.meter := rfl
@[simp] theorem State.placeReply_billing (k t : Byte) (p : List Byte) (m : ReplyMark) :
    (s.placeReply k t p m).billing = s.billing := rfl
@[simp] theorem State.placeReply_nv (k t : Byte) (p : List Byte) (m : ReplyMark) :
    (s.placeReply k t p m).nv = s.nv := rfl
@[simp] theorem State.placeReply_power (k t : Byte) (p : List Byte) (m : ReplyMark) :
    (s.placeReply k t p m).power = s.power := rfl
@[simp] theorem State.placeReply_budgetIn (k t : Byte) (p : List Byte) (m : ReplyMark) :
    (s.placeReply k t p m).budgetIn = s.budgetIn := rfl
@[simp] theorem State.placeReply_heatIn (k t : Byte) (p : List Byte) (m : ReplyMark) :
    (s.placeReply k t p m).heatIn = s.heatIn := rfl
@[simp] theorem State.placeReply_isoIn (k t : Byte) (p : List Byte) (m : ReplyMark) :
    (s.placeReply k t p m).isoIn = s.isoIn := rfl
@[simp] theorem State.placeReply_now (k t : Byte) (p : List Byte) (m : ReplyMark) :
    (s.placeReply k t p m).now = s.now := rfl
@[simp] theorem State.placeReply_freeCount (k t : Byte) (p : List Byte) (m : ReplyMark) :
    (s.placeReply k t p m).freeCount = s.freeCount := rfl
@[simp] theorem State.placeReply_pending (k t : Byte) (p : List Byte) (m : ReplyMark) :
    (s.placeReply k t p m).pending = s.pending := rfl
@[simp] theorem State.placeReply_replies (k t : Byte) (p : List Byte) (m : ReplyMark) :
    (s.placeReply k t p m).link.replies = s.link.replies ++ [⟨replyKind k, t, p, m⟩] := rfl
@[simp] theorem State.placeReply_requests (k t : Byte) (p : List Byte) (m : ReplyMark) :
    (s.placeReply k t p m).link.requests = s.link.requests := rfl
@[simp] theorem State.placeReply_notices (k t : Byte) (p : List Byte) (m : ReplyMark) :
    (s.placeReply k t p m).link.notices = s.link.notices := rfl
@[simp] theorem State.placeReply_tx (k t : Byte) (p : List Byte) (m : ReplyMark) :
    (s.placeReply k t p m).link.tx = s.link.tx := rfl
@[simp] theorem State.placeReply_errors (k t : Byte) (p : List Byte) (m : ReplyMark) :
    (s.placeReply k t p m).link.errors = s.link.errors := rfl
@[simp] theorem State.placeReply_framer (k t : Byte) (p : List Byte) (m : ReplyMark) :
    (s.placeReply k t p m).link.framer = s.link.framer := rfl
@[simp] theorem State.placeReply_on (k t : Byte) (p : List Byte) (m : ReplyMark) :
    (s.placeReply k t p m).link.on = s.link.on := rfl

end Sys2Proof.Machine
end

