-- ==== Sys2Proof/Laws/Link.lean ====
section
/-! SUPPORT. What serving a request can do (R186, R187), what a raise does to the host link as a whole (R190), and the
frames' small lemmas. -/

namespace Sys2Proof.Machine

open Safety

/-! ### Notices -/

/-- R190: a raise moves the notice queue alone. -/
theorem State.raise_link (s : State) (k : NoticeKind) :
    (s.raise k).link = { s.link with notices := withNotices [k] s.link.notices } := by
  unfold State.raise State.onLink withNotices
  by_cases h : k ∈ s.link.notices <;> simp [h]

/-- Raises in a row are one row of raises. -/
theorem withNotices_append (a b l : List NoticeKind) :
    withNotices (a ++ b) l = withNotices b (withNotices a l) := by
  simp [withNotices, List.foldl_append]

@[simp] theorem withNotices_nil (l : List NoticeKind) : withNotices [] l = l := rfl

/-- A row of raises keeps the notice queue free of repeats. -/
theorem withNotices_nodup (ks l : List NoticeKind) (h : l.Nodup) : (withNotices ks l).Nodup := by
  induction ks generalizing l with
  | nil => exact h
  | cons k r ih =>
    refine ih _ ?_
    by_cases hk : k ∈ l
    · simpa [hk] using h
    · simpa [hk] using List.Nodup.append h (List.nodup_singleton k) (by simpa using hk)

/-- R190: a raise is one notice raised and no other change. -/
theorem State.raise_eq (s : State) (k : NoticeKind) : s.raise k = noticed [k] s := by
  unfold State.raise State.onLink noticed withNotices
  by_cases h : k ∈ s.link.notices <;> simp [h]

/-! ### Serving -/

/-- R186 step 4: a request that may be served is its owner's outcome with the reply placed. -/
theorem State.request_served {s : State} (h : mayServe s) (kind tag : Byte) (own : State → Served) :
    s.request kind tag own = (own s).1.placeReply kind tag (own s).2.payload (own s).2.mark := by
  obtain ⟨h1, h2, h3⟩ := h
  simp [State.request, State.canServe, State.turnsAway, h1, h2, h3]

/-- R186 step 3: in SUPPLY_HOLD and while a host reset is pending the answer is STATE. -/
theorem State.request_turnedAway {s : State} (hc : s.canServe = true) (ht : s.turnsAway = true) (kind tag : Byte)
    (own : State → Served) :
    s.request kind tag own = s.placeReply kind tag [byte Status.state.code] .plain := by
  simp [State.request, hc, ht, refuse, Answer.payload]

/-- A request that the port may not serve now changes nothing. -/
theorem State.request_waits {s : State} (hc : s.canServe = false) (kind tag : Byte) (own : State → Served) :
    s.request kind tag own = s := by
  simp [State.request, hc]

/-- A reply placed for a code below 0x80 is one more reply with the code raised by 0x80. -/
theorem State.placeReply_plain (s : State) (kind tag : Byte) (p : List Byte) (h : kind.toNat < 0x80) :
    s.placeReply kind tag p .plain = replied s kind tag p := by
  simp [State.placeReply, State.onLink, replied, State.replyKind, h]

/-- The link after a reply placed for a code below 0x80. -/
theorem State.placeReply_link (s : State) (kind tag : Byte) (p : List Byte) (m : ReplyMark) (h : kind.toNat < 0x80) :
    (s.placeReply kind tag p m).link = { s.link with replies := s.link.replies ++ [⟨kind + 0x80, tag, p, m⟩] } := by
  simp [State.placeReply, State.onLink, State.replyKind, h]

end Sys2Proof.Machine
end

