-- ==== Sys2Proof/Laws/Frames.lean ====
section
/-! SUPPORT. Frames: what each shared operation leaves alone, one lemma each, and how frames compose. -/

-- One declaration at a time: each thread the elaborator opens takes its whole stack from the memory limit.
set_option Elab.async false

namespace Sys2Proof.Safety

open Machine

/-! ### A piece a frame does not name -/

section
variable {ps : List Piece} {s t : State}

theorem onlyChanges_now (h : onlyChanges ps s t) : t.now = s.now := h.1
theorem onlyChanges_pending (h : onlyChanges ps s t) : t.pending = s.pending := h.2.1
theorem onlyChanges_session (h : onlyChanges ps s t) (hp : Piece.session ∉ ps := by decide) :
    t.session = s.session := h.2.2.1 hp
theorem onlyChanges_pins (h : onlyChanges ps s t) (hp : Piece.pins ∉ ps := by decide) :
    t.pins = s.pins := h.2.2.2.1 hp
theorem onlyChanges_budget (h : onlyChanges ps s t) (hp : Piece.budget ∉ ps := by decide) :
    t.budget = s.budget := h.2.2.2.2.1 hp
theorem onlyChanges_heating (h : onlyChanges ps s t) (hp : Piece.heating ∉ ps := by decide) :
    t.heating = s.heating := h.2.2.2.2.2.1 hp
theorem onlyChanges_iso (h : onlyChanges ps s t) (hp : Piece.iso ∉ ps := by decide) :
    t.iso = s.iso := h.2.2.2.2.2.2.1 hp
theorem onlyChanges_stage (h : onlyChanges ps s t) (hp : Piece.stage ∉ ps := by decide) :
    t.stage = s.stage := h.2.2.2.2.2.2.2.1 hp
theorem onlyChanges_meter (h : onlyChanges ps s t) (hp : Piece.meter ∉ ps := by decide) :
    t.meter = s.meter := h.2.2.2.2.2.2.2.2.1 hp
theorem onlyChanges_billing (h : onlyChanges ps s t) (hp : Piece.billing ∉ ps := by decide) :
    t.billing = s.billing := h.2.2.2.2.2.2.2.2.2.1 hp
theorem onlyChanges_nv (h : onlyChanges ps s t) (hp : Piece.nv ∉ ps := by decide) :
    t.nv = s.nv := h.2.2.2.2.2.2.2.2.2.2.1 hp
theorem onlyChanges_link (h : onlyChanges ps s t) (hp : Piece.link ∉ ps := by decide) :
    t.link = s.link := h.2.2.2.2.2.2.2.2.2.2.2.1 hp
theorem onlyChanges_power (h : onlyChanges ps s t) (hp : Piece.power ∉ ps := by decide) :
    t.power = s.power := h.2.2.2.2.2.2.2.2.2.2.2.2.1 hp
theorem onlyChanges_budgetIn (h : onlyChanges ps s t) (hp : Piece.budgetIn ∉ ps := by decide) :
    t.budgetIn = s.budgetIn := h.2.2.2.2.2.2.2.2.2.2.2.2.2.1 hp
theorem onlyChanges_heatIn (h : onlyChanges ps s t) (hp : Piece.heatIn ∉ ps := by decide) :
    t.heatIn = s.heatIn := h.2.2.2.2.2.2.2.2.2.2.2.2.2.2.1 hp
theorem onlyChanges_isoIn (h : onlyChanges ps s t) (hp : Piece.isoIn ∉ ps := by decide) :
    t.isoIn = s.isoIn := h.2.2.2.2.2.2.2.2.2.2.2.2.2.2.2.1 hp
theorem onlyChanges_freeCount (h : onlyChanges ps s t) (hp : Piece.freeCount ∉ ps := by decide) :
    t.freeCount = s.freeCount := h.2.2.2.2.2.2.2.2.2.2.2.2.2.2.2.2 hp

end

/-! ### How frames compose -/

theorem onlyChanges_refl (ps : List Piece) (s : State) : onlyChanges ps s s := by simp [onlyChanges]

/-- Two changes in a row change what either changes. -/
theorem onlyChanges_trans {ps qs rs : List Piece} {s t u : State} (h₁ : onlyChanges ps s t) (h₂ : onlyChanges qs t u)
    (hp : ∀ x ∈ ps, x ∈ rs := by decide) (hq : ∀ x ∈ qs, x ∈ rs := by decide) : onlyChanges rs s u := by
  have np : ∀ x, x ∉ rs → x ∉ ps := fun x h hx => h (hp x hx)
  have nq : ∀ x, x ∉ rs → x ∉ qs := fun x h hx => h (hq x hx)
  unfold onlyChanges at *
  obtain ⟨a1, a2, a3, a4, a5, a6, a7, a8, a9, a10, a11, a12, a13, a14, a15, a16, a17⟩ := h₁
  obtain ⟨b1, b2, b3, b4, b5, b6, b7, b8, b9, b10, b11, b12, b13, b14, b15, b16, b17⟩ := h₂
  exact ⟨b1.trans a1, b2.trans a2, fun h => (b3 (nq _ h)).trans (a3 (np _ h)), fun h => (b4 (nq _ h)).trans (a4 (np _ h)),
    fun h => (b5 (nq _ h)).trans (a5 (np _ h)), fun h => (b6 (nq _ h)).trans (a6 (np _ h)),
    fun h => (b7 (nq _ h)).trans (a7 (np _ h)), fun h => (b8 (nq _ h)).trans (a8 (np _ h)),
    fun h => (b9 (nq _ h)).trans (a9 (np _ h)), fun h => (b10 (nq _ h)).trans (a10 (np _ h)),
    fun h => (b11 (nq _ h)).trans (a11 (np _ h)), fun h => (b12 (nq _ h)).trans (a12 (np _ h)),
    fun h => (b13 (nq _ h)).trans (a13 (np _ h)), fun h => (b14 (nq _ h)).trans (a14 (np _ h)),
    fun h => (b15 (nq _ h)).trans (a15 (np _ h)), fun h => (b16 (nq _ h)).trans (a16 (np _ h)),
    fun h => (b17 (nq _ h)).trans (a17 (np _ h))⟩

/-- A frame may name more. -/
theorem onlyChanges_mono {ps rs : List Piece} {s t : State} (h : onlyChanges ps s t)
    (hp : ∀ x ∈ ps, x ∈ rs := by decide) : onlyChanges rs s t :=
  onlyChanges_trans h (onlyChanges_refl [] t) hp (by simp)

/-- A change made on a condition. -/
theorem onlyChanges_doIf {ps : List Piece} {s : State} {c : Bool} {f : State → State}
    (h : onlyChanges ps s (f s)) : onlyChanges ps s (s.doIf c f) := by
  cases c
  · exact onlyChanges_refl ps s
  · exact h

/-- A change in a fold over a list, step by step. -/
theorem onlyChanges_foldl {α : Type} {ps : List Piece} (f : State → α → State)
    (h : ∀ s a, onlyChanges ps s (f s a)) (l : List α) (s : State) : onlyChanges ps s (l.foldl f s) := by
  induction l generalizing s with
  | nil => exact onlyChanges_refl ps s
  | cons a r ih => exact onlyChanges_trans (h s a) (ih (f s a)) (fun _ h => h) (fun _ h => h)

end Sys2Proof.Safety

namespace Sys2Proof.Machine.State

open Safety

/-! ### Shared operations -/

theorem raise_frame (s : State) (k : NoticeKind) : onlyChanges [.link] s (s.raise k) := by
  simp [raise_eq, noticed, onlyChanges]
theorem postBudget_frame (s : State) (p : BudgetPosting) : onlyChanges [.budgetIn] s (s.postBudget p) := by
  simp [postBudget, onlyChanges]
theorem postHeat_frame (s : State) (p : HeatPosting) : onlyChanges [.heatIn] s (s.postHeat p) := by
  simp [postHeat, onlyChanges]
theorem postIso_frame (s : State) (v : Option Nat) : onlyChanges [.isoIn] s (s.postIso v) := by
  simp [postIso, onlyChanges]
theorem onSession_frame (s : State) (f : Session → Session) : onlyChanges [.session] s (s.onSession f) := by
  simp [onSession, onlyChanges]
theorem onPins_frame (s : State) (f : Pins → Pins) : onlyChanges [.pins] s (s.onPins f) := by simp [onPins, onlyChanges]
theorem onBudget_frame (s : State) (f : Budget → Budget) : onlyChanges [.budget] s (s.onBudget f) := by
  simp [onBudget, onlyChanges]
theorem onHeating_frame (s : State) (f : Heating → Heating) : onlyChanges [.heating] s (s.onHeating f) := by
  simp [onHeating, onlyChanges]
theorem onIso_frame (s : State) (f : Insulation → Insulation) : onlyChanges [.iso] s (s.onIso f) := by
  simp [onIso, onlyChanges]
theorem onStage_frame (s : State) (f : Stage → Stage) : onlyChanges [.stage] s (s.onStage f) := by
  simp [onStage, onlyChanges]
theorem onMeter_frame (s : State) (f : Meter → Meter) : onlyChanges [.meter] s (s.onMeter f) := by
  simp [onMeter, onlyChanges]
theorem onBilling_frame (s : State) (f : Billing → Billing) : onlyChanges [.billing] s (s.onBilling f) := by
  simp [onBilling, onlyChanges]
theorem onNv_frame (s : State) (f : Nv → Nv) : onlyChanges [.nv] s (s.onNv f) := by simp [onNv, onlyChanges]
theorem onLink_frame (s : State) (f : Link → Link) : onlyChanges [.link] s (s.onLink f) := by simp [onLink, onlyChanges]
theorem onPower_frame (s : State) (f : Power → Power) : onlyChanges [.power] s (s.onPower f) := by
  simp [onPower, onlyChanges]

theorem onNode_frame (s : State) (addr : Nat) (f : Node → Node) : onlyChanges [.stage] s (s.onNode addr f) := by
  cases addr
  · exact onlyChanges_refl _ s
  · exact onStage_frame s _
theorem queueNormal_frame (s : State) (c : StageCmd) (addr : Nat) : onlyChanges [.stage] s (s.queueNormal c addr) :=
  onStage_frame s _
theorem queueUrgent_frame (s : State) (c : StageCmd) (addr : Nat) : onlyChanges [.stage] s (s.queueUrgent c addr) := by
  unfold queueUrgent
  split
  · exact onStage_frame s _
  · exact onlyChanges_refl _ s
theorem compareSetpoint_frame (s : State) (addr : Nat) : onlyChanges [.stage] s (s.compareSetpoint addr) :=
  onlyChanges_doIf (queueNormal_frame s _ addr)
theorem writeSetpoint_frame (s : State) (addr w : Nat) : onlyChanges [.stage] s (s.writeSetpoint addr w) :=
  onlyChanges_trans (onNode_frame s addr _) (compareSetpoint_frame _ addr)
theorem postCharger_frame (s : State) (addr : Nat) : onlyChanges [.budgetIn] s (s.postCharger addr) :=
  onlyChanges_doIf (postBudget_frame s _)
theorem dropEntries_frame (s : State) (addr : Nat) : onlyChanges [.stage] s (s.dropEntries addr) := onStage_frame s _
theorem queueNv_frame (s : State) (c : NvContent) (b : Bool) : onlyChanges [.nv, .power, .meter] s (s.queueNv c b) := by
  cases c <;> simp [queueNv, onlyChanges, onNv, onPower, onMeter]
theorem placeReply_frame (s : State) (k t : Byte) (p : List Byte) (m : ReplyMark) :
    onlyChanges [.link] s (s.placeReply k t p m) := onLink_frame s _

/-! ### The heating controller's step -/

theorem postHeatOn_frame (s : State) (b : Bool) : onlyChanges [.heating, .budgetIn] s (s.postHeatOn b) := by
  unfold postHeatOn
  dsimp only
  split
  · exact onlyChanges_trans (onHeating_frame s _) (postBudget_frame _ _)
  · exact onlyChanges_refl _ s
theorem postDemands_frame (s : State) : onlyChanges [.heating, .budgetIn] s s.postDemands := by
  unfold postDemands
  dsimp only
  split
  · exact onlyChanges_trans (onHeating_frame s _) (postBudget_frame _ _)
  · exact onlyChanges_refl _ s
theorem postMinTemp_frame (s : State) : onlyChanges [.heating, .budgetIn] s s.postMinTemp := by
  unfold postMinTemp
  dsimp only
  split
  · exact onlyChanges_trans (onHeating_frame s _) (postBudget_frame _ _)
  · exact onlyChanges_refl _ s
theorem writeOffs_frame (s : State) (old : List Zone) (shed : List Nat) : onlyChanges [.stage] s (s.writeOffs old shed) :=
  onlyChanges_foldl _ (fun s _ => onlyChanges_doIf (writeSetpoint_frame s _ _)) _ s
theorem writeOns_frame (s : State) (chosen : List Nat) : onlyChanges [.stage] s (s.writeOns chosen) :=
  onlyChanges_foldl _ (fun s _ => writeSetpoint_frame s _ _) _ s
/-- R59, R68, R75: one step of the heating controller moves its rows, the stage link's setpoints, its postings and a
HEAT notice. -/
theorem heatStep_frame (s : State) (shed chosen : List Nat) (ranked : Bool) (f : Heating → Heating) :
    onlyChanges [.heating, .stage, .budgetIn, .link] s (s.heatStep shed chosen ranked f) := by
  unfold heatStep
  dsimp only
  refine onlyChanges_trans (ps := [.heating, .stage, .budgetIn]) (qs := [.link]) ?_ (onlyChanges_doIf (raise_frame _ _))
  refine onlyChanges_trans (ps := [.heating, .stage, .budgetIn]) ?_ (postMinTemp_frame _)
  refine onlyChanges_trans (ps := [.heating, .stage, .budgetIn]) ?_ (postDemands_frame _)
  refine onlyChanges_trans (ps := [.heating, .stage]) ?_ (postHeatOn_frame _ _)
  refine onlyChanges_trans (ps := [.heating, .stage]) ?_ (writeOns_frame _ _)
  exact onlyChanges_trans (onHeating_frame s _) (writeOffs_frame _ _ _)
theorem zoneStep_frame (s : State) (n : Nat) (f : Zone → Zone) :
    onlyChanges [.heating, .stage, .budgetIn, .link] s (s.zoneStep n f) := by
  cases n
  · exact onlyChanges_refl _ s
  · exact heatStep_frame s _ _ _ _
theorem heatIsolate_frame (s : State) (a : Nat) : onlyChanges [.heating, .stage, .budgetIn, .link] s (s.heatIsolate a) := by
  unfold heatIsolate atHeater
  split
  · exact zoneStep_frame s _ _
  · exact onlyChanges_refl _ s
theorem heatRelease_frame (s : State) (a : Nat) : onlyChanges [.heating, .stage, .budgetIn, .link] s (s.heatRelease a) := by
  unfold heatRelease atHeater
  split
  · exact zoneStep_frame s _ _
  · exact onlyChanges_refl _ s

/-! ### The session -/

/-- R14, R17, R28, R61: entering a session state, as one equation. -/
theorem enter_eq (s : State) (st : SessState) :
    s.enter st =
      { noticed [.session] s with
        session := { s.session with st := st, plugLossSeen := s.session.plugLossSeen && !st.clearsPlugLoss }
        pins := { s.pins with cpLoad := ({ s.session with st := st } : Session).loadFor s.pins.cpLoad }
        heating := { s.heating with sess := st }
        budgetIn := s.budgetIn ++ [.session st s.session.mode] } := by
  simp [enter, raise_eq, noticed, applyLoad, heatSession, postBudget, onPins, onSession, onHeating, Session.loadFor]
theorem enter_frame (s : State) (st : SessState) : onlyChanges [.session, .pins, .heating, .link, .budgetIn] s (s.enter st) := by
  simp [enter_eq, noticed, onlyChanges]
theorem setCauses_frame (s : State) (c : PauseSet) :
    onlyChanges [.session, .pins, .heating, .link, .budgetIn] s (s.setCauses c) := by
  unfold setCauses
  split
  · exact onlyChanges_refl _ s
  · have h := onlyChanges_trans (rs := [.session, .pins, .heating, .link, .budgetIn])
      (onSession_frame s fun x => { x with causes := c }) (raise_frame _ .session)
    dsimp only
    split
    · exact onlyChanges_trans h (enter_frame _ _)
    · split
      · exact onlyChanges_trans h (enter_frame _ _)
      · exact onlyChanges_trans h (onPins_frame _ _)
/-- R14: what a new pause-cause set makes of the session. -/
theorem setCauses_session (s : State) (c : PauseSet) :
    (s.setCauses c).session.causes = c ∧ (s.setCauses c).session.dcRequest = s.session.dcRequest ∧
      (c = s.session.causes → s.setCauses c = s) ∧
      (c ≠ s.session.causes → s.session.st = .active ∨ s.session.st = .paused →
        (s.setCauses c).session.st = if c.isEmpty then .active else .paused) ∧
      (s.session.st ≠ .active → s.session.st ≠ .paused → (s.setCauses c).session = { s.session with causes := c }) := by
  unfold setCauses
  split
  · simp_all
  · rename_i h
    refine ⟨?_, ?_, fun h' => absurd h' h, ?_, ?_⟩
    · dsimp only
      split
      · simp [enter_eq, onSession, raise_eq, noticed]
      · split <;> simp [enter_eq, onSession, raise_eq, noticed, applyLoad, onPins]
    · dsimp only
      split
      · simp [enter_eq, onSession, raise_eq, noticed]
      · split <;> simp [enter_eq, onSession, raise_eq, noticed, applyLoad, onPins]
    · intro _ hs
      cases hc : c.isEmpty <;> rcases hs with hs | hs <;>
        simp [hs, enter_eq, onSession, raise_eq, noticed, applyLoad, onPins]
    · intro h1 h2
      simp [h1, h2, onSession, raise_eq, noticed, applyLoad, onPins]
/-- R16, R35, R90, R106: one change at the monitor. -/
theorem isoChange_frame (s : State) (f : Insulation → Insulation) :
    onlyChanges [.iso, .session, .pins, .heating, .link, .budgetIn] s (s.isoChange f) := by
  unfold isoChange
  dsimp only
  split
  · exact onlyChanges_mono (onIso_frame s f)
  · refine onlyChanges_trans (ps := [.iso, .session, .pins, .heating, .link, .budgetIn]) ?_ (raise_frame _ _)
    refine onlyChanges_trans (ps := [.iso, .session, .pins, .heating, .link, .budgetIn]) ?_ (postBudget_frame _ _)
    exact onlyChanges_trans (onIso_frame s f) (setCauses_frame _ _)
theorem isoChange_iso (s : State) (f : Insulation → Insulation) : (s.isoChange f).iso = f s.iso := by
  have h : ∀ t : State, ∀ c, (t.setCauses c).iso = t.iso := fun t c => by
    have := setCauses_frame t c
    simp [onlyChanges] at this
    simp [this]
  unfold isoChange
  dsimp only
  split
  · rfl
  · simp [raise_eq, noticed, postBudget, h, onIso]

/-! ### Billing -/

/-- R150 to R153: a pricing point moves the open record and the meter's two marks. -/
theorem pricingPoint_frame (s : State) : onlyChanges [.billing, .meter] s s.pricingPoint := by
  unfold pricingPoint
  split
  · exact onlyChanges_refl _ s
  · exact onlyChanges_trans (onBilling_frame s _) (onMeter_frame _ _)
theorem relocate_frame (s : State) : onlyChanges [.billing, .budgetIn] s s.relocate :=
  onlyChanges_trans (onBilling_frame s _) (postBudget_frame _ _)
theorem swap_frame (s : State) : onlyChanges [.billing, .budgetIn, .nv, .power, .meter, .link] s s.swap := by
  unfold swap
  refine onlyChanges_trans (ps := [.billing, .budgetIn, .nv, .power, .meter]) ?_ (raise_frame _ _)
  refine onlyChanges_trans (ps := [.billing, .budgetIn]) ?_ (queueNv_frame _ _ _)
  exact onlyChanges_trans (onBilling_frame s _) (relocate_frame _)
theorem withdrawCommit_frame (s : State) : onlyChanges [.billing, .link] s s.withdrawCommit :=
  onlyChanges_doIf (onlyChanges_trans (onBilling_frame s _) (raise_frame _ _))
theorem checkpoint_frame (s : State) : onlyChanges [.billing, .nv, .power, .meter] s s.checkpoint := by
  unfold checkpoint
  split
  · exact onlyChanges_refl _ s
  · refine onlyChanges_trans (ps := [.billing, .nv, .power, .meter]) ?_ (queueNv_frame _ _ _)
    refine onlyChanges_trans (ps := [.billing]) ?_ (queueNv_frame _ _ _)
    exact onlyChanges_trans (onBilling_frame s _) (onBilling_frame _ _)
theorem openRecord_frame (s : State) (i : Nat) (m : Mode) (r : Option (List Byte)) :
    onlyChanges [.billing, .nv, .power, .meter, .link] s (s.openRecord i m r) := by
  unfold openRecord
  refine onlyChanges_trans (ps := [.billing, .nv, .power, .meter]) ?_ (raise_frame _ _)
  refine onlyChanges_trans (ps := [.billing, .meter]) ?_ (queueNv_frame _ _ _)
  exact onlyChanges_trans (onlyChanges_trans (onBilling_frame s _) (onBilling_frame _ _) (rs := [.billing])) (onMeter_frame _ _)
/-- R159, R160: the close of the open record. -/
theorem closeRecord_frame (s : State) (c : StopCause) (b : Bool) :
    onlyChanges [.billing, .budgetIn, .nv, .power, .meter, .link] s (s.closeRecord c b) := by
  unfold closeRecord
  split
  · exact onlyChanges_refl _ s
  · rename_i i _
    refine onlyChanges_trans (ps := [.billing, .budgetIn, .nv, .power, .meter, .link]) ?_ (raise_frame _ _)
    have q : ∀ t : State, onlyChanges [.nv, .power, .meter] t
        (if b = true then (t.queueSlot i true).queueTotals true else t.queueSlot i false) := by
      intro t
      split
      · exact onlyChanges_trans (queueNv_frame _ _ _) (queueNv_frame _ _ _)
      · exact queueNv_frame _ _ _
    refine onlyChanges_trans (ps := [.billing, .budgetIn, .nv, .power, .meter, .link]) ?_ (q _)
    refine onlyChanges_trans (ps := [.billing, .budgetIn, .nv, .power, .meter, .link]) ?_ (onBilling_frame _ _)
    refine onlyChanges_trans (ps := [.billing, .budgetIn, .nv, .power, .meter, .link]) ?_ (onMeter_frame _ _)
    refine onlyChanges_trans (ps := [.billing, .budgetIn, .nv, .power, .meter, .link]) ?_ (onBilling_frame _ _)
    have w : ∀ t : State, onlyChanges [.billing, .budgetIn, .nv, .power, .meter, .link] t
        (if b = true then t.withdrawCommit else (t.queueTotals false).doIf t.billing.commitPending swap) := by
      intro t
      split
      · exact onlyChanges_mono (withdrawCommit_frame t)
      · exact onlyChanges_trans (queueNv_frame t _ _) (onlyChanges_doIf (swap_frame _))
    exact onlyChanges_trans (pricingPoint_frame s) (w _)

end Sys2Proof.Machine.State
end

