-- ==== Sys2Proof/Laws/Nodes.lean ====
section
/-! SUPPORT. The node table and the two stage queues: what each shared operation does to a node's row, and to the
queues (R116, R117, R122). -/

namespace Sys2Proof.Machine.State

open Safety

/-- A row read after its own change. -/
theorem node_onNode_self (s : State) (a : Nat) (f : Node → Node) (h : 1 ≤ a) (hl : a ≤ s.stage.nodes.length) :
    (s.onNode a f).node a = f (s.node a) := by
  obtain ⟨i, rfl⟩ : ∃ i, a = i + 1 := ⟨a - 1, by omega⟩
  have : i < s.stage.nodes.length := by omega
  simp [onNode, node, onStage, List.getD_eq_getElem?_getD, this]

/-- A row read after another row's change. -/
theorem node_onNode_ne (s : State) (a b : Nat) (f : Node → Node) (h : a ≠ b) : (s.onNode b f).node a = s.node a := by
  cases a with
  | zero => rfl
  | succ i =>
    cases b with
    | zero => rfl
    | succ j =>
      have : j ≠ i := fun e => h (by omega)
      simp [onNode, node, onStage, List.getD_eq_getElem?_getD, this]

theorem onNode_length (s : State) (a : Nat) (f : Node → Node) :
    (s.onNode a f).stage.nodes.length = s.stage.nodes.length := by
  cases a <;> simp [onNode, onStage]

/-- A state with the same node table shows the same rows. -/
theorem node_congr {s t : State} (h : t.stage.nodes = s.stage.nodes) (a : Nat) : t.node a = s.node a := by
  cases a <;> simp [node, h]

theorem queueNormal_nodes (s : State) (c : StageCmd) (a : Nat) : (s.queueNormal c a).stage.nodes = s.stage.nodes := by
  simp only [queueNormal, onStage]
  split <;> rfl
theorem queueUrgent_nodes (s : State) (c : StageCmd) (a : Nat) : (s.queueUrgent c a).stage.nodes = s.stage.nodes := by
  simp only [queueUrgent, onStage]
  split
  · split <;> rfl
  · rfl
theorem compareSetpoint_nodes (s : State) (a : Nat) : (s.compareSetpoint a).stage.nodes = s.stage.nodes := by
  simp only [compareSetpoint, doIf]
  split
  · exact queueNormal_nodes _ _ _
  · rfl

/-- R122: a commanded setpoint is what its owner wrote, or 0 of an isolated node; no other row moves. -/
theorem writeSetpoint_node (s : State) (a b w : Nat) (h : 1 ≤ b) (hl : b ≤ s.stage.nodes.length) :
    (s.writeSetpoint b w).node a =
      if a = b then { s.node b with commanded := if (s.node b).isolated then 0 else w } else s.node a := by
  rw [writeSetpoint, node_congr (compareSetpoint_nodes _ _)]
  split
  · rename_i e; subst e; exact node_onNode_self s a _ h hl
  · rename_i e; exact node_onNode_ne s a b _ e
theorem writeSetpoint_ne (s : State) (a b w : Nat) (h : a ≠ b) : (s.writeSetpoint b w).node a = s.node a := by
  rw [writeSetpoint, node_congr (compareSetpoint_nodes _ _), node_onNode_ne s a b _ h]
theorem writeSetpoint_length (s : State) (b w : Nat) :
    (s.writeSetpoint b w).stage.nodes.length = s.stage.nodes.length := by
  rw [writeSetpoint, compareSetpoint_nodes, onNode_length]

/-- R59: setpoints OFF are written to heater addresses alone. -/
theorem writeOffs_node (s : State) (old : List Zone) (shed : List Nat) (a : Nat) (h : a ≤ 3) :
    (s.writeOffs old shed).node a = s.node a := by
  unfold writeOffs
  generalize (List.range 8).filter (fun i => !shed.contains i) ++ shed = l
  induction l generalizing s with
  | nil => rfl
  | cons i r ih =>
    rw [List.foldl_cons, ih, doIf]
    split
    · exact writeSetpoint_ne _ _ _ _ (by omega)
    · rfl

end Sys2Proof.Machine.State
end

