-- ==== Sys2Proof/Laws/Sessions.lean ====
section
/-! SUPPORT. The session: its conditions in words, what the end of a stop leaves,
    and the entry to ACTIVE or PAUSED. -/

namespace Sys2Proof.Machine

open Safety

/-- The overheat condition of R5 in words. -/
theorem overheated_eq_true (o : Option Int) : overheated o = true ↔ ∃ t, o = some t ∧ 190 < t := by
  cases o <;> simp [overheated]

/-- What the inlet must show for AUTHORISE and DC_CONNECT is what `inletBars` denies. -/
theorem inletReady_eq_true (s : State) : s.inletReady = true ↔ ¬ inletBars s := by
  simp only [State.inletReady, inletBars, Bool.and_eq_true, bne_iff_ne, not_or, ← overheated_eq_true]; simp

/-- Every contact reports open. -/
theorem allOpen_eq_true (s : State) : s.pins.allOpen = true ↔ contactsOpen s := by
  simp only [Pins.allOpen, contactsOpen, Bool.and_eq_true, Bool.not_eq_true']; tauto

/-- Some contact reports closed. -/
theorem allOpen_eq_false (s : State) : s.pins.allOpen = false ↔ ¬ contactsOpen s := by
  rw [← allOpen_eq_true]; simp

/-- One raise: at most one entry per kind (R190). -/
theorem withNotices_one (k : NoticeKind) (l) : withNotices [k] l = if k ∈ l then l else l ++ [k] := rfl

/-- A kind raised twice stands once (R190). -/
@[simp] theorem withNotices_twice (k : NoticeKind) (l) : withNotices [k] (withNotices [k] l) = withNotices [k] l := by
  simp only [withNotices_one]; split <;> simp_all

/-- The pause-cause set is empty (R15). -/
theorem isEmpty_eq_true (c : PauseSet) : c.isEmpty = true ↔ c = {} := by
  cases c; simp [PauseSet.isEmpty]; tauto

/-- The pause-cause set is not empty. -/
theorem isEmpty_eq_false (c : PauseSet) : c.isEmpty = false ↔ c ≠ {} := by
  rw [← Bool.not_eq_true, isEmpty_eq_true]

theorem State.doIf_eq (s : State) (c : Bool) (f) : s.doIf c f = if c = true then f s else s := rfl

/-- The close of a record stays in metering, billing, the store, the link and the budget postings (R159). -/
theorem State.closeRecord_keeps (s : State) (k : StopCause) (b : Bool) :
    (s.closeRecord k b).session = s.session ∧ (s.closeRecord k b).pins = s.pins ∧ (s.closeRecord k b).iso = s.iso ∧
    onlyChanges [.meter, .billing, .nv, .link, .budgetIn, .power] s (s.closeRecord k b) ∧
        (s.closeRecord k b).power = s.power := by
  unfold State.closeRecord
  cases h : s.billing.openSlot with
  | none => simp [onlyChanges]
  | some i =>
    simp only [State.pricingPoint, h, State.onSlot, State.onBilling, State.moveMarks, State.onMeter]
    cases hc : s.billing.commitPending <;> cases b <;>
    simp [State.queueTotals, State.queueSlot, State.queueNv, State.onNv, State.onMeter, State.raise_eq,
        noticed, onlyChanges, State.swap, State.withdrawCommit, State.doIf, State.onBilling, State.relocate,
        State.postPreferred, State.postBudget, State.queueTariff]

/-- R178: the queue after a content is handed over: it replaces what waits for its area, or goes to the tail. -/
theorem State.queueNv_queue (s : State) (c : NvContent) (b : Bool) :
    (s.queueNv c b).nv.queue =
      if s.nv.queue.any fun w => w.content.area == c.area then
        s.nv.queue.map fun w => if w.content.area = c.area then ⟨c, w.supplyLoss || b⟩ else w
      else s.nv.queue ++ [⟨c, b⟩] := by
  cases c <;> rfl

/-- R178: a content handed over waits in the queue. -/
theorem State.queueNv_waits (s : State) (c : NvContent) (b : Bool) : waits (s.queueNv c b) c := by
  unfold waits
  rw [State.queueNv_queue]
  split
  · next h =>
    obtain ⟨w, hw, ha⟩ := List.any_eq_true.1 h
    exact ⟨⟨c, w.supplyLoss || b⟩, List.mem_map.2 ⟨w, hw, by simp_all⟩, rfl⟩
  · exact ⟨⟨c, b⟩, by simp, rfl⟩

/-- R178: what waits for another area is left as it is. -/
theorem State.queueNv_waits_other (s : State) (c d : NvContent) (b : Bool) (h : waits s d) (hd : d.area ≠ c.area) :
    waits (s.queueNv c b) d := by
  obtain ⟨w, hw, rfl⟩ := h
  unfold waits
  rw [State.queueNv_queue]
  split
  · exact ⟨w, List.mem_map.2 ⟨w, hw, by simp [hd]⟩, rfl⟩
  · exact ⟨w, by simp [hw], rfl⟩

/-- The open slot is one of the slots. -/
theorem openSlot_lt (s : State) (i) (h : s.billing.openSlot = some i) : i < s.billing.slots.length := by
  simp only [Billing.openSlot, List.findIdx?_eq_some_iff_getElem] at h; exact h.1

/-- R159: the close leaves the slot CLOSED with its end cause, the channel closed and a RECORD notice standing. -/
theorem State.closeRecord_slot (s : State) (k : StopCause) (b : Bool) (i : Nat) (h : s.billing.openSlot = some i) :
    ((s.closeRecord k b).billing.slot i).st = .closed ∧
        ((s.closeRecord k b).billing.slot i).record.endCause = some (.stop k) ∧
     (s.closeRecord k b).meter.channel.isOpen = false ∧ NoticeKind.record ∈ (s.closeRecord k b).link.notices := by
  have hl := openSlot_lt s i h
  unfold State.closeRecord
  simp only [h, State.pricingPoint,  State.onSlot, State.onBilling, State.moveMarks, State.onMeter]
  have hm : ∀ (l : List NoticeKind) k,
      k ∈ withNotices [k] l := by intro l k; simp only [withNotices_one]; split <;> simp_all
  cases hc : s.billing.commitPending <;> cases b <;>
    simp [State.queueTotals, State.queueSlot, State.queueNv, State.onNv, State.onMeter, State.raise_eq,
        noticed, State.swap, State.withdrawCommit, State.doIf, State.onBilling, State.relocate,
        State.postPreferred, State.postBudget, State.queueTariff, Billing.slot, hl, Record.closed, hm]

/-- R23: where the session goes after a stop, and that nothing outside it moves. -/
theorem State.afterStop_facts (s : State) (b : Bool) : 
  (b = false → s.session.fault = none → s.power.hostReset = true ∨
            (s.session.unlockOnStop = false ∧ s.session.stopCause ≠ some .cableLost ∧
                s.session.plugLossSeen = false) →
          (s.afterStop b).session.st = .finished ∧ (s.afterStop b).session.lock = s.session.lock) ∧
  (b = false → s.session.fault = none → s.power.hostReset = false → s.pins.lockFb = true →
            (s.session.unlockOnStop = true ∨ s.session.stopCause = some .cableLost ∨ s.session.plugLossSeen = true) →
          (s.afterStop b).session.st = .unlocking ∧ (s.afterStop b).session.lock = .unlockTravel ∧
              (s.afterStop b).pins.lockDrive = .towardReleased) ∧
   (b = false → ∀ f, s.session.fault = some f → (s.afterStop b).session.st = .faulted ∧
       (s.afterStop b).session.fault = some f) ∧
   (b = true → (s.afterStop b).session.st = .faulted ∧ (s.afterStop b).session.fault = some .contactor ∧
       (s.afterStop b).pins.kacDrive = false ∧  (s.afterStop b).pins.kdcpDrive = false ∧
       (s.afterStop b).pins.kdcnDrive = false) ∧
   (s.session.openTimer = none → (s.afterStop b).session.openTimer = none) ∧
       (s.afterStop b).session.acK = s.session.acK ∧ (s.afterStop b).session.dcK = s.session.dcK ∧
   (s.afterStop b).session.stopCause = s.session.stopCause ∧ (s.pins.cpLoad = false →
       (s.afterStop b).pins.cpLoad = false) ∧
   (s.afterStop b).session.station = s.session.station ∧ (∀ k, k ∈ s.link.notices →
       k ∈ (s.afterStop b).link.notices) ∧
   onlyChanges [.session, .pins, .heating, .link, .budgetIn] s (s.afterStop b) := by
  unfold State.afterStop
  have hm : ∀ (l : List NoticeKind) k k', k ∈ l →
      k ∈ withNotices [k'] l := by intro l k k' h; simp only [withNotices_one]; split <;> simp_all
  cases b
  · cases hf : s.session.fault with
    | some f => 
      simp +contextual [State.goFaulted, State.postBudget, State.raise_eq, noticed, State.enter,
          State.applyLoad, Session.loadFor, State.heatSession, State.onHeating, State.onPins,
          SessState.clearsPlugLoss, State.onSession, onlyChanges, hm]
    | none =>
      by_cases h1 : s.power.hostReset = true
      · simp +contextual [h1, State.postBudget, State.raise_eq, noticed, State.enter, State.applyLoad,
            Session.loadFor, State.heatSession, State.onHeating, State.onPins, SessState.clearsPlugLoss,
            State.onSession, onlyChanges, hm]
      · by_cases h2 : (s.session.unlockOnStop || s.session.stopCause == some .cableLost || s.session.plugLossSeen) = true
        · have h3 : ¬ (s.session.unlockOnStop = false ∧ s.session.stopCause ≠ some .cableLost ∧
              s.session.plugLossSeen = false) := by
            intro h; simp [h] at h2
          cases h4 : s.pins.lockFb <;> cases h5 : s.session.prox.present <;>
          simp +contextual [h1, h2, h3, h4, h5, State.unlockDone, State.goUnlocking, State.postBudget,
              State.raise_eq, noticed, State.enter, State.applyLoad, Session.loadFor, State.heatSession,
              State.onHeating, State.onPins, SessState.clearsPlugLoss, State.onSession, onlyChanges, hm]
        · have h3 : ¬ (s.session.unlockOnStop = true ∨ s.session.stopCause = some .cableLost ∨ s.session.plugLossSeen = true) := by
            intro h; rcases h with h | h | h <;> simp [h] at h2
          simp +contextual [h1, h2, h3, State.postBudget, State.raise_eq, noticed, State.enter,
              State.applyLoad, Session.loadFor, State.heatSession, State.onHeating, State.onPins,
              SessState.clearsPlugLoss, State.onSession, onlyChanges, hm]
  · simp +contextual [State.goFaulted, State.postBudget, State.raise_eq, noticed, State.enter, State.applyLoad,
        Session.loadFor, State.heatSession, State.onHeating, State.onPins, SessState.clearsPlugLoss,
        State.onSession, onlyChanges, hm]

/-- R16: a report of the monitor to a stopping session moves its pause causes alone. -/
theorem State.isoChange_stopping (s : State) (f) (hs : s.session.st = .stopping) (hp : s.pins.cpLoad = false) :
   (s.isoChange f).iso = f s.iso ∧ (∃ c, (s.isoChange f).session = { s.session with causes := c }) ∧
       (s.isoChange f).pins = s.pins ∧
   onlyChanges [.iso, .session, .pins, .link, .budgetIn] s (s.isoChange f) := by
  have hpp : ({ s.pins with cpLoad := false } : Pins) = s.pins := by rw [← hp]
  unfold State.isoChange
  dsimp only
  split
  · exact ⟨rfl, ⟨s.session.causes, rfl⟩, rfl, by simp [onlyChanges, State.onIso]⟩
  · simp only [State.setCauses]
    split
    · refine ⟨by simp [State.onIso, State.postBudget, State.raise_eq, noticed], ⟨s.session.causes,
          by simp [State.onIso, State.postBudget, State.raise_eq, noticed]⟩, by simp [State.onIso,
          State.postBudget, State.raise_eq, noticed], by simp [onlyChanges, State.onIso, State.postBudget,
          State.raise_eq, noticed]⟩
    · refine ⟨?_, ⟨{ s.session.causes with searchHold := (f s.iso).hold }, ?_⟩, ?_, ?_⟩ <;> simp [onlyChanges,
          State.onIso, State.postBudget, State.raise_eq, noticed, hs, State.onSession, State.applyLoad,
          Session.loadFor, State.onPins]

/-- R22: in SUPPLY_HOLD the opening settles the contactors, and ends with every contact open or at its timeout, when in DC
the monitor is told. -/
theorem State.holdOpening_eq (s : State) (timedOut : Bool) :
    s.holdOpening timedOut =
      (let t := s.settleContactors
       if s.session.openTimer ≠ none ∧ (timedOut = true ∨ s.pins.allOpen = true) then
         let u := t.onSession fun x => { x with openTimer := none }
         if s.session.mode = some .dc then u.isoChange fun x => x.dcOpened s.now else u
       else t) := by
  cases timedOut <;> cases h : s.session.openTimer <;> cases k : s.pins.allOpen <;>
    simp [State.holdOpening, State.settleContactors, State.onSession, State.doIf, State.tellDcOpen, h, k]

theorem State.holdOpening_frame (s : State) (timedOut : Bool) :
    onlyChanges [.session, .iso, .pins, .heating, .link, .budgetIn] s (s.holdOpening timedOut) := by
  rw [State.holdOpening_eq]
  have h : onlyChanges [.session, .iso, .pins, .heating, .link, .budgetIn] s s.settleContactors :=
    onlyChanges_mono (onSession_frame s _)
  dsimp only
  split
  · have h' : onlyChanges [.session, .iso, .pins, .heating, .link, .budgetIn] s
        (s.settleContactors.onSession fun x => { x with openTimer := none }) :=
      onlyChanges_trans h (onSession_frame _ _)
    split
    · exact onlyChanges_trans h' (isoChange_frame _ _)
    · exact h'
  · exact h

/-- R21 to R23: everything the end of a stop leaves. -/
theorem State.stopEnd_facts (s : State) (hs : s.session.st = .stopping) (b : Bool) : 
  (b = false → s.session.fault = none → s.power.hostReset = true ∨
            (s.session.unlockOnStop = false ∧ s.session.stopCause ≠ some .cableLost ∧
                s.session.plugLossSeen = false) →
          (s.stopEnd b).session.st = .finished ∧ (s.stopEnd b).session.lock = s.session.lock) ∧
  (b = false → s.session.fault = none → s.power.hostReset = false → s.pins.lockFb = true →
            (s.session.unlockOnStop = true ∨ s.session.stopCause = some .cableLost ∨ s.session.plugLossSeen = true) →
          (s.stopEnd b).session.st = .unlocking ∧ (s.stopEnd b).session.lock = .unlockTravel ∧
              (s.stopEnd b).pins.lockDrive = .towardReleased) ∧
   (b = false → ∀ f, s.session.fault = some f → (s.stopEnd b).session.st = .faulted ∧
       (s.stopEnd b).session.fault = some f) ∧
   (b = true → (s.stopEnd b).session.st = .faulted ∧ (s.stopEnd b).session.fault = some .contactor ∧
       (s.stopEnd b).pins.kacDrive = false ∧  (s.stopEnd b).pins.kdcpDrive = false ∧
       (s.stopEnd b).pins.kdcnDrive = false) ∧
   (s.stopEnd b).session.openTimer = none ∧ (s.stopEnd b).session.acK = s.session.acK.settled s.pins.kacFb ∧
       (s.stopEnd b).session.dcK = s.session.dcK.settled (s.pins.kdcpFb || s.pins.kdcnFb) ∧
   (s.stopEnd b).session.stopCause = s.session.stopCause ∧ (s.stopEnd b).pins.cpLoad = false ∧
   (s.stopEnd b).session.station = none ∧ 
   (s.stopEnd b).iso = (if s.session.mode = some .dc then s.iso.dcOpened s.now else s.iso) ∧
   (∀ i, s.billing.openSlot = some i → 
     ((s.stopEnd b).billing.slot i).st = .closed ∧
         ((s.stopEnd b).billing.slot i).record.endCause = some (.stop (s.session.stopCause.getD .hostStop)) ∧
     (s.stopEnd b).meter.channel.isOpen = false ∧ NoticeKind.record ∈ (s.stopEnd b).link.notices) ∧
   onlyChanges [.session, .pins, .heating, .iso, .meter, .billing, .nv, .link, .budgetIn] s (s.stopEnd b) := by
  set s1 := (s.settleContactors.onSession fun x => { x with openTimer := none }).onPins fun p => { p with cpLoad := false } with hs1
  set s2 := s1.doIf (s1.session.mode == some .dc) fun s => s.tellDcOpen with hs2
  have f1 : s1.session =
      { s.session with
        acK := s.session.acK.settled s.pins.kacFb
        dcK := s.session.dcK.settled (s.pins.kdcpFb || s.pins.kdcnFb)
        openTimer := none } := by
    simp [hs1, State.settleContactors, State.onSession, State.onPins]
  have f1p : s1.pins = { s.pins with cpLoad := false } := by simp [hs1, State.settleContactors,
      State.onSession, State.onPins]
  have f1o : onlyChanges [.session, .pins] s s1 := by simp [hs1, State.settleContactors, State.onSession,
      State.onPins, onlyChanges]
  have f1i : s1.iso = s.iso ∧ s1.now = s.now := by simp [hs1, State.settleContactors, State.onSession, State.onPins]
  have f2 : s2.iso = (if s.session.mode = some .dc then s.iso.dcOpened s.now else s.iso) ∧ (∃ c,
      s2.session = { s1.session with causes := c }) ∧ s2.pins = s1.pins ∧
     onlyChanges [.iso, .session, .pins, .link, .budgetIn] s1 s2 := by
    by_cases h : s.session.mode = some .dc
    · have := State.isoChange_stopping s1 (fun x => x.dcOpened s1.now) (by rw [f1]; exact hs) (by rw [f1p])
      have e : s2 = s1.isoChange (fun x => x.dcOpened s1.now) := by simp [hs2, State.doIf_eq, f1, h, State.tellDcOpen]
      rw [e, if_pos h]; rw [f1i.1, f1i.2] at this; simpa [f1i.2] using this
    · have e : s2 = s1 := by simp [hs2, State.doIf_eq, f1, h]
      rw [e]; exact ⟨by simp [h, f1i.1], ⟨_, rfl⟩, rfl, by simp [onlyChanges]⟩
  obtain ⟨f2i, ⟨c, f2s⟩, f2p, f2o⟩ := f2
  have hcause : s2.session.stopCause = s.session.stopCause := by rw [f2s, f1]
  have f3 := State.closeRecord_keeps s2 (s2.session.stopCause.getD .hostStop) false
  have f3b : ∀ i, s.billing.openSlot = some i →
      _ := fun i hi => State.closeRecord_slot s2 (s2.session.stopCause.getD .hostStop) false i (by
     have : s2.billing = s.billing := by simp_all [onlyChanges]
     rw [this]; exact hi)
  set s3 := s2.closeRecord (s2.session.stopCause.getD .hostStop) false with hs3
  have f4 := State.afterStop_facts s3 b
  set s4 := s3.afterStop b with hs4
  have key : s.stopEnd b = (s4.postBudget (.phases 0)).clearStation := rfl
  rw [key]
  clear_value s4 s3 s2 s1
  have f5 : ((s4.postBudget (.phases 0)).clearStation).session = { s4.session with station := none } ∧
      ((s4.postBudget (.phases 0)).clearStation).pins = s4.pins ∧
      ((s4.postBudget (.phases 0)).clearStation).iso = s4.iso ∧
      ((s4.postBudget (.phases 0)).clearStation).billing = s4.billing ∧
      ((s4.postBudget (.phases 0)).clearStation).link = s4.link ∧
      ((s4.postBudget (.phases 0)).clearStation).meter = s4.meter ∧ onlyChanges [.session,
      .budgetIn] s4 ((s4.postBudget (.phases 0)).clearStation) := by
    cases h : s4.session.station <;> simp [State.clearStation, State.postBudget, h, State.onSession, onlyChanges]
    rw [← h]
  obtain ⟨g1, g2, g3, g4, g5, g6, g7⟩ := f5
  simp only [g1, g2, g3, g4, g5, g6]
  obtain ⟨h1, h2, h3, h4, h5⟩ := f3
  try rw [h1] at f4
  try rw [h2] at f4
  try rw [h5] at f4
  obtain ⟨a1, a2, a3, a4, a5, a6, a7, a8, a9, a10, a11, a12⟩ := f4
  have hp : s2.power = s.power := by simp_all [onlyChanges]
  rw [f2s, f1, hp] at a1 a2
  rw [f2s, f1] at a3
  rw [f2s, f1] at a5 a6 a7 a8
  rw [f2p, f1p] at a2 a9
  refine ⟨fun x y z => a1 x y z, fun x y z w => a2 x y z w, a3, a4, a5 rfl, a6, a7, a8, a9 rfl, trivial, ?_, ?_, ?_⟩
  · simp [onlyChanges] at a12; rw [a12.2.2.2.1, h3, f2i]
  · intro i hi
    have := f3b i hi
    rw [hcause] at this
    simp [onlyChanges] at a12
    obtain ⟨b1, b2, b3, b4⟩ := this
    refine ⟨?_, ?_, ?_, a11 _ b4⟩
    · rw [a12.2.2.2.2.2.2.1]; exact b1
    · rw [a12.2.2.2.2.2.2.1]; exact b2
    · rw [a12.2.2.2.2.2.1]; exact b3
  · simp only [onlyChanges, List.mem_cons, List.not_mem_nil, or_false, not_or, reduceCtorEq, not_false_eq_true,
        true_and, forall_const, not_true_eq_false, and_false, IsEmpty.forall_iff] at g7 f1o f2o h4 a12 ⊢
    simp_all

/-- R14: the entry to ACTIVE or PAUSED as one state. -/
theorem State.enterActive_eq (s : State) (c : PauseSet) (st : SessState)
    (hc : c = 
      { s.session.causes with noOffer := false, nothingToDo := false, noStages := false, searchHold := s.iso.hold })
   (hst : st = if c = {} then SessState.active else .paused) :
    s.enterActive =
    { noticed [.session] s with
          session := { s.session with causes := c, st := st }
          pins := { s.pins with cpLoad := decide (s.session.mode = some .ac ∧ s.session.causes.hostPause = false) }
          heating := { s.heating with sess := st }
          budgetIn := s.budgetIn ++ [.session st s.session.mode] } := by
  have e : ({ s.session.causes with
      noOffer := false
      nothingToDo := false
      noStages := false
      searchHold := s.iso.hold } : PauseSet) = c := hc.symm
  unfold State.enterActive
  simp only [e]
  by_cases h2 : c = {}
  · have h3 : st = .active := by simp [hst, h2]
    have h4 : s.session.causes.hostPause = false := by have := congrArg PauseSet.hostPause h2; simpa [hc] using this
    by_cases h5 : c = s.session.causes
    · simp [State.doIf, h5.symm, State.enter, (isEmpty_eq_true c).2 h2, State.postBudget, State.raise_eq,
          noticed, State.heatSession, State.onHeating, State.onPins, State.applyLoad, Session.loadFor,
          State.onSession,SessState.clearsPlugLoss, h3]
      rw [h2]; simp
      cases s.session.mode with 
      | none => rfl
      | some m => cases m <;> rfl
    · simp [State.doIf, h5, State.enter, (isEmpty_eq_true c).2 h2, State.postBudget, State.raise_eq, noticed,
          State.heatSession, State.onHeating, State.onPins, State.applyLoad, Session.loadFor,
          State.onSession,SessState.clearsPlugLoss, h3, h4]
      cases s.session.mode with 
      | none => rfl
      | some m => cases m <;> rfl
  · have h3 : st = .paused := by simp [hst, h2]
    by_cases h5 : c = s.session.causes
    · simp [State.doIf, h5.symm, State.enter, (isEmpty_eq_false c).2 h2, State.postBudget, State.raise_eq,
          noticed, State.heatSession, State.onHeating, State.onPins, State.applyLoad, Session.loadFor,
          State.onSession,SessState.clearsPlugLoss, h3, PauseSet.keepsLoad]
      have : c.nothingToDo = false := by rw [hc]
      rw [h5] at this 
      rw [h5]
      simp [this]
      rcases s.session.mode with _ | _ | _ <;> cases s.session.causes.hostPause <;> rfl
    · simp [State.doIf, h5, State.enter, (isEmpty_eq_false c).2 h2, State.postBudget, State.raise_eq, noticed,
          State.heatSession, State.onHeating, State.onPins, State.applyLoad, Session.loadFor,
          State.onSession,SessState.clearsPlugLoss, h3, PauseSet.keepsLoad]
      simp [hc]
      rcases s.session.mode with _ | _ | _ <;> cases s.session.causes.hostPause <;> rfl

end Sys2Proof.Machine
end

