-- ==== Sys2Proof/Laws/Budget.lean ====
section
/-! SUPPORT. The budget unit: what one evaluation changes, and the derating table as read. -/

namespace Sys2Proof.Machine

open Safety

/-- A step of the heating controller that chooses no zone leaves the charger rows alone. -/
theorem State.heatStep_node (s : State) (o r f) (a : Nat) (h : a ≤ 3) : (s.heatStep o [] r f).node a = s.node a := by
  unfold State.heatStep
  dsimp only
  have e : ∀ t u : State, t.stage = u.stage → t.node a = u.node a := fun t u h => State.node_congr (by rw [h]) a
  rw [e _ _ (onlyChanges_stage (onlyChanges_doIf (State.raise_frame _ _)))]
  rw [e _ _ (onlyChanges_stage (State.postMinTemp_frame _)),
      e _ _ (onlyChanges_stage (State.postDemands_frame _)), e _ _ (onlyChanges_stage (State.postHeatOn_frame _ _))]
  simp only [State.writeOns, List.foldl_nil]
  rw [State.writeOffs_node _ _ _ _ h]; rfl

/-- R97: the setpoint wait may go on to the isolation; the charger rows stay. -/
theorem State.setpointWaitCheck_frame (s : State) : onlyChanges [.heating, .stage, .budgetIn, .link,
    .iso] s s.setpointWaitCheck ∧ ∀ a, a ≤ 3 → s.setpointWaitCheck.node a = s.node a := by
  unfold State.setpointWaitCheck
  split
  · exact ⟨onlyChanges_refl _ s, fun _ _ => rfl⟩
  · rename_i b _
    unfold State.doIf; split
    · unfold State.isolateNow State.queueIsolate State.doIf State.onSearch
      constructor
      · refine onlyChanges_trans (ps := [.heating, .stage, .budgetIn, .link]) ?_ (State.onIso_frame _ _)
        split
        · exact onlyChanges_trans (State.queueUrgent_frame _ _ _) (State.heatIsolate_frame _ _)
        · exact onlyChanges_refl _ _
      · intro a ha
        show State.node (if _ then _ else _) a = _
        split
        · unfold State.heatIsolate State.atHeater
          split
          · have : ∀ (t : State) n f, (t.zoneStep n f).node a = t.node a := by
              intro t n f; cases n
              · rfl
              · exact State.heatStep_node _ _ _ _ _ ha
            rw [this]; exact State.node_congr (State.queueUrgent_nodes _ _ _) a
          · exact State.node_congr (State.queueUrgent_nodes _ _ _) a
        · rfl
    · exact ⟨onlyChanges_refl _ s, fun _ _ => rfl⟩

/-- R15: the draw status moves the session alone. -/
theorem State.takeDraw_frame (s : State) (e) : onlyChanges [.session, .pins, .heating, .link,
    .budgetIn] s (s.takeDraw e) := by
  unfold State.takeDraw; split
  · exact onlyChanges_trans (State.onSession_frame _ _) (State.setCauses_frame _ _)
  · exact onlyChanges_mono (State.onSession_frame _ _)

/-- R41, R51: an evaluation posts as `evaluated` says, and keeps what it read. -/
theorem State.evalBudget_evaluated (s : State) : evaluated s s.evalBudget ∧
    s.evalBudget.budget.input = s.budget.input ∧ s.evalBudget.budget.params = s.budget.params ∧
    s.evalBudget.budget.table = s.budget.table ∧ s.evalBudget.budget.period = s.budget.period := by
  obtain ⟨e, he⟩ : ∃ e, e = evaluate s.budget.input s.budget.params s.budget.table := ⟨_, rfl⟩
  obtain ⟨s1, h1⟩ : ∃ x, x = (s.onBudget fun b => { b with last := e }).postHeat ⟨e.grantPosted,
      e.heatAllowance⟩ := ⟨_, rfl⟩
  obtain ⟨s2, h2⟩ : ∃ x,
      x = ((s1.writeSetpoint 1 (e.posted 1)).writeSetpoint 2 (e.posted 2)).writeSetpoint 3 (e.posted 3) := ⟨_, rfl⟩
  obtain ⟨s3, h3⟩ : ∃ x, x = s2.takeDraw e := ⟨_, rfl⟩
  obtain ⟨s4, h4⟩ : ∃ x, x = s3.setpointWaitCheck := ⟨_, rfl⟩
  have key : s.evalBudget = s4 := by subst h4 h3 h2 h1 he; rfl
  rw [key]
  have f1 : onlyChanges [.budget, .heatIn] s s1 := by
    rw [h1]; exact onlyChanges_trans (State.onBudget_frame _ _) (State.postHeat_frame _ _)
  have f2 : onlyChanges [.stage] s1 s2 := by
    rw [h2]
    exact onlyChanges_trans
      (onlyChanges_trans (rs := [.stage]) (State.writeSetpoint_frame _ _ _) (State.writeSetpoint_frame _ _ _))
      (State.writeSetpoint_frame _ _ _)
  have f3 := State.takeDraw_frame s2 e
  rw [← h3] at f3
  obtain ⟨f4, f5⟩ := State.setpointWaitCheck_frame s3
  rw [← h4] at f4 f5
  have b1 : s1.budget = { s.budget with last := e } := by rw [h1]; rfl
  have hi1 : s1.heatIn = s.heatIn ++ [⟨e.grantPosted, e.heatAllowance⟩] := by rw [h1]; rfl
  have st1 : s1.stage = s.stage := by rw [h1]; rfl
  have ss1 : s1.session = s.session := by rw [h1]; rfl
  have fb : s4.budget = { s.budget with last := e } := by
    rw [onlyChanges_budget f4, onlyChanges_budget f3, onlyChanges_budget f2, b1]
  have fbi : s4.budget.input = s.budget.input ∧ s4.budget.params = s.budget.params ∧
      s4.budget.table = s.budget.table ∧ s4.budget.period = s.budget.period ∧ s4.budget.last = e := by rw [fb]; simp
  obtain ⟨q1, q2, q3, q4, q5⟩ := fbi
  have fs : s4.session = s3.session := onlyChanges_session f4
  have s2s : s2.session = s.session := by rw [onlyChanges_session f2, ss1]
  have hn : s4.heatIn = s.heatIn ++ [⟨e.grantPosted, e.heatAllowance⟩] := by rw [onlyChanges_heatIn f4,
      onlyChanges_heatIn f3, onlyChanges_heatIn f2, hi1]
  have st3 : s3.stage = s2.stage := onlyChanges_stage f3
  clear fb
  clear h4 key h1
  refine ⟨?_, q1, q2, q3, q4⟩
  unfold evaluated
  rw [q1, q2, q3, ← he]
  dsimp only
  refine ⟨q5, hn, ?_, ?_, ?_, ?_⟩
  · intro a ha1 ha2 ha3
    have l1 : s1.stage.nodes.length = s.stage.nodes.length := by rw [st1]
    have n1 : ∀ a, s1.node a = s.node a := fun a => State.node_congr (by rw [st1]) a
    rw [f5 a ha2, State.node_congr (s := s2) (by rw [st3]) a, h2]
    have ea : a = 1 ∨ a = 2 ∨ a = 3 := by omega
    rcases ea with rfl | rfl | rfl
    · rw [State.writeSetpoint_ne _ 1 3 _ (by decide), State.writeSetpoint_ne _ 1 2 _ (by decide),
          State.writeSetpoint_node _ _ _ _ (by decide) (by omega)]; simp [n1]
    · rw [State.writeSetpoint_ne _ 2 3 _ (by decide),
          State.writeSetpoint_node _ _ _ _ (by decide) (by rw [State.writeSetpoint_length]; omega),
          State.writeSetpoint_ne _ 2 1 _ (by decide)]; simp [n1]
    · rw [State.writeSetpoint_node _ _ _ _ (by decide)
            (by rw [State.writeSetpoint_length, State.writeSetpoint_length]; omega),
          State.writeSetpoint_ne _ 3 2 _ (by decide), State.writeSetpoint_ne _ 3 1 _ (by decide)]; simp [n1]
  · intro g1 g2
    rw [fs, h3, State.takeDraw, s2s, if_neg (by tauto)]; simp [State.onSession, s2s]
  · intro g
    rw [fs, h3, State.takeDraw, s2s, if_pos g]
    obtain ⟨c1, c2, c3, c4, c5⟩ := State.setCauses_session
      (s2.onSession fun x => { x with dcRequest := e.dcRequestPosted })
      { s.session.causes with
        noOffer := e.noOffer
        nothingToDo := e.noDraw
        noStages := e.noStages }
    simp only [State.onSession, s2s] at c1 c2 c3 c4 c5 ⊢
    refine ⟨c2, c1, ?_, ?_⟩
    · rw [c1]; intro h; rw [c3 h]
    · rw [c1]; intro h; rw [c4 h g]; simp only [isEmpty_eq_true]
  · exact onlyChanges_trans (onlyChanges_trans (onlyChanges_trans f1 f2 (rs := [.budget, .heatIn,
        .stage])) f3 (rs := [.budget, .session, .pins, .heating, .stage,  .link, .budgetIn,
        .heatIn])) f4 (rs := [.budget, .session, .pins, .heating, .stage, .iso, .link, .budgetIn, .heatIn])

/-- R40: between two points the derate is the floored line, and stays within 0 to 1,000. -/
theorem interpolate_spec (p q : Point) (t : Int) (h1 : p.1 ≤ t) (h2 : t < q.1) (hp : p.2 ≤ 1000) (hq : q.2 ≤ 1000) :
   interpolate p q t ≤ 1000 ∧ (interpolate p q t : Int) = p.2 + (t - p.1) * ((q.2 : Int) - p.2) / (q.1 - p.1) := by
  have hd : (0:Int) < q.1 - p.1 := by omega
  have u : (t - p.1) * ((q.2 : Int) - p.2) / (q.1 - p.1) ≤ max 0 ((q.2:Int) - p.2) := by
    apply Int.ediv_le_of_le_mul hd
    rcases le_or_gt 0 ((q.2:Int) - p.2) with h | h
    · rw [max_eq_right h, mul_comm]; apply mul_le_mul_of_nonneg_left (by omega) h
    · rw [max_eq_left (le_of_lt h)]; simp; nlinarith
  have l : min 0 ((q.2:Int) - p.2) ≤ (t - p.1) * ((q.2 : Int) - p.2) / (q.1 - p.1) := by
    apply Int.le_ediv_of_mul_le hd
    rcases le_or_gt 0 ((q.2:Int) - p.2) with h | h
    · rw [min_eq_left h]; simp; nlinarith
    · rw [min_eq_right (le_of_lt h)]; nlinarith
  unfold interpolate; constructor <;> omega

/-- R40: the derate read from a table whose temperatures rise. -/
theorem derateFrom_spec (p : Point) (r : List Point) : (p :: r).Pairwise (fun p q => p.1 < q.1) →
    (∀ x ∈ p :: r, x.2 ≤ 1000) → 
    (∀ t : Int, p.1 ≤ t → derateFrom (p :: r) t ≤ 1000) ∧ (∀ x ∈ p :: r, derateFrom (p :: r) x.1 = x.2) ∧
    (∀ x, (p::r).getLast? = some x → ∀ t : Int, x.1 ≤ t → derateFrom (p :: r) t = x.2) ∧
    ∀ pre a b post, p :: r = pre ++ a :: b :: post → ∀ t : Int, a.1 ≤ t → t < b.1 →
        (derateFrom (p::r) t : Int) = a.2 + (t - a.1) * ((b.2 : Int) - a.2) / (b.1 - a.1) := by
  induction r generalizing p with
  | nil => 
    intro h1 h2
    refine ⟨?_, ?_, ?_, ?_⟩
    · intro t _; simpa [derateFrom] using h2
    · simp [derateFrom]
    · intro x hx; simp at hx; simp [derateFrom, hx]
    · intro pre a b post h; have := congrArg List.length h; simp at this; omega
  | cons q r ih =>
    intro h1 h2
    have h3 := List.pairwise_cons.1 h1
    obtain ⟨i1, i2, i3, i4⟩ := ih q h3.2 (fun x hx => h2 x (List.mem_cons_of_mem _ hx))
    have hpq := h3.1 q (by simp)
    refine ⟨?_, ?_, ?_, ?_⟩
    · intro t ht; simp only [derateFrom]; split
      · exact (interpolate_spec p q t ht ‹_› (h2 p (by simp)) (h2 q (by simp))).1
      · exact i1 t (by omega)
    · intro x hx
      rcases List.mem_cons.1 hx with rfl | hx
      · simp only [derateFrom, if_pos hpq, interpolate]; simp
      · have : ¬ x.1 < q.1 := by
          rcases List.mem_cons.1 hx with rfl | hx
          · omega
          · have := (List.pairwise_cons.1 h3.2).1 x hx; omega
        simp only [derateFrom, if_neg this]; exact i2 x hx
    · intro x hx t ht
      have hx' : (q :: r).getLast? = some x := by simpa [List.getLast?_cons_cons] using hx
      have : q.1 ≤ x.1 := by
        have := List.mem_of_getLast? hx'
        rcases List.mem_cons.1 this with rfl | hx
        · omega
        · have := (List.pairwise_cons.1 h3.2).1 x hx; omega
      simp only [derateFrom, if_neg (show ¬ t < q.1 by omega)]; exact i3 x hx' t ht
    · intro pre a b post he t h4 h5
      cases pre with
      | nil => 
        simp at he; obtain ⟨rfl, rfl, rfl⟩ := he
        simp only [derateFrom, if_pos h5]; exact (interpolate_spec p q t h4 h5 (h2 p (by simp)) (h2 q (by simp))).2
      | cons x pre =>
        simp at he; obtain ⟨rfl, he⟩ := he
        have : ¬ t < q.1 := by
          have ha : a ∈ q :: r := by rw [he]; simp
          rcases List.mem_cons.1 ha with rfl | hx
          · omega
          · have := (List.pairwise_cons.1 h3.2).1 a hx; omega
        simp only [derateFrom, if_neg this]; exact i4 pre a b post he t h4 h5

end Sys2Proof.Machine
end

