-- ==== Sys2Proof/WellFormed.lean ====
section
/-! DEFINITION. Which commands the part's wires can carry: each operand within the width section 10.1 and the
range section 6.1, 9.6, 10.2, 10.3 and 10.4 give its field. Fields within their width but outside their set or
range are well formed: the owning block answers them BAD_VALUE or clamps them (R194). -/

namespace Sys2Proof

/-- A value an unsigned field of `n` bytes can carry (section 10.1). -/
def fitsBytes (n v : Nat) : Bool := decide (v < 256 ^ n)

/-- A value a two-byte two's complement field can carry (section 10.1, temperature). -/
def fitsTemperature (t : Int) : Bool := decide (-32768 ≤ t) && decide (t ≤ 32767)

/-- The request codes of the catalogue (section 9.6). -/
def requestCodes : List Nat :=
  [0x01, 0x02, 0x03, 0x04, 0x05, 0x06,
   0x10, 0x11, 0x12, 0x13, 0x14, 0x15, 0x16, 0x17, 0x18, 0x19,
   0x20, 0x21, 0x22, 0x23, 0x30, 0x31, 0x32, 0x33,
   0x40, 0x41, 0x42, 0x43, 0x44, 0x50, 0x51, 0x52, 0x53, 0x60, 0x61,
   0x70, 0x71, 0x72, 0x73, 0x74, 0x75, 0x76, 0x77]

/-- A front-end reading within the range of its field in the live measurement record (section 6.1). -/
def FrontEnd.inRange (f : FrontEnd) : Bool :=
  decide (f.v1 ≤ 3000 ∧ f.v2 ≤ 3000 ∧ f.v3 ≤ 3000) &&
  decide (f.i1 ≤ 1000 ∧ f.i2 ≤ 1000 ∧ f.i3 ≤ 1000) &&
  decide (f.p1.natAbs ≤ 30000 ∧ f.p2.natAbs ≤ 30000 ∧ f.p3.natAbs ≤ 30000) &&
  decide (f.vDc ≤ 10000 ∧ f.iDc.natAbs ≤ 5000 ∧ f.vPack ≤ 10000) &&
  decide (f.iHv.natAbs ≤ 5000 ∧ f.iHeat.natAbs ≤ 1000)

/-- A band entry within the widths of its three fields (R196). -/
def BandEntry.fits (b : BandEntry) : Bool :=
  fitsBytes 2 b.start && fitsBytes 3 b.price && fitsBytes 1 b.preferred

/-- The commands the wires and pins of the part can bring. -/
def Instr.wellFormed : Instr → Bool
  | .setPowerState _ target => fitsBytes 1 target
  | .unknownKind _ kind => !requestCodes.contains kind.toNat
  | .authorise _ mode phases unlock ref =>
      fitsBytes 1 mode && fitsBytes 1 phases && fitsBytes 1 unlock && decide (ref.length ≤ 56)
  | .dcStation _ v i p flags => fitsBytes 2 v && fitsBytes 2 i && fitsBytes 4 p && fitsBytes 1 flags
  | .setPackLimits _ v i h => fitsBytes 2 v && fitsBytes 2 i && fitsBytes 2 h
  | .setDerateTable _ pts => decide (pts.length = 8) && pts.all fun p => fitsTemperature p.1 && fitsBytes 2 p.2
  | .setBudgetParams _ a b c => fitsBytes 2 a && fitsBytes 2 b && fitsBytes 2 c
  | .budgetStatus _ page => fitsBytes 1 page
  | .setZone _ z e t h => fitsBytes 1 z && fitsBytes 1 e && fitsTemperature t && fitsBytes 1 h
  | .setHeatPolicy _ a b c => fitsBytes 1 a && fitsBytes 1 b && fitsBytes 1 c
  | .setDeparture _ a b c => fitsBytes 2 a && fitsBytes 1 b && fitsBytes 1 c
  | .heatStatus _ page => fitsBytes 1 page
  | .setIsoParams _ e m f w x c =>
      fitsBytes 1 e && fitsBytes 1 m && fitsBytes 1 f && fitsBytes 2 w && fitsBytes 2 x && fitsBytes 2 c
  | .setSearchList _ l => decide (l.length ≤ 59) && l.all (fitsBytes 1)
  | .isoStatus _ page => fitsBytes 1 page
  | .clearIsolation _ t => fitsBytes 1 t
  | .setRoster _ l => decide (l.length = 11) && l.all (fitsBytes 1)
  | .rosterStatus _ page => fitsBytes 1 page
  | .meterStatus _ page => fitsBytes 1 page
  | .setClock _ d m sec => fitsBytes 2 d && fitsBytes 2 m && fitsBytes 1 sec
  | .tariffWrite _ page bands => fitsBytes 1 page && decide (bands.length ≤ 9) && bands.all BandEntry.fits
  | .tariffRead _ page => fitsBytes 1 page
  | .readRecord _ n p h => fitsBytes 4 n && fitsBytes 1 p && fitsBytes 1 h
  | .releaseRecord _ n => fitsBytes 4 n
  | .pilotClassChange (.level _) => true
  | .pilotClassChange (.pwm _ _ high period) => decide (high ≤ period ∧ 0 < period)
  | .pilotDutyChange high period => decide (high ≤ period ∧ 0 < period)
  | .heaterReplyAgeExpiry z => decide (1 ≤ z ∧ z ≤ 8)
  | .pollTimeExpiry a => decide (1 ≤ a ∧ a ≤ 11)
  | .refreshTimeExpiry a => decide (1 ≤ a ∧ a ≤ 11)
  | .listenWindowExpiry low high => decide (low ≤ high)
  | .responseFrameReceived bytes => decide (bytes.length ≤ 11)
  | .meterSample fe => fe.inRange
  | .identify _ => true
  | .partStatus _ => true
  | .reset _ => true
  | .saveSettings _ => true
  | .readLinkErrors _ => true
  | .deny _ => true
  | .pause _ => true
  | .resume _ => true
  | .stop _ => true
  | .restart _ => true
  | .clearFault _ => true
  | .dcConnect _ => true
  | .sessionStatus _ => true
  | .startSearch _ => true
  | .rollCall _ => true
  | .readStageErrors _ => true
  | .readTotals _ => true
  | .tariffCommit _ => true
  | .tariffCancel _ => true
  | .logStatus _ => true
  | .hostFrameReceived _ => true
  | .receiveError _ => true
  | .rxTimeout => true
  | .serveRequest => true
  | .frameTransmit => true
  | .frameSent => true
  | .wakeLine _ => true
  | .proximityClassChange _ => true
  | .inletTemperatureChange _ _ => true
  | .lockEngaged => true
  | .lockReleased => true
  | .lockTravelTimeout => true
  | .energisingWaitExpiry => true
  | .contactorClosed _ => true
  | .contactorOpened _ => true
  | .closingFeedbackTimeout => true
  | .openingFeedbackTimeout => true
  | .stopRampWaitExpiry => true
  | .dcStationStale => true
  | .budgetPeriodExpiry => true
  | .budgetPostingArrival _ => true
  | .packLimitsStale => true
  | .heatPeriodExpiry => true
  | .heatGrantTaken => true
  | .onTimeTick => true
  | .departureMinute => true
  | .packVoltagePosting => true
  | .injectionPeriodEnd _ _ _ _ => true
  | .isolateConfirmTimeout => true
  | .resultDeadlineExpiry => true
  | .reconnectWaitTimeout => true
  | .transactionBegin => true
  | .statusSlotReceived _ => true
  | .slotWaitTimeout => true
  | .retryWaitExpiry => true
  | .recallPeriodExpiry => true
  | .safeStop => true
  | .safeStopRepeat => true
  | .clockSecond => true
  | .checkpointPeriodExpiry => true
  | .rewritePeriodExpiry => true
  | .supplyWarn => true
  | .supplyWarnRelease => true
  | .warningClearDwellExpiry => true
  | .resetLineAssert => true
  | .startUp _ => true
  | .hostResetGo => true
  | .nvWriteBegin => true
  | .nvWriteComplete _ => true
  | .supplyFailure => true

end Sys2Proof
end

