-- ==== Sys2Proof/Tests/Slice0.lean ====
section
/-! SUPPORT. The tests of this model: the well-formedness checks refuse, the manual's worked figures come out, single
commands act as their rules say, and every statement's hypotheses are met together by a concrete state. -/

-- One declaration at a time: each thread the elaborator opens takes its whole stack from the memory limit.
set_option Elab.async false

namespace Sys2Proof.Tests

open Sys2Proof Machine Safety

/-! ### Well-formedness: one ill-formed command for each check -/

theorem test_wf_power_target : (Instr.setPowerState 1 256).wellFormed = false := by decide
theorem test_wf_unknown_kind : (Instr.unknownKind 1 0x14).wellFormed = false := by decide
theorem test_wf_authorise : (Instr.authorise 1 256 1 0 []).wellFormed = false := by decide
theorem test_wf_authorise_ref : (Instr.authorise 1 0 1 0 (List.replicate 57 0)).wellFormed = false := by decide
theorem test_wf_station : (Instr.dcStation 1 65536 0 0 0).wellFormed = false := by decide
theorem test_wf_limits : (Instr.setPackLimits 1 0 65536 0).wellFormed = false := by decide
theorem test_wf_table_count : (Instr.setDerateTable 1 [(0, 0)]).wellFormed = false := by decide
theorem test_wf_table_width :
    (Instr.setDerateTable 1 (List.replicate 8 (32768, 0))).wellFormed = false := by decide
theorem test_wf_budget_params : (Instr.setBudgetParams 1 0 0 65536).wellFormed = false := by decide
theorem test_wf_budget_page : (Instr.budgetStatus 1 256).wellFormed = false := by decide
theorem test_wf_zone : (Instr.setZone 1 1 1 (-32769) 1).wellFormed = false := by decide
theorem test_wf_policy : (Instr.setHeatPolicy 1 0 256 0).wellFormed = false := by decide
theorem test_wf_departure : (Instr.setDeparture 1 65536 0 10).wellFormed = false := by decide
theorem test_wf_heat_page : (Instr.heatStatus 1 256).wellFormed = false := by decide
theorem test_wf_iso_params : (Instr.setIsoParams 1 1 0 0 65536 1 1).wellFormed = false := by decide
theorem test_wf_search_list : (Instr.setSearchList 1 [256]).wellFormed = false := by decide
theorem test_wf_search_count : (Instr.setSearchList 1 (List.replicate 60 1)).wellFormed = false := by decide
theorem test_wf_iso_page : (Instr.isoStatus 1 256).wellFormed = false := by decide
theorem test_wf_clear : (Instr.clearIsolation 1 256).wellFormed = false := by decide
theorem test_wf_roster : (Instr.setRoster 1 [1, 1, 1]).wellFormed = false := by decide
theorem test_wf_roster_page : (Instr.rosterStatus 1 256).wellFormed = false := by decide
theorem test_wf_meter_page : (Instr.meterStatus 1 256).wellFormed = false := by decide
theorem test_wf_clock : (Instr.setClock 1 65536 0 0).wellFormed = false := by decide
theorem test_wf_tariff : (Instr.tariffWrite 1 0 [⟨0, 16777216, 0⟩]).wellFormed = false := by decide
theorem test_wf_tariff_count :
    (Instr.tariffWrite 1 0 (List.replicate 10 ⟨0, 0, 0⟩)).wellFormed = false := by decide
theorem test_wf_tariff_page : (Instr.tariffRead 1 256).wellFormed = false := by decide
theorem test_wf_record : (Instr.readRecord 1 4294967296 0 0).wellFormed = false := by decide
theorem test_wf_release : (Instr.releaseRecord 1 4294967296).wellFormed = false := by decide
theorem test_wf_pilot : (Instr.pilotClassChange (.pwm 1000 90 5 4)).wellFormed = false := by decide
theorem test_wf_duty : (Instr.pilotDutyChange 0 0).wellFormed = false := by decide
theorem test_wf_reply_age : (Instr.heaterReplyAgeExpiry 9).wellFormed = false := by decide
theorem test_wf_poll : (Instr.pollTimeExpiry 0).wellFormed = false := by decide
theorem test_wf_refresh : (Instr.refreshTimeExpiry 12).wellFormed = false := by decide
theorem test_wf_listen : (Instr.listenWindowExpiry 5 4).wellFormed = false := by decide
theorem test_wf_response : (Instr.responseFrameReceived (List.replicate 12 0)).wellFormed = false := by decide
theorem test_wf_sample : (Instr.meterSample { (default : FrontEnd) with v1 := 3001 }).wellFormed = false := by decide

/-! ### Worked figures of the manual -/

/-- R4: 534 ‰ gives 32.0 A and 900 ‰ gives 65.0 A are a statement; 99 ‰ stands at the end of the 6 A row (table of R4). -/
theorem test_offer_row_end : offerOfDuty 99 = 60 ∧ offerOfDuty 960 = 800 := by decide
/-- R40: the three readings of the factory table worked under the rule. -/
theorem test_derate_readings :
    derateAt factoryTable (some (-13)) = 205 ∧ derateAt factoryTable (some 25) = 850 ∧
      derateAt factoryTable (some 101) = 450 := by decide
/-- R108: the two checks worked under the rule. -/
theorem test_stage_checks : check8 [0x42, 0x01, 0x00] = 0xBC ∧ check8 [0xF0, 0x20] = 0xEE := by decide
/-- R183: the CHK of IDENTIFY with TAG 0x2A. -/
theorem test_host_check : hostFrame 0x01 0x2A [] = [0xC3, 0x00, 0x01, 0x2A, 0xD5, 0xFE] := by decide

/-- The input record of section 2.4. -/
def coldMorning : BudgetInput :=
  { sess := .active, mode := some .ac, offer := 320, cable := 320, derate := 1000, phases := 3
    v1 := 2310, v2 := 2295, v3 := 2300, packV := some 3620
    limits := { packV := 3600, maxI := 600, heat := 5000, present := true, stale := false }
    minTemp := some (-13), demands := true, gridMode := .always
    row1 := ⟨true, 7400⟩, row2 := ⟨true, 7400⟩, row3 := ⟨true, 7400⟩ }

/-- Section 2.4, event 1. -/
theorem test_evaluation_event1 :
    let e := evaluate coldMorning { cap := 250, aux := 250, share := 300 } factoryTable
    e.iLim = 250 ∧ e.pInlet = 17212 ∧ e.pAvail = 16962 ∧ e.pPack = 4452 ∧ e.grant = 12510 ∧ e.charge = 4452 ∧
      e.set1 = 1484 ∧ e.set2 = 1484 ∧ e.set3 = 1484 := by decide
/-- Section 2.4, event 3: charger 2 is not eligible. -/
theorem test_evaluation_event3 :
    let e := evaluate { coldMorning with heatOn := 10000, row2 := ⟨false, 0⟩ }
      { cap := 250, aux := 250, share := 300 } factoryTable
    e.set1 = 2226 ∧ e.set2 = 0 ∧ e.set3 = 2226 := by decide
/-- R48: the split of 10,001 W worked under the rule. -/
theorem test_split :
    let l := split { coldMorning with row2 := ⟨true, 2000⟩ } 10001
    shareOf l 1 = 4001 ∧ shareOf l 2 = 2000 ∧ shareOf l 3 = 4000 := by decide
/-- Section 11.2: the DC evaluation, 134.9 A. -/
theorem test_evaluation_dc :
    let e := evaluate
      { sess := .active, mode := some .dc, stState := .fresh, stMaxV := 5000, stMaxI := 2000, stMaxP := 50000
        packV := some 3625, minTemp := some 30
        limits := { packV := 3600, maxI := 1500, heat := 0, present := true, stale := false } }
      { cap := 320, aux := 250, share := 300 } factoryTable
    e.pInlet = 50000 ∧ e.pPack = 48937 ∧ e.charge = 48937 ∧ e.dcRequest = 1349 := by decide
/-- R132: the first and the ninth sample of a steady 17,212 W. -/
theorem test_credit : credit 0 17212 = (478, 4) ∧ credit 32 17212 = (479, 0) := by decide
/-- Section 6.6, sample 4: PACK_NET. -/
theorem test_credit_net : creditNet 12 (-9991) = (-277, -7) := by decide
/-- R84: the working thresholds at 362.0 V. -/
theorem test_thresholds :
    let w := workingOf {} 3620
    w.warn = 181 ∧ w.fault = 37 ∧ w.critical = 19 ∧ w.recovery = 226 := by decide
/-- R83: the reading at an amplitude of 19.003 V. -/
theorem test_reading : readingOf 19003 = .kOhm 181 := by decide
/-- R151: the pools worked under the rule. -/
theorem test_pricing :
    let r := ({ segments := [{ price := 1450 }], remC := 400, remH := 700 } : Record).pricePoint {} 1450 7654321 2100500
    r.remC = 221 ∧ r.remH = 200 ∧ r.segments.map Segment.chargeWh = [5554] ∧ r.segments.map Segment.heatWh = [2101] := by
  decide
/-- R153: an empty segment takes the price of its first energy, so its cost is its Wh at its price. -/
theorem test_empty_segment_price :
    let r := ({ segments := [{ price := 1450 }] } : Record).pricePoint {} 2000 1000000 0
    r.segments.map (fun x => (x.price, x.chargeWh, x.chargeCost)) = [(2000, 1000, 2000000)] := by decide
/-- R154: the rounding worked under the rule. -/
theorem test_rounding :
    roundedTotal 15967750 = 160 ∧ roundedTotal 6040375 = 60 ∧ roundedTotal (15967750 + 6040375) = 220 := by decide

/-! ### Small states -/

/-- A part in RUN with everything else as after reset. -/
def base : State := { power := { part := .run } }

/-- In RUN, in a session state. -/
def inState (st : SessState) : State := { base with session := { st := st, following := true } }

/-- An AC session with the contactor closed and 1.0 A at the inlet. -/
def charging (st : SessState) : State :=
  { base with
    session := { st := st, mode := some .ac, acK := .closed, lock := .engaged, following := true, pilot := .offering }
    pins := { kacFb := true, kacDrive := true, lockFb := true }
    meter := { live := { i1 := 10, v1 := 2300 }, period := some 0, channel := { isOpen := true } } }

/-- The state after a command. -/
def after (c : Instr) (s : State) : State :=
  match exec c s with
  | .next t => t
  | .fault _ => s
  | .refused _ => s

/-! ### Single commands -/

/-- R176: the state right after reset is what a POWER_ON load of an erased store leaves. -/
theorem test_reset_is_power_on : State.reset.load .powerOn = State.reset := by decide +kernel
/-- R176: start-up completes into RUN with a PART notice and the roll call queued. -/
theorem test_start_up :
    let t := after (.startUp true) State.reset
    t.power.part = .run ∧ t.stage.normal.length = 11 ∧ t.link.notices = [.part] := by decide +kernel
/-- R29: with a plug, an engaged lock and a STEADY pilot, start-up ends in AUTHORISING. -/
theorem test_start_up_plugged :
    let s := { State.reset with pins := { lockFb := true }, session := { lock := .engaged } }
    let t := after (.startUp true) (after (.pilotClassChange (.level 90)) (after (.proximityClassChange (some 220)) s))
    t.session.st = .authorising ∧ t.session.fault = none := by decide +kernel
/-- R5, R168: the inlet temperature that stands when the part wakes is the one taken. -/
theorem test_wake_takes_temperature :
    let t := after (.wakeLine true)
      (after (.inletTemperatureChange (some 100) none) { inState .finished with power := { part := .sleep } })
    t.power.part = .run ∧ t.session.temp1 = some 100 := by decide +kernel
/-- R2, R3 in the order of log 22, worked by hand: a plug arrival found at the return to RUN with a pilot gone from ABSENT to
ERROR leaves CONNECTED; with a pilot gone from STEADY to ABSENT it leaves LOCKING with a CABLE_LOST held (R7). -/
theorem test_plug_before_pilot :
    let found (was is : PilotClass) : State :=
      { base with
        power := { part := .sleep }
        session := { following := true, watchProx := .cable32, pilot := was, watchPilot := is } }
    let at' (s : State) := let t := after (.wakeLine true) s; (t.session.st, t.session.lockingLost)
    at' (found .absent .error) = (.connected, false) ∧ at' (found .steady .absent) = (.locking, true) := by decide +kernel
theorem test_table_word : decodeTableWord 8 3 = none ∧ State.reset.withFetchWord 8 3 = State.reset := by decide +kernel

/-- R8: AUTHORISE with the plug locked goes on to ENERGISING and opens record 1. -/
theorem test_authorise :
    let s := { inState .authorising with
      session := { (inState .authorising).session with pilot := .steady, temp1 := some 60 } }
    let t := after (.authorise 1 0 3 0 [7]) s
    t.session.st = .energising ∧ (t.billing.slot 0).record.number = 1 ∧ t.link.replies.map Reply.payload = [[0]] := by
  decide +kernel
/-- R26: a STOP at 1.0 A waits for the ramp. -/
theorem test_stop_ramps :
    let t := after (.stop 1) (charging .active)
    t.session.st = .stopping ∧ t.session.rampTimer = some 0 ∧ t.pins.kacDrive = true := by decide +kernel
/-- R18: PAUSE releases the charge-request load. -/
theorem test_pause :
    let t := after (.pause 1) (charging .active)
    t.session.st = .paused ∧ t.pins.cpLoad = false := by decide +kernel
/-- R1: 220 Ω is a 32 A cable. -/
theorem test_plug :
    let t := after (.proximityClassChange (some 220)) (inState .idle)
    t.session.prox = .cable32 ∧ t.session.st = .connected := by decide +kernel
/-- R19: the lock lost while energised is CABLE_LOST. -/
theorem test_lock_lost :
    (after .lockReleased (charging .active)).session.stopCause = some .cableLost := by decide +kernel

/-- The zones of section 11.1 at the first heat period. -/
def coldDepot : State :=
  { charging .active with
    heating :=
      { sess := .active, grant := 7110, heatPeriod := some 0, policy := { gridMode := .always, gating := true, packHeat := true }
        zones := ([(1500, -50), (1500, -48), (1500, -50), (1500, -46), (2000, -50), (2000, -44), (1000, -52), (1000, -40)].zip
            [7, 6, 5, 4, 3, 2, 1, 0]).map fun p =>
          Zone.refresh
            { configured := true, node := .active, rating := some p.1.1, temp := some p.1.2, rank := some p.2 } } }

/-- Section 11.1, first heat period: zones 7, 1, 3, 5 and 8 heat, and the ranks after are 3, 7, 2, 6, 1, 5, 4, 0. -/
theorem test_arbitration :
    let z := (after .heatPeriodExpiry coldDepot).heating.zones
    z.map (fun x => decide (x.heat = .heating)) = [true, false, true, false, true, false, true, true] ∧
      z.map Zone.rank = [some 3, some 7, some 2, some 6, some 1, some 5, some 4, some 0] := by decide +kernel

/-- R67: of three HEATING zones that a grant of 0 sheds, the one with the smallest deficit is written OFF first, and of equal
deficits the one with the lower rank. -/
theorem test_shed_order :
    let s : State := { coldDepot with
      heatIn := [⟨0, 0⟩]
      heating := { coldDepot.heating with
        source := .grid
        zones := coldDepot.heating.zones.map fun (z : Zone) =>
          if z.rank ∈ [some 7, some 5, some 4] then { z with heat := .heating } else z }
      stage :=
        { nodes := (List.range 11).map fun _ =>
            { st := .active, expected := .heater, commanded := 1500, acked := some (1500 : Nat) } } }
    (after .heatGrantTaken s).stage.normal = [⟨.setpoint, 7⟩, ⟨.setpoint, 6⟩, ⟨.setpoint, 4⟩] := by decide +kernel

/-- Section 6.6: sample 1 credits 411, 277 and 123 mWh. -/
theorem test_sample :
    let s := { charging .active with heating := { source := .grid } }
    let t := after (.meterSample
      { v1 := 2300, v2 := 2300, v3 := 2300, i1 := 214, i2 := 214, i3 := 214, p1 := 4934, p2 := 4933, p3 := 4933
        vDc := 0, iDc := 0, packValid := true, vPack := 3620, iHv := 399, iHeat := 276 }) s
    t.meter.channel.grid = 411 ∧ t.meter.resGrid = 4 ∧ t.meter.channel.heatGrid = 277 ∧ t.meter.resHeatGrid = 19 ∧
      t.meter.channel.packNet = 123 ∧ t.meter.resPackNet = 24 := by decide +kernel

/-- R182 and R183: IDENTIFY arrives byte by byte and is served (R181, section 10.2); the erased store
left the settings DEFAULTED (log 2). -/
theorem test_identify_served :
    let t := after .serveRequest (after (.hostFrameReceived [0x55, 0xC3, 0x00, 0x01, 0x2A, 0xD5, 0xFE]) base)
    t.link.replies = [⟨0x81, 0x2A, [0x00, 0x1D, 0x07, 0x40, 0x00, 0x01], .plain⟩] := by decide +kernel
/-- R183: one wrong bit is RX_CHECK. -/
theorem test_bad_check :
    let t := after (.hostFrameReceived [0xC3, 0x00, 0x01, 0x2A, 0xD5, 0xFF]) base
    t.link.requests = [] ∧ t.link.errors.rxCheck = true := by decide +kernel
/-- R195: a price digit above 9 is BAD_DECIMAL. -/
theorem test_bad_decimal :
    (after (.tariffWrite 1 1 [⟨0, 0x0A0000, 0⟩]) base).link.replies.map Reply.payload = [[6]] := by decide +kernel
/-- R142: midnight of day 65,535 rolls to day 0. -/
theorem test_midnight :
    let s := { base with billing := { clock := { day := 65535, minute := 1439, second := 59, valid := true } } }
    let c := (after .clockSecond s).billing.clock
    c.day = 0 ∧ c.minute = 0 ∧ c.second = 0 := by decide +kernel
/-- R171: a supply warning opens the contactors of a charging session at once. -/
theorem test_supply_warning :
    let t := after .supplyWarn (charging .active)
    t.power.part = .supplyHold ∧ t.session.stopCause = some .supplyLoss ∧ t.pins.kacDrive = false := by decide +kernel
/-- R159, R148, R178: at a close with a commit pending the totals are queued before the tariff, and the record last. -/
theorem test_close_order :
    (({ base with billing := { slots := [⟨.opened, {}⟩], commitPending := true } } : State).closeRecord
      .hostStop false).nv.queue.map (fun w => w.content.area) = [.totals, .tariff, .slot 0] := by decide +kernel

/-- R12: the age of a held station record runs in SLEEP. -/
theorem test_stale_asleep :
    (let s : State := { power := { part := .sleep }, session := { station := some ⟨3620, 1000, 50000, false, false, 0, false⟩ } }
     ((after .dcStationStale s).session.station.map fun r => r.stale)) = some true := by decide +kernel

/-- R168, R192: SLEEP with WAKE asserted returns to RUN in the same step, and no reply then switches the receiver off. -/
theorem test_sleep_awake :
    (let s := { inState .idle with pins := { wake := true } }
     let t := after (.setPowerState 7 2) s
     (t.power.part, t.link.replies.map fun r => r.mark)) = (.run, [.plain]) := by decide +kernel

/-- R119: the safe stop's broadcast frame (section 10.3). -/
theorem test_safe_stop :
    let s := { base with stage := { supplyOn := true, safeStop := true } }
    (after .safeStop s).stage.wire = [0xF6, 0x00, 0x09] := by decide +kernel
/-- R118: the urgent queue goes first. -/
theorem test_urgent_first :
    let s := { base with stage := { supplyOn := true, urgent := [⟨.isolate, 5⟩], normal := [⟨.rollCall, 1⟩] } }
    (after .transactionBegin s).stage.wire = stageFrame 5 4 [] := by decide +kernel

/-! ### The hypotheses of each statement are met: the whole part, requests, sessions -/

/-- A serving part with the session fields given. -/
def withSession (x : Session) : State := { base with session := x }

/-- Queues at their bounds, with a step to take. -/
def fullLink : State :=
  { base with
    pending := [.serveRequest]
    link :=
      { requests := List.replicate 4 ⟨0x01, 0, []⟩, replies := List.replicate 8 ⟨0x81, 0, [0], .plain⟩
        notices := [.part, .session, .heat, .departure, .insulation, .stage, .record, .tariff, .link] } }

theorem test_w_link_law : linkLaw fullLink ∧ ∃ t, step fullLink = .next t :=
  ⟨by simp only [linkLaw]; decide +kernel, _, rfl⟩

/-- Queues and a node table that meet the laws with something in each. -/
def busyStage : State :=
  { base with
    pending := [.transactionBegin]
    stage :=
      { supplyOn := true, urgent := [⟨.isolate, 4⟩, ⟨.reconnect, 5⟩], normal := [⟨.rollCall, 1⟩, ⟨.setpoint, 1⟩]
        nodes := factoryRoster.map fun k => { Node.ofExpected k with isolated := true } } }

theorem test_w_stage_laws : queueLaw busyStage ∧ isolationLaw busyStage ∧ ∃ t, step busyStage = .next t :=
  ⟨by simp only [queueLaw]; decide +kernel, by simp only [isolationLaw]; decide +kernel, _, rfl⟩

/-- Residues at the ends of their ranges. -/
def fullResidues : State :=
  { base with
    pending := [.rxTimeout]
    meter := { resGrid := 35, resHeatGrid := 35, resHeatPack := 35, resPackNet := -35 } }

theorem test_w_residue_law : residueLaw fullResidues ∧ ∃ t, step fullResidues = .next t :=
  ⟨by simp only [residueLaw]; decide +kernel, _, rfl⟩

theorem test_w_turned_away :
    requestHead (.pause 3) = some (0x12, 3) ∧
    (let s := { fullLink with
        power := { part := .supplyHold, started := true }
        link := { replies := List.replicate 7 ⟨0x81, 0, [0], .plain⟩ } }
     serves s ∧ s.power.part = .supplyHold) ∧
    (let s := { base with power := { part := .run, hostReset := true } }
     serves s ∧ s.power.hostReset = true) ∧
    ¬ serves fullLink ∧ ¬ serves { base with power := { part := .standby } } ∧
    ¬ serves { base with power := { part := .supplyHold } } := by
  simp only [serves]; decide +kernel

/-- A log with record 9 in slot 3, in a state. -/
def logged (st : SlotState) : State :=
  { base with
    billing :=
      { slots := (List.replicate 24 ({} : Slot)).set 2 ⟨st, { number := 9, segments := [{ price := 1450 }] }⟩
        nextNumber := 10, checkpoint := some 0 }
    meter := { channel := { isOpen := true, grid := 411 } } }

/-- R6, R171: the close of the record at a supply warning posts the declared phase count as 0. -/
theorem test_hold_posts_no_phases :
    (after .supplyWarn (logged .opened)).budgetIn.contains (.phases 0) = true := by decide +kernel

/-- A clock a second before a band boundary at 07:00, on a page of two bands. -/
def boundary (st : SlotState) (commit : Bool) : State :=
  { logged st with
    billing :=
      { (logged st).billing with
        clock := { minute := 419, second := 59, valid := true }
        tariff := { page0 := [⟨0, 1450, true⟩, ⟨420, 2875, false⟩] }
        commitPending := commit } }

theorem test_w_status : mayServe (logged .closed) ∧ (logged .closed).billing.findNumber 9 = some 2 ∧
    (∀ x ∈ (logged .closed).billing.slots, x.st ≠ .free → x.record.number ≠ 8) := by
  simp only [mayServe]; decide +kernel

/-- In AUTHORISING, ready, with the grade and inlet temperature given. -/
def authorising (a : Assessment) (t : HalfDeg) : State :=
  { base with session := { st := .authorising, lock := .engaged, pilot := .steady, temp1 := some t }, iso := { assess := a } }

theorem not_bars (a : Assessment) : ¬ inletBars (authorising a 190) := by
  simp [inletBars, authorising, inletTemp]

theorem bars (a : Assessment) : inletBars (authorising a 191) := by
  simp [inletBars, authorising, inletTemp]

theorem test_w_authorise_refused :
    (mayServe base ∧ base.session.st ≠ .authorising) ∧
    (mayServe (authorising .good 190) ∧ (authorising .good 190).session.st = .authorising ∧
      ¬ authoriseLegal 2 3 0 [] ∧ ¬ authoriseLegal 0 2 0 [] ∧ ¬ authoriseLegal 0 3 2 [] ∧
      ¬ authoriseLegal 0 3 0 (List.replicate 17 0)) ∧
    (mayServe (authorising .fault 190) ∧ authoriseLegal 1 1 1 (List.replicate 16 0) ∧ gradeBars (authorising .fault 190)) ∧
    (mayServe (authorising .good 191) ∧ ¬ gradeBars (authorising .good 191)) ∧
    (let s := { authorising .good 190 with billing := { nextNumber := 4294967296 } }
     mayServe s ∧ ¬ gradeBars s ∧ s.billing.offer = none) := by
  simp only [mayServe, authoriseLegal, gradeBars]; decide +kernel

theorem test_w_authorise_opens :
    (let s := authorising .warning 190
     mayServe s ∧ s.session.st = .authorising ∧ authoriseLegal 0 1 0 [] ∧ ¬ gradeBars s ∧ s.billing.offer = some 0 ∧
       s.meter.live.v1 ≤ 1800) ∧
    (let s := { authorising .good 190 with meter := { live := { v1 := 1801 } } }
     mayServe s ∧ authoriseLegal 0 3 1 [7] ∧ ¬ gradeBars s ∧ s.billing.offer = some 0 ∧ s.pins.kacFb = false) ∧
    (let s := authorising .good 190
     authoriseLegal 1 3 1 [7] ∧ s.iso.st ≠ .searching ∧ s.session.station = none) := by
  simp only [mayServe, authoriseLegal, gradeBars]; decide +kernel

/-- A DC session in ENERGISING with all that DC_CONNECT asks for. -/
def dcReady : State :=
  { base with
    session :=
      { st := .energising, mode := some .dc, pilot := .offering, energiseTimer := some 0
        station := some ⟨3620, 1000, 50000, false, false, 0, false⟩ }
    iso := { st := .yielded, dcContext := true }
    meter := { live := { packV := some 3620, vDc := 3820 } } }

theorem test_w_session_refused :
    (∀ st ∈ [SessState.idle, .connected, .stopping, .unlocking, .finished, .faulted], mayServe (inState st)) ∧
    mayServe (charging .faulted) ∧ ¬ contactsOpen (charging .faulted) ∧
    (mayServe dcReady ∧ dcReady.session.mode = some .dc ∧ dcReady.session.st = .energising) ∧
    (mayServe (inState .active) ∧ (inState .active).session.mode ≠ some .dc) ∧
    distance 3821 3620 = 201 := by
  simp only [mayServe, contactsOpen]; decide +kernel

theorem test_w_lock_drives :
    (let s := { authorising .good 60 with pins := { lockFb := true } }
     mayServe s ∧ s.pins.lockFb = true ∧ s.session.st = .authorising) ∧
    (let s := { withSession { st := .finished, lock := .engaged } with pins := { lockFb := true } }
     mayServe s ∧ s.session.st = .finished ∧ s.session.lock = .engaged) ∧
    (let s := { inState .faulted with pins := { lockFb := true } }
     mayServe s ∧ s.session.st = .faulted ∧ contactsOpen s ∧ s.pins.lockFb = true) ∧
    (mayServe (inState .faulted) ∧ contactsOpen (inState .faulted) ∧ (inState .faulted).session.prox.present = false) ∧
    (let s := withSession { st := .finished, pilot := .steady }
     mayServe s ∧ s.session.st = .finished ∧ s.session.pilot ≠ .error ∧
       inletTemp s.session.temp1 s.session.temp2 = none ∧ s.pins.lockFb = false) ∧
    (let s := withSession { st := .faulted, prox := .cable32 }
     mayServe s ∧ s.session.st = .faulted ∧ contactsOpen s ∧ s.pins.lockFb = false ∧ s.session.prox.present = true) := by
  simp only [mayServe, contactsOpen]; decide +kernel

theorem test_w_pause_resume :
    (mayServe (charging .active) ∧ (charging .active).session.causes.hostPause = false) ∧
    (∀ c ∈ [({ hostPause := true } : PauseSet), { hostPause := true, nothingToDo := true }],
      let s := { charging .paused with session := { (charging .paused).session with causes := c } }
      mayServe s ∧ s.session.st = .paused ∧ s.session.causes.hostPause = true) := by
  simp only [mayServe]; decide +kernel

theorem test_w_stop :
    mayServe (inState .locking) ∧
    (mayServe (charging .active) ∧ 10 ≤ (charging .active).inletCurrent) ∧
    (let s := { charging .paused with meter := { live := { i1 := 9 } } }
     mayServe s ∧ s.inletCurrent < 10 ∧ ¬ contactsOpen s) ∧
    (mayServe (charging .energising) ∧ ¬ contactsOpen (charging .energising)) ∧
    (mayServe (inState .energising) ∧ contactsOpen (inState .energising)) ∧
    (mayServe (inState .paused) ∧ (inState .paused).inletCurrent < 10 ∧ contactsOpen (inState .paused)) := by
  simp only [mayServe, contactsOpen]; decide +kernel

/-- All nodes ACTIVE, and the monitor's fields given. -/
def monitored (x : Insulation) : State :=
  { base with
    iso := x
    stage :=
      { supplyOn := true
        nodes := factoryRoster.map fun k => { Node.ofExpected k with st := .active, rating := some 1500 } } }

theorem test_w_station :
    mayServe (inState .authorising) ∧
    (let s := { dcReady with iso := { st := .measuring, dcContext := true } }
     mayServe s ∧ s.iso.st = .measuring ∧ s.iso.dcContext = true ∧ s.session.causes.searchHold = s.iso.hold) ∧
    (∀ st ∈ [MonState.yielded, .off, .measuring, .listening, .searching],
      let s := { monitored { st := st, dcContext := true, search := { under := some 4 } } with
        session := { dcReady.session with st := .active }
        meter := { live := { packV := some 3620, iDc := 10 } } }
      mayServe s ∧ s.session.mode = some .dc ∧ s.session.st = .active ∧ s.iso.st = st ∧ s.iso.assess ≠ .critical ∧
        s.iso.assess ≠ .fault ∧ 10 ≤ s.meter.live.iDc ∧ (s.node 4).st = .active) ∧
    (∀ p ∈ [(Assessment.critical, AssessSource.own), (.fault, .external)],
      let s := { dcReady with iso := { st := .measuring, assess := p.1, source := p.2 } }
      mayServe s ∧ s.session.st = .energising ∧ s.iso.dcContext = false ∧ s.iso.assess = p.1 ∧ s.iso.source = p.2) ∧
    (∀ st ∈ [SessState.energising, .active, .stopping],
      let s := { dcReady with session := { dcReady.session with st := st }, meter := { live := { iDc := 9 } } }
      let shut := { s with pins := { kdcpFb := true } }
      mayServe s ∧ s.session.mode = some .dc ∧ s.iso.assess ≠ .critical ∧ s.iso.assess ≠ .fault ∧
        s.iso.st ≠ .searching ∧ contactsOpen s ∧ ¬ contactsOpen shut) ∧
    (mayServe dcReady ∧ dcReady.session.dcK = .opened ∧ dcReady.iso.st ≠ .listening ∧
      dcReady.meter.live.packV = some 3620 ∧ distance dcReady.meter.live.vDc 3620 ≤ 200 ∧
      dcReady.session.station = some ⟨3620, 1000, 50000, false, false, 0, false⟩ ∧ dcReady.pins.kdcpFb = false) := by
  simp only [mayServe, contactsOpen]; decide +kernel

theorem test_w_plug :
    (∀ r ∈ [70, 130], plugClassOf (some r) = .cable63) ∧ (∀ r ∈ [180, 330], plugClassOf (some r) = .cable32) ∧
    (∀ r ∈ [550, 900], plugClassOf (some r) = .cable20) ∧ (∀ r ∈ [1200, 1900], plugClassOf (some r) = .cable13) ∧
    (∀ r ∈ [69, 131, 179, 331, 549, 901, 1199, 1901, 3500], plugClassOf (some r) = .invalid) ∧
    plugClassOf (some 3501) = .noPlug ∧
    ((inState .idle).session.following = true ∧ (inState .idle).session.pilot = .absent) ∧
    (let s := withSession { st := .idle, following := true, pilot := .steady }
     s.power.part = .run ∧ s.session.pilot ≠ .absent ∧ s.pins.lockFb = false) ∧
    (let s := { withSession { st := .idle, following := true, pilot := .steady } with pins := { lockFb := true } }
     s.session.st = .idle ∧ s.session.prox.present = false ∧ s.session.pilot ≠ .absent ∧ s.pins.lockFb = true) ∧
    (let s := withSession { st := .connected, following := true, prox := .cable32 }
     (plugClassOf none).present = false ∧ s.session.prox.present = true ∧ s.session.st = .connected) ∧
    (let s := { charging .active with session := { (charging .active).session with prox := .cable32 } }
     s.session.prox.present = true ∧ s.session.following = true ∧ ¬ contactsOpen s) := by
  simp only [contactsOpen]; decide +kernel

/-- A plug in place, in a session state, with the lock engaged. -/
def plugged (x : Session) : State :=
  { base with session := { x with prox := .cable32, lock := .engaged, following := true }, pins := { lockFb := true } }

theorem test_w_plug_lost :
    (∀ st ∈ [SessState.idle, .locking, .authorising, .finished, .unlocking, .faulted, .energising, .active, .paused],
      let s := plugged { st := st }
      s.power.part = .run ∧ s.session.following = true ∧ (plugClassOf none).present = false ∧
        s.session.prox.present = true ∧ s.session.st = st ∧ s.session.lock = .engaged ∧ s.pins.lockFb = true ∧
        contactsOpen s ∧ (plugClassOf (some 100)).present = s.session.prox.present ∧
        (plugClassOf (some 69)).present = false ∧ plugClassOf (some 100) ≠ s.session.prox) ∧
    (∀ c ∈ [StopCause.cableLost, .hostStop], ∀ r ∈ [none, some 0],
      let s := plugged { st := .stopping, stopCause := some c, rampTimer := r }
      s.session.st = .stopping ∧ c.emergency = decide (c = .cableLost) ∧ contactsOpen s) ∧
    (let s := { charging .stopping with
        session := { (charging .stopping).session with stopCause := some .hostStop, rampTimer := some 0, prox := .cable13 } }
     s.session.prox.present = true ∧ s.session.rampTimer ≠ none ∧ ¬ contactsOpen s) ∧
    (∀ st ∈ [SessState.authorising, .finished],
      let s := { plugged { st := st } with pins := {} }
      s.session.st = st ∧ s.session.lock = .engaged ∧ s.session.prox.present = true ∧ s.pins.lockFb = false) ∧
    ((inState .faulted).session.prox.present = false ∧ (plugClassOf (some 220)).present = true) := by
  simp only [contactsOpen]; decide +kernel

theorem test_w_pilot :
    pilotClassOf (.level 21) = none ∧ pilotClassOf (.level 40) = none ∧ pilotClassOf (.level (-90)) = none ∧
    pilotClassOf (.level 20) = some (.absent, 0) ∧ pilotClassOf (.level (-20)) = some (.absent, 0) ∧
    pilotClassOf (.level 41) = some (.steady, 0) ∧ pilotClassOf (.level (-91)) = some (.error, 0) ∧
    pilotClassOf (.pwm 900 41 534 1000) = some (.offering, 534) ∧ pilotClassOf (.pwm 899 41 534 1000) = none ∧
    pilotClassOf (.pwm 1100 41 1 1000) = some (.offering, 1) ∧ pilotClassOf (.pwm 1101 41 1 1000) = none ∧
    ((inState .connected).session.following = true ∧ (inState .connected).session.pilot = .absent) ∧
    ((charging .active).session.following = true ∧ 10 ≤ (charging .active).inletCurrent ∧
      ¬ contactsOpen (charging .active)) ∧
    (let s := withSession { following := true, watchPilot := .offering, pilot := .offering }
     dutyOf 534 1000 ≠ s.session.duty) := by
  simp only [contactsOpen]; decide +kernel

theorem test_w_pilot_moves :
    (∀ st ∈ [SessState.idle, .connected, .locking, .authorising, .unlocking, .finished, .faulted, .energising, .active,
        .paused], ∀ lockFb ∈ [true, false],
      let s := { plugged { st := st, pilot := .steady } with pins := { lockFb := lockFb } }
      s.power.part = .run ∧ s.session.following = true ∧ s.session.st = st ∧ s.session.pilot = .steady ∧
        s.session.lock = .engaged ∧ s.pins.lockFb = lockFb ∧ contactsOpen s ∧ s.inletCurrent < 10) ∧
    (let s := plugged { st := .connected, pilot := .absent }
     s.session.pilot ≠ .steady ∧ s.session.pilot ≠ .error ∧ s.pins.lockFb = true) ∧
    (withSession { st := .finished }).session.lock ≠ .engaged := by
  simp only [contactsOpen]; decide +kernel

theorem test_w_pilot_stops :
    (∀ c ∈ [StopCause.cableLost, .hostStop], ∀ r ∈ [none, some 0],
      let s := plugged { st := .stopping, stopCause := some c, rampTimer := r, pilot := .steady }
      s.session.st = .stopping ∧ c.emergency = decide (c = .cableLost) ∧ contactsOpen s) ∧
    (let s := { charging .stopping with
        session := { (charging .stopping).session with stopCause := some .hostStop, rampTimer := some 0 } }
     s.session.pilot ≠ .absent ∧ s.session.rampTimer ≠ none ∧ ¬ contactsOpen s) ∧
    ((charging .energising).session.st = .energising ∧ ¬ contactsOpen (charging .energising)) ∧
    (let s := { charging .paused with meter := { live := { i1 := 9 } } }
     s.inletCurrent < 10 ∧ s.session.pilot ≠ .error ∧ ¬ contactsOpen s) := by
  simp only [contactsOpen]; decide +kernel

theorem test_w_inlet_temperature :
    inletDerate (some 140) = 1000 ∧ inletDerate (some 180) = 0 ∧ inletDerate (some 160) = 500 ∧
    overheated (some 190) = false ∧ overheated (some 191) = true ∧
    (let s := { charging .active with session := { (charging .active).session with temp1 := some 190 } }
     s.power.part = .run ∧ overheated (inletTemp (sensorReading (some 191)) (sensorReading none)) = true ∧
       overheated (inletTemp s.session.temp1 s.session.temp2) = false ∧ 10 ≤ s.inletCurrent) ∧
    (let s := { charging .active with meter := { live := { i1 := 9 } } }
     overheated (inletTemp s.session.temp1 s.session.temp2) = false ∧ s.inletCurrent < 10 ∧ ¬ contactsOpen s) ∧
    (overheated (inletTemp (inState .energising).session.temp1 (inState .energising).session.temp2) = false ∧
      contactsOpen (inState .energising)) ∧
    ({ base with power := { part := .sleep } } : State).power.part ≠ .run := by
  simp only [contactsOpen]; decide +kernel

theorem test_w_lock_travel :
    (∀ p ∈ [(false, false), (true, false), (false, true)],
      let s := withSession { st := .locking, lock := .lockTravel, lockTimer := some 0, stopPending := p.1, lockingLost := p.2 }
      s.power.part = .run ∧ s.session.lockTimer ≠ none) ∧
    (let s := withSession { st := .unlocking, lock := .unlockTravel, lockTimer := some 0 }
     s.power.part = .run ∧ s.session.lock = .unlockTravel ∧ s.session.lockTimer ≠ none) ∧
    (let s := withSession { st := .finished, lock := .engaged }
     s.session.st = .finished ∧ s.session.lock = .engaged) ∧
    ((charging .active).session.lock = .engaged ∧ ¬ contactsOpen (charging .active)) ∧
    (let s := withSession { st := .paused, lock := .engaged }
     s.session.lock = .engaged ∧ contactsOpen s) ∧
    (∀ c ∈ [StopCause.hostStop, .isoCritical], ∀ r ∈ [none, some 0],
      let s := { charging .stopping with
        session := { (charging .stopping).session with stopCause := some c, rampTimer := r } }
      s.session.lock = .engaged ∧ (s.session.stopCause.getD .hostStop).emergency = decide (c = .isoCritical) ∧
        s.session.rampTimer = r ∧ ¬ contactsOpen s ∧ contactsOpen { s with pins := { lockFb := true } }) := by
  simp only [contactsOpen]; decide +kernel

theorem test_w_contact_closes :
    (let s := withSession { st := .energising, mode := some .ac, acK := .closing, closeTimer := some 0 }
     s.power.part = .run ∧ s.session.st = .energising ∧ s.session.acK = .closing) ∧
    (let s := { withSession { st := .energising, mode := some .dc, dcK := .closing } with pins := { kdcnFb := true } }
     s.session.dcK = .closing ∧ s.session.acK ≠ .closing ∧ s.pins.kdcnFb = true) ∧
    (let s := withSession { st := .energising, mode := some .dc, dcK := .closing }
     let p := s.pins.setFb .dcPos true
     s.session.st = .energising ∧ s.session.acK ≠ .closing ∧ p.kdcnFb = false) ∧
    (inState .idle).session.st ≠ .energising := by decide +kernel

theorem test_w_session_timeouts :
    (let s := { charging .energising with
        session := { (charging .energising).session with energiseTimer := some 0, closeTimer := some 0 } }
     s.power.part = .run ∧ s.session.energiseTimer ≠ none ∧ s.session.closeTimer ≠ none ∧ ¬ contactsOpen s) ∧
    (let s := { charging .stopping with session := { (charging .stopping).session with rampTimer := some 0 } }
     s.session.rampTimer ≠ none ∧ ¬ contactsOpen s) ∧
    (let s := withSession { st := .energising, energiseTimer := some 0, closeTimer := some 0 }
     s.session.energiseTimer ≠ none ∧ s.session.closeTimer ≠ none ∧ contactsOpen s) ∧
    (let s := withSession { st := .stopping, rampTimer := some 0 }
     s.session.rampTimer ≠ none ∧ contactsOpen s) ∧
    (let s := { dcReady with power := { part := .sleep } }
     (s.session.station.map fun r => r.stale) = some false ∧ s.power.part ≠ .run) ∧
    (∀ x ∈ [none, some (⟨3620, 1000, 50000, false, false, 0, true⟩ : Station)],
      (withSession { station := x }).session.station = x) := by
  simp only [contactsOpen]; decide +kernel

/-- A stop at the end of its opening, with a record open. -/
def opening (unlock : Bool) (fault : Option FaultKind) : State :=
  { logged .opened with
    session :=
      { st := .stopping, stopCause := some .hostStop, openTimer := some 0, acK := .opening, lock := .engaged
        unlockOnStop := unlock, fault := fault }
    pins := { kacFb := true, lockFb := true } }

theorem test_w_stop_ends :
    (∀ u ∈ [true, false], ∀ f ∈ [none, some FaultKind.lockFail],
      let s := opening u f
      s.power.part = .run ∧ s.session.acK ≠ .closed ∧ s.session.dcK ≠ .closed ∧
        (s.pins.setFb .ac false).allOpen = true ∧ (s.pins.setFb .ac false).lockFb = true ∧
        s.billing.openSlot = some 2) ∧
    (∀ c ∈ [true, false], (boundary .opened c).billing.openSlot = some 2 ∧ (boundary .opened c).billing.commitPending = c) ∧
    (∀ st ∈ [SessState.active, .paused],
      (charging st).session.acK = .closed ∧ ((charging st).pins.setFb .ac false).allOpen = true ∧
      (let s := withSession { st := st, mode := some .dc, dcK := .closed }
       s.session.dcK = .closed ∧ (({ kdcpFb := true, kdcnFb := true } : Pins).setFb .dcNeg false).allOpen = false ∧
         (({ kdcpFb := true } : Pins).setFb .dcPos false).allOpen = true)) := by decide +kernel

/-! ### The hypotheses of each statement are met: budget and heating -/

theorem test_w_budget_settings :
    mayServe base ∧
    (factoryTable.length = 8 ∧ factoryTable.Pairwise (fun p q => p.1 < q.1) ∧
      ∀ p ∈ factoryTable, -80 ≤ p.1 ∧ p.1 ≤ 250 ∧ p.2 ≤ 1000) ∧
    (let l := [(-80, 0), (-79, 0), (0, 0), (1, 0), (2, 0), (3, 0), (4, 0), ((250 : Int), 1001)]
     l.length = 8 ∧ ¬ ∀ p ∈ l, -80 ≤ p.1 ∧ p.1 ≤ 250 ∧ p.2 ≤ 1000) := by
  simp only [mayServe]; decide +kernel

theorem test_w_budget_evaluations :
    (let s := { base with budget := { period := some 0, input := { limits := { present := true, stale := false } } } }
     s.power.part = .run ∧ s.budget.period ≠ none ∧ s.budget.input.limits.present = true ∧
       s.budget.input.limits.stale = false) ∧
    (let s := { base with budgetIn := [.heatOn 500, .offer 60, .offer 70] }
     (∀ p ∈ s.budgetIn, p.writer ≠ .meter) ∧ s.budgetIn = [.heatOn 500] ++ .offer 60 :: [.offer 70] ∧
       (∀ q ∈ [BudgetPosting.heatOn 500], q.writer ≠ .session) ∧ (BudgetPosting.offer 60).writer = .session ∧
       s.budget.input.take (.offer 60) ≠ s.budget.input ∧ s.budget.input.take (.offer 0) = s.budget.input) := by
  decide +kernel

theorem test_w_current_limit :
    currentLimit { offer := 60, cable := 130, derate := 1000 } { cap := 320, aux := 250, share := 300 } = 60 ∧
    currentLimit { offer := 60, cable := 130, derate := 999 } { cap := 320, aux := 250, share := 300 } = 0 := by
  decide +kernel

theorem test_w_evaluation :
    let station : BudgetInput := { coldMorning with mode := some .dc, stState := .fresh, stMaxV := 3620, stMaxI := 100, stMaxP := 9000 }
    (coldMorning.packV = some 3620 ∧ coldMorning.limits.present = true ∧ coldMorning.limits.stale = false ∧
      coldMorning.sess = .active ∧ coldMorning.mode = some .ac) ∧
    (let i := { coldMorning with packV := none }
     i.packV = none ∧ 0 < i.limits.packV) ∧
    (station.stState = .fresh ∧ station.vPack.1 = some 3620 ∧ 3620 ≤ station.stMaxV) ∧
    ({ coldMorning with sess := .paused } : BudgetInput).sess ≠ .active ∧
    (∀ v ∈ [1800, 1801],
      let i := { coldMorning with phases := 1, v1 := v }
      let e := evaluate i {} factoryTable
      i.mode = some .ac ∧ e.nPh = v - 1800 ∧ e.noOffer = false ∧ (e.pInlet = 0 ↔ v = 1800)) ∧
    ((evaluate { station with stMaxV := 3619 } {} factoryTable).noOffer = true ∧
      (evaluate station {} factoryTable).noOffer = false) ∧
    (evaluate { coldMorning with row1 := {}, row2 := {}, row3 := {} } {} factoryTable).noStages = true ∧
    (evaluate { coldMorning with demands := false, minTemp := none } {} factoryTable).noDraw = true ∧
    derateAt factoryTable (some (-40)) = 0 := by decide +kernel

theorem test_w_derate :
    factoryTable ≠ [] ∧ factoryTable.Pairwise (fun p q => p.1 < q.1) ∧ (∀ p ∈ factoryTable, p.2 ≤ 1000) ∧
      factoryTable = [(-60, 0), (-40, 0)] ++ (-20, 100) :: (0, 400) :: [(20, 800), (40, 1000), (90, 1000), (110, 0)] ∧
      factoryTable.getLast? = some (110, 0) := by decide +kernel

theorem test_w_split :
    coldMorning.mode = some .ac ∧ ({ coldMorning with mode := none } : BudgetInput).mode ≠ some .ac ∧
      (evaluate coldMorning { cap := 250, aux := 250, share := 300 } factoryTable).set1 < 7400 := by decide +kernel

theorem test_w_heat_settings :
    mayServe coldDepot ∧ gridMode? 2 ≠ none ∧ gridMode? 3 = none ∧
    (let s := { coldDepot with heating := { coldDepot.heating with source := .pack } }
     mayServe s ∧ s.heating.source = .pack) ∧
    (decide (0 < 10 ∧ 10 ≤ 10) ≠ coldDepot.heating.departure.window) := by
  simp only [mayServe]; decide +kernel

theorem test_w_rank_law :
    rankLaw coldDepot ∧ zoneLaw coldDepot ∧ ∃ t, step { coldDepot with pending := [.heatPeriodExpiry] } = .next t :=
  ⟨by simp only [rankLaw]; decide +kernel, by simp only [zoneLaw]; decide +kernel, _, rfl⟩

theorem test_w_heat_period :
    coldDepot.power.part = .run ∧ coldDepot.heating.heatPeriod ≠ none ∧ coldDepot.heating.zones.length = 8 ∧
      (∀ z ∈ coldDepot.heating.zones, 1 ≤ z.hyst ∧ z.refresh = z) ∧ coldDepot.stage.nodes.length = 11 ∧
      zoneLaw coldDepot ∧ rankLaw coldDepot ∧ (after .heatPeriodExpiry coldDepot).heating.source = .grid ∧
      ((after .heatPeriodExpiry coldDepot).zone 2).heat = .waiting := by
  simp only [zoneLaw, rankLaw]; decide +kernel

theorem test_w_heat_grant :
    (let s := { coldDepot with
        heatIn := [⟨0, 0⟩]
        heating := { coldDepot.heating with
          source := .grid, zones := coldDepot.heating.zones.map fun (z : Zone) => { z with heat := .heating } } }
     s.heatIn = ⟨0, 0⟩ :: [] ∧ s.power.part = .run ∧ s.heating.zones.length = 8 ∧
       (∀ z ∈ s.heating.zones, z.refresh = z) ∧ rankLaw s ∧ heatingZones s ≠ []) ∧ base.heatIn = [] := by
  simp only [rankLaw]; decide +kernel

theorem test_w_heat_timers :
    (coldDepot.zone 1).replyStamp = none ∧
    (let s := { coldDepot with
        heating := { coldDepot.heating with
          onTick := some 0, zones := coldDepot.heating.zones.map fun (z : Zone) => { z with replyStamp := some 0 } } }
     (s.zone 8).replyStamp ≠ none ∧ s.heating.zones.length = 8 ∧ s.heating.onTick ≠ none) ∧
    (∀ n ∈ [0, 1, 2, 61], ∀ m ∈ [DepartMode.oneShot, .periodic],
      ({ base with heating := { departure := { count := n, mode := m } } } : State).power.part = .run) ∧
    (let s := { base with power := { part := .sleep }, heating := { departure := { count := 61, lead := 60 } } }
     s.power.part = .sleep ∧ s.stage.entryWait = false ∧ s.heating.departure.window = false ∧
       s.heating.departure.count = s.heating.departure.lead + 1) := by decide +kernel

/-! ### The hypotheses of each statement are met: insulation -/

theorem test_w_iso_settings :
    mayServe base ∧ profMode? 1 ≠ none ∧ profile? 3 ≠ none ∧
    (let s := monitored { st := .measuring, vPack := some 501 }
     mayServe s ∧ s.iso.st ≠ .searching ∧ packAlive s.iso.vPack = true ∧ packAlive (some 500) = false) ∧
    (let s := monitored { st := .searching, search := { under := some 11 }, memory := [4] }
     mayServe s ∧ s.iso.st = .searching ∧ s.iso.search.under = some 11 ∧ s.iso.search.under ≠ some 4) := by
  simp only [mayServe]; decide +kernel

theorem test_w_search_starts :
    (let s := monitored { st := .measuring, assess := .warning, searchList := [4, 1] }
     mayServe s ∧ s.iso.searchList = 4 :: [1] ∧ (s.node 4).st = .active ∧ (s.node 4).isolated = false ∧
       4 ∉ s.iso.memory) ∧
    (let s := { base with iso := { st := .measuring, assess := .warning, searchList := [4, 1] } }
     mayServe s ∧ s.iso.searchList ≠ [] ∧ ∀ a ∈ s.iso.searchList, (s.node a).st ≠ .active) ∧
    (mayServe base ∧ base.iso.st ≠ .measuring) := by
  simp only [mayServe]; decide +kernel

theorem test_w_monitor_moves :
    (∀ v ∈ [none, some 500, some 501], ∀ st ∈ [MonState.off, .measuring, .listening, .yielded, .searching],
      let s := { monitored { st := st, search := { under := some 4 } } with isoIn := [v] }
      s.power.part = .run ∧ s.isoIn = v :: [] ∧ s.iso.params.enabled = true ∧ (s.node 4).st = .active) ∧
    base.isoIn = [] ∧
    (let s := monitored { st := .listening, listenTimer := some 0 }
     s.iso.st = .listening ∧ s.iso.listenTimer ≠ none) := by decide +kernel

theorem test_w_injection :
    readingOf (-1) = .invalid ∧ readingOf 40000 = .kOhm 10000 ∧ readingOf 39999 = .kOhm 10000 ∧ readingOf 0 = .kOhm 0 ∧
    (let s := monitored
        { st := .measuring, period := some 0, vPack := some 3620, assess := .warning, streaks := { belowFault := 1 } }
     s.power.part = .run ∧ s.iso.period ≠ none ∧
       gradedBy s.iso.assess (s.iso.streaks.value 30 (workingOf {} 3620)) 30 (workingOf {} 3620) = .fault) ∧
    (let s := monitored
        { st := .searching, period := some 0, vPack := some 3620, assess := .fault
          search := { under := some 4, phase := some .results, discarded := some (.kOhm 200)
                      first := some ⟨.kOhm 181, true⟩, marks := [.pending] } }
     s.iso.st = .searching ∧ s.iso.search.under = some 4 ∧ (workingOf s.iso.params 3620).warn ≤ 181 ∧
       ¬ (workingOf s.iso.params 3620).warn ≤ 180 ∧ (s.node 4).st = .active) ∧
    (∀ n ∈ [14, 15], ∀ p ∈ [Profile.p0, .p1],
      let s := monitored
        { st := .measuring, assess := .good, period := some 0, vPack := some 3620, profile := p, streaks := { settled := n } }
      s.iso.params.profMode = .auto ∧ s.iso.period ≠ none ∧
        (after (.injectionPeriodEnd 39900 39900 (-39900) (-39900)) s).iso.assess = s.iso.assess) ∧
    (∀ n ∈ [1, 2], ∀ st ∈ [MonState.measuring, .searching],
      let s := monitored
        { st := st, assess := .good, period := some 0, vPack := some 3620, profile := .p3, streaks := { p3Unsettled := n } }
      s.power.part = .run ∧ s.iso.period ≠ none ∧ s.iso.params.profMode = .auto ∧
        ¬ ((39000 - 0 : Int).natAbs * 32 ≤ (39000 : Int).natAbs)) ∧
    ({ profMode := .fixed } : IsoParams).profMode = .fixed := by decide +kernel

/-- A search with address 4 under test and every timeout of its step running. -/
def searching (list : List Nat) (st : NodeState) : State :=
  (monitored
    { st := .searching, searchList := list
      search := { under := some 4, confirmTimer := some 0, deadlineTimer := some 0, reconnectTimer := some 0
                  marks := [.pending, .pending] } }).onNode 4 fun n => { n with st := st }

theorem test_w_search_timeouts :
    (∀ st ∈ [NodeState.active, .lost],
      let s := searching [4, 5] st
      s.power.part = .run ∧ s.iso.search.under = some 4 ∧ s.iso.search.confirmTimer ≠ none ∧
        s.iso.search.deadlineTimer ≠ none ∧ s.iso.search.reconnectTimer ≠ none ∧ (s.node 4).st = st ∧
        s.iso.searchList.drop (s.iso.search.cursor + 1) = 5 :: [] ∧
        (s.node 5).st = .active ∧ (s.node 5).isolated = false ∧ 5 ∉ s.iso.memory) ∧
    (∀ st ∈ [NodeState.active, .lost],
      let s := searching [4] st
      (s.node 4).st = st ∧ s.iso.searchList.drop (s.iso.search.cursor + 1) = [] ∧ s.iso.assess ≠ .fault) := by
  decide +kernel

/-! ### The hypotheses of each statement are met: stage link -/

theorem test_w_roster :
    mayServe base ∧ base.iso.st ≠ .searching ∧ base.iso.search.under = none ∧ base.stage.nodes.length = 11 ∧
      base.heating.zones.length = 8 ∧
      (∀ a, 1 ≤ a → a ≤ 11 →
        [1, 0, 1, 2, 0, 2, 2, 2, 2, 2, 2].getD (a - 1) 0 = 0 ∨
          [1, 0, 1, 2, 0, 2, 2, 2, 2, 2, 2].getD (a - 1) 0 = if a ≤ 3 then 1 else 2) ∧
      ({ base with stage := { recallTimer := some 0 } } : State).stage.recallTimer ≠ none := by
  refine ⟨⟨rfl, rfl, by decide⟩, by decide, by decide, by decide, by decide, ?_, by decide⟩
  intro a h k
  have : a ∈ [1, 2, 3, 4, 5, 6, 7, 8, 9, 10, 11] := by simp; omega
  revert a; decide

/-- A transaction in flight to an ACTIVE heater at address 4. -/
def flying (c : StageCmd) (p : TxPhase) (n : Nat) : State :=
  { monitored {} with
    stage :=
      { (monitored {}).stage with
        inFlight := some { cmd := c, addr := 4, value := 0, attempt := n, phase := p } } }

theorem test_w_transactions :
    (let s := busyStage
     s.power.part = .run ∧ s.stage.supplyOn = true ∧ s.stage.inFlight = none ∧ s.stage.broadcast = .idle ∧
       s.stage.silent = false ∧ s.stage.safeStop = false ∧ s.stage.urgent ≠ []) ∧
    (monitored {}).stage.urgent = [] ∧
    ((flying .setpoint .retryWait 1).stage.inFlight.map fun x => x.phase) = some .retryWait := by decide +kernel

theorem test_w_attempts :
    (∀ c ∈ [StageCmd.rollCall, .statusQuery, .setpoint, .isolate, .reconnect], ∀ n ∈ [1, 3, 4],
      let s := flying c .awaitStatus n
      s.stage.entryWait = false ∧ (s.node 4).st = .active ∧ 4 ≤ s.stage.nodes.length ∧
        s.iso.search.under ≠ some 4 ∧ (s.node 4).commanded = 0) ∧
    (let s := { flying .isolate .awaitStatus 1 with iso := { search := { under := some 4, phase := some .isolateWait } } }
     s.iso.search.under = some 4 ∧ (s.node 4).st = .active) ∧
    (∀ p ∈ [TxPhase.awaitStatus, .awaitResponse],
      let s := (flying .rollCall p 4).onNode 4 fun n => { n with st := .missing }
      s.stage.entryWait = false ∧ (s.node 4).st = .missing ∧ (s.stage.inFlight.map fun x => x.attempt) = some 4) := by
  decide +kernel

/-- A roll call's reply of a heater rated 1,500 W at address 4, and a status reply of it with the isolated flag. -/
def rollReply : List Byte := [0x41, 0x03, 0x02, 0x05, 0xDC, check8 [0x41, 0x03, 0x02, 0x05, 0xDC]]
def statusReply : List Byte :=
  [0x43, 0x06, 0x02, 0x05, 0xDC, 0x00, 0x14, 0x03, check8 [0x43, 0x06, 0x02, 0x05, 0xDC, 0x00, 0x14, 0x03]]

theorem test_w_responses :
    let roll : Transaction := { cmd := .rollCall, addr := 4, value := 0, attempt := 1, phase := .awaitResponse }
    let query : Transaction := { roll with cmd := .statusQuery }
    responsePayload roll rollReply = some [0x02, 0x05, 0xDC] ∧ responsePayload roll [0x41] = none ∧
    responsePayload query statusReply = some [0x02, 0x05, 0xDC, 0x00, 0x14, 0x03] ∧
    (let s := { base with stage := { inFlight := some roll } }
     (s.node 4).st = .missing ∧ (s.node 4).expected = .heater ∧ s.stage.nodes.length = 11 ∧
       s.heating.zones.length = 8 ∧ s.stage.entryWait = false) ∧
    (let s := { flying .statusQuery .awaitResponse 1 with
        iso := { search := { under := some 4, phase := some .isolateWait, accepted := true } } }
     s.stage.inFlight = some query ∧ (s.node 4).st = .active ∧ (s.node 4).rating = some 1500 ∧ 4 ∉ s.iso.memory) ∧
    (∀ l ∈ [[], [4]], ∀ f ∈ [(0 : Byte), 2],
      let s := { flying .statusQuery .awaitResponse 1 with iso := { memory := l } }
      let bytes : List Byte := [0x43, 0x06, 0x02, 0x05, 0xDC, 0x00, 0x14, f]
      s.stage.inFlight = some query ∧ s.iso.search.under ≠ some 4 ∧ (s.node 4).rating = some 1500 ∧
        responsePayload query (bytes ++ [check8 bytes]) = some [0x02, 0x05, 0xDC, 0x00, 0x14, f]) ∧
    (∀ st ∈ [NodeState.active, .missing],
      let s := (flying .rollCall .awaitResponse 4).onNode 4 fun n => { n with st := st }
      s.stage.inFlight = some { roll with attempt := 4 } ∧ (s.node 4).st = st ∧ s.iso.search.under ≠ some 4) ∧
    (let charger : List Byte := [0x13, 0x06, 0x01, 0x05, 0xDC, 0x00, 0x14, 0x02]
     let s := { monitored {} with iso := { st := .searching, search := { under := some 1, phase := some .setpointWait } } }
     responsePayload { query with addr := 1 } (charger ++ [check8 charger]) = some [0x01, 0x05, 0xDC, 0x00, 0x14, 0x02] ∧
       (s.node 1).st = .active ∧ (s.node 1).rating = some 1500 ∧ (s.node 1).expected = .charger ∧
       (0x02 : Byte).getLsbD 1 = true) := by
  decide +kernel

theorem test_w_node_periods :
    (let s := { monitored {} with
        stage := { (monitored {}).stage with
          nodes := (monitored {}).stage.nodes.map fun (n : Node) => { n with pollTimer := some 0, refreshTimer := some 0 } } }
     s.power.part = .run ∧ (s.stage.nodes.getD 10 {}).st = .active ∧ (s.stage.nodes.getD 10 {}).pollTimer ≠ none ∧
       (s.stage.nodes.getD 10 {}).refreshTimer ≠ none) ∧
    (base.stage.nodes.getD 0 {}).st ≠ .active := by decide +kernel

theorem test_w_safe_stop :
    let s := { base with stage := { supplyOn := true, safeStop := true } }
    s.stage.safeStop = true ∧ s.stage.supplyOn = true ∧ s.stage.inFlight = none ∧ s.stage.broadcast = .idle ∧
      s.stage.silent = false ∧ ({ s with stage := { broadcast := .firstSent } } : State).stage.broadcast = .firstSent := by
  decide +kernel

/-! ### The hypotheses of each statement are met: metering, billing, NV -/

/-- A sample at the ends of its ranges. -/
def edgeSample : FrontEnd :=
  { v1 := 1801, v2 := 1800, v3 := 3000, i1 := 9, i2 := 0, i3 := 0, p1 := 30000, p2 := -30000, p3 := 0, vDc := 10000
    iDc := -5000, packValid := true, vPack := 501, iHv := 5000, iHeat := -1000 }

theorem test_w_sample :
    heldReadings edgeSample = edgeSample ∧
    (let s := { charging .energising with session := { st := .energising, mode := some .ac, energiseTimer := some 0 } }
     s.power.part = .run ∧ s.meter.period ≠ none ∧ s.session.energiseTimer ≠ none) ∧
    (let s := { charging .stopping with session := { (charging .stopping).session with rampTimer := some 0 } }
     s.meter.period ≠ none ∧ s.session.rampTimer ≠ none ∧ s.pins.kacFb = true ∧ s.meter.channel.isOpen = true) ∧
    (let s := { opening true none with
        pins := {}, meter := { period := some 0 }, session := { (opening true none).session with rampTimer := some 0 } }
     s.meter.period ≠ none ∧ s.session.rampTimer ≠ none ∧ contactsOpen s ∧ s.billing.openSlot = some 2) ∧
    (let s := { charging .energising with session := { st := .energising, mode := some .ac, energiseTimer := some 0 } }
     s.pins.kacFb = true) ∧
    base.meter.period = none := by
  simp only [contactsOpen]; decide +kernel

theorem test_w_clock :
    (∀ st ∈ [SlotState.closed, .opened], ∀ c ∈ [true, false],
      let s := boundary st c
      s.power.part = .run ∧ 59 ≤ s.billing.clock.second ∧ s.billing.clock.valid = true ∧
        bandAt s.billing.tariff.page0 420 = 1 ∧ s.billing.cursor.band = 0 ∧
        s.billing.openSlot = if st = .opened then some 2 else none) ∧
    mayServe (boundary .opened false) ∧ pageValid (boundary .closed false).billing.tariff.page0 = true ∧
    bandAt (boundary .closed false).billing.tariff.page0 419 = 0 := by
  simp only [mayServe]; decide +kernel

theorem test_w_tariff :
    mayServe base ∧ mayServe (boundary .opened true) ∧
    (base.billing.commitPending = false ∧ base.billing.openSlot = none ∧ base.billing.reservation = none ∧
      pageValid base.billing.tariff.page1 = true) ∧
    ((logged .opened).billing.openSlot ≠ none ∧ (logged .opened).billing.commitPending = false) ∧
    (let s := { base with billing := { tariff := { page1 := [⟨1, 0, false⟩] } } }
     mayServe s ∧ pageValid s.billing.tariff.page1 = false) ∧
    (∀ k ∈ [0, 1, 2, 3, 4, 5], 0x999999 / 16 ^ k % 16 ≤ 9) := by
  simp only [mayServe]; decide +kernel

theorem test_w_log :
    (∀ st ∈ [SlotState.closed, .collected, .opened], mayServe (logged st) ∧ (logged st).billing.findNumber 9 = some 2) ∧
    ((logged .opened).billing.checkpoint ≠ none ∧ (logged .opened).billing.openSlot = some 2 ∧
      (logged .opened).power.part = .run) ∧
    (let s := { base with billing := { rewrite := some 0, behind := (List.replicate 24 false).set 23 true } }
     s.billing.rewrite ≠ none ∧ s.billing.behind.getD 23 false = true) := by
  simp only [mayServe]; decide +kernel

theorem test_w_pricing :
    let r : Record :=
      { remC := 999, remH := 500, segments := List.replicate 12 { chargeWh := 1, price := 10, chargeCost := 10 }
        chargeCost := 120 }
    costLaw r ∧ r.segments.getLast? = some { chargeWh := 1, price := 10, chargeCost := 10 } ∧
      0 < (r.remC + 1) / 1000 ∧ r.flags.segmentsMerged = false := by
  simp only [costLaw]; decide +kernel

theorem test_w_nv :
    mayServe base ∧ base.nv.inFlight = none ∧
    (let q : List NvWrite := [⟨.isoMemory [4], false⟩, ⟨.slot 2 {}, false⟩, ⟨.totals {}, true⟩]
     q.find? NvWrite.supplyLoss = some ⟨.totals {}, true⟩ ∧
       (q.take 2).find? NvWrite.supplyLoss = none ∧ (q.take 2).find? NvWrite.isSlot = some ⟨.slot 2 {}, false⟩ ∧
       (q.take 1).find? NvWrite.isSlot = none ∧ (q.take 1).head? = some ⟨.isoMemory [4], false⟩) ∧
    (let s := { base with
        power := { part := .supplyHold }
        nv := { inFlight := some ⟨⟨.isoMemory [4], false⟩, false⟩, queue := [⟨.totals {}, true⟩] } }
     s.nv.inFlight ≠ none ∧ s.power.part = .supplyHold ∧ ∃ w ∈ s.nv.queue, w.supplyLoss = true) ∧
    newest (⟨.good 3 [4], .torn 4 0⟩ : Area (List Nat)) = some (3, [4], false) ∧
    newest (⟨.erased, .torn 4 0⟩ : Area (List Nat)) = none := by
  simp only [mayServe]; decide +kernel

/-! ### The hypotheses of each statement are met: power states and host link -/

theorem test_w_power_states :
    (let s := { inState .finished with
        heating := { zones := (coldDepot.heating.zones.map fun (z : Zone) => { z with heat := .waiting }) } }
     mayServe s ∧ s.session.st = .finished ∧ (∀ z ∈ s.heating.zones, z.heat ≠ .heating) ∧ s.iso.st ≠ .searching ∧
       s.link.requests = [] ∧ s.pins.wake = false ∧ s.stage.nodes.length = 11 ∧ s.stage.inFlight = none) ∧
    mayServe (inState .connected) ∧
    (let s := { inState .idle with pins := { wake := true } }
     mayServe s ∧ s.session.st = .idle ∧ (∀ z ∈ s.heating.zones, z.heat ≠ .heating) ∧ s.iso.st ≠ .searching ∧
       s.link.requests = [] ∧ s.pins.wake = true ∧ s.stage.inFlight = none) ∧
    (∀ p ∈ [PartState.standby, .sleep],
      let s := { base with power := { part := p } }
      s.stage.entryWait = false ∧ plugClassOf (some 220) ≠ s.session.watchProx ∧
        pilotClassOf (.level 90) = some (.steady, 0) ∧ PilotClass.steady ≠ s.session.watchPilot) ∧
    (∀ w ∈ [none, some WakeSource.plug],
      let s := { flying .statusQuery .awaitStatus 4 with
        power := { part := .standby, heldWake := w }
        stage := { (flying .statusQuery .awaitStatus 4).stage with entryWait := true } }
      s.stage.entryWait = true ∧ (s.node 4).st = .active ∧ s.iso.search.under = none ∧ s.stage.nodes.length = 11 ∧
        s.power.heldWake = w) ∧
    (let s := { withSession { st := .finished, lock := .engaged, following := true } with power := { part := .sleep } }
     s.power.part = .sleep ∧ s.stage.entryWait = false ∧ s.session.lock = .engaged ∧ s.pins.lockFb = false) := by
  simp only [mayServe]; decide +kernel

theorem test_w_supply_warning :
    ((charging .active).power.part = .run ∧ ¬ contactsOpen (charging .active)) ∧
    (logged .opened).billing.openSlot = some 2 ∧
    (∀ d ∈ [true, false],
      let s := { base with power := { part := .supplyHold, dwell := some 0, dipDue := d } }
      s.power.part = .supplyHold ∧ s.power.dwell ≠ none ∧ s.power.dipDue = d) ∧
    ({ base with power := { part := .off } } : State).power.part = .off ∧
    (∀ m ∈ [Mode.ac, .dc],
      let s := { base with
        power := { part := .supplyHold }
        session := { st := .stopping, stopCause := some .supplyLoss, mode := some m, openTimer := some 0 } }
      s.session.st = .stopping ∧ s.session.openTimer ≠ none ∧ (s.pins.setFb .ac false).allOpen = true ∧
        (({ kacFb := true, kdcpFb := true } : Pins).setFb .ac false).allOpen = false) := by
  simp only [contactsOpen]; decide +kernel

theorem test_w_resets :
    (let s := { base with power := { part := .run, hostReset := true, resetAcked := true } }
     s.power.hostReset = true ∧ s.billing.openSlot = none ∧ s.nv.queue = [] ∧ s.nv.inFlight = none ∧
       s.nv.deferred = none ∧ s.power.resetAcked = true ∧ s.link.replies = [] ∧ s.link.tx = none) ∧
    mayServe (inState .idle) ∧ (mayServe (charging .paused) ∧ ¬ contactsOpen (charging .paused)) ∧
    (let s := { base with power := { part := .supplyHold, dipDue := true } }
     s.power.dipDue = true ∧ s.nv.queue = []) ∧
    (mayServe (inState .energising) ∧ contactsOpen (inState .energising)) ∧
    (∀ c ∈ [PilotClass.absent, .steady],
      let s := { State.reset with
        pins := { lockFb := true }
        session := { lock := .engaged, proxTaken := true, pilotTaken := true, watchProx := .cable32, watchPilot := c } }
      s.power.part = .startUp ∧ s.session.following = false ∧ s.session.watchProx.present = true) ∧
    State.reset.power.part = .startUp ∧ base.nv.slots.length = 24 ∧
    (let s := { base with
        power := { part := .off }
        nv := { slots := State.reset.nv.slots.set 2 ⟨.good 1 ((logged .opened).billing.slot 2), .erased⟩ } }
     s.power.part = .off ∧ (newest (s.nv.slots.getD 2 {})).map (fun p => p.2.1.st) = some .opened) := by
  simp only [mayServe, contactsOpen]; decide +kernel

theorem test_w_frames :
    (base.link.on = true ∧ base.power.part = .run ∧ base.link.framer = .hunt ∧ base.link.requests.length < 4) ∧
    (let s := { fullLink with link := { fullLink.link with replies := [] } }
     4 ≤ s.link.requests.length ∧ s.link.replies.length < 8) ∧
    (let s := { base with power := { part := .standby } }
     s.power.part = .standby ∧ s.stage.entryWait = false) ∧
    ({ base with link := { framer := .inFrame [] } } : State).link.framer ≠ .hunt ∧
    60 < BitVec.toNat (61 : Byte) ∧ (List.replicate 60 (0xC3 : Byte)).length ≤ 60 ∧
    good16 [0x00, 0x01, 0x2A] (ofBe [0xD5, 0xFF]) = false ∧
    ([0x00, 0x01, 0x2A] : List Byte).head? = some (byte (3 - 3)) := by decide +kernel

theorem test_w_serving :
    parseRequest 0x12 5 [] = .request (.pause 5) ∧ parseRequest 0x12 5 [1] = .badLength ∧
    parseRequest 0x7F 5 [] = .unknown ∧
    (let s := { base with link := { requests := [⟨0x12, 5, []⟩], replies := List.replicate 7 ⟨0x81, 0, [0], .plain⟩ } }
     serves s ∧ s.link.tx = none ∧ s.link.on = true) ∧
    (let s := { base with link := { notices := [.part] } }
     s.link.replies = [] ∧ s.link.notices = .part :: []) ∧
    (∀ m ∈ [ReplyMark.plain, .sleepAck, .resetAck],
      let s := { base with power := { part := .sleep }, link := { tx := some ⟨0x84, 1, [0], m, false⟩ } }
      s.link.tx ≠ none ∧ s.power.part = .sleep) := by
  simp only [serves]; decide +kernel

end Sys2Proof.Tests
end

section
/-! Proofs for the family of the charging sessions: the offer of a pilot duty (R4), and PAUSE and RESUME on the
pause-cause set (R14, R17, R18). First the rules that several requests share, then the two subjects. -/

namespace Sys2Proof.Machine

open Safety

/-! ### One more reply -/

/-- The reply goes to the tail; the notices are those that the change before it raised (R186, R187). -/
theorem answers_replied {s t : State} {ks : List NoticeKind} (h : notices ks s t) (code tag : Byte) (st : Status)
    (body : List Byte) : answers code tag st body ks s (replied t code tag (byte st.code :: body)) := by
  simp only [notices] at h
  simp [answers, replied, h]

/-- A reply moves the host link alone. -/
theorem onlyChanges_replied {ps : List Piece} {s t : State} (h : onlyChanges ps s t) (code tag : Byte) (p : List Byte)
    (hl : Piece.link ∈ ps := by decide) : onlyChanges ps s (replied t code tag p) :=
  onlyChanges_trans (qs := [.link]) h (by simp [replied, onlyChanges]) (fun _ hx => hx) (by simpa using hl)

/-- An answer without contents is its status byte, whatever the status (R187). -/
theorem Answer.payload_refusal (st : Status) (m : ReplyMark) : (⟨st, [], m⟩ : Answer).payload = [byte st.code] := by
  unfold Answer.payload
  split <;> rfl

/-- A refused request is answered with the status alone (R186 step 4, R187). -/
theorem State.request_refused {s : State} (h : mayServe s) {kind : Byte} (hk : kind.toNat < 0x80) (tag : Byte)
    {own : State → Served} {st : Status} (ho : own s = refuse s st) :
    s.request kind tag own = replied s kind tag [byte st.code] := by
  rw [State.request_served h, ho]
  simp [refuse, Answer.payload_refusal, State.placeReply_plain _ _ _ _ hk]

/-- An accepted request is its owner's change and the reply OK with the owner's bytes (R186 step 4, R187). -/
theorem State.request_ok {s : State} (h : mayServe s) {kind : Byte} (hk : kind.toNat < 0x80) (tag : Byte)
    {own : State → Served} {t : State} {body : List Byte} (ho : own s = okWith t body) :
    s.request kind tag own = replied t kind tag (byte Status.ok.code :: body) := by
  rw [State.request_served h, ho]
  simp [okWith, Answer.payload, State.placeReply_plain _ _ _ _ hk]

/-! ### The pause-cause set (R14, R17) -/

/-- The load in PAUSED as R17 words it. -/
theorem Session.loadFor_paused {x : Session} (h : x.st = .paused) (was : Bool) :
    x.loadFor was = decide (x.mode = some .ac ∧ x.causes.hostPause = false ∧ x.causes.nothingToDo = false) := by
  simp [Session.loadFor, h, PauseSet.keepsLoad, Bool.beq_eq_decide_eq, Bool.decide_and]

/-- The load in ACTIVE as R17 words it. -/
theorem Session.loadFor_active {x : Session} (h : x.st = .active) (was : Bool) :
    x.loadFor was = decide (x.mode = some .ac) := by
  simp [Session.loadFor, h, Bool.beq_eq_decide_eq]

/-- R14: the set as it stands, given again, changes nothing. -/
theorem State.setCauses_self (s : State) : s.setCauses s.session.causes = s := by simp [State.setCauses]

/-- R14: a cause that comes to an ACTIVE session makes it PAUSED. -/
theorem State.setCauses_active {s : State} (hs : s.session.st = .active) {c : PauseSet} (h : c ≠ s.session.causes)
    (hc : c ≠ {}) :
    s.setCauses c =
      { noticed [.session] s with
        session := { s.session with st := .paused, causes := c }
        pins :=
          { s.pins with
            cpLoad := decide (s.session.mode = some .ac ∧ c.hostPause = false ∧ c.nothingToDo = false) }
        heating := { s.heating with sess := .paused }
        budgetIn := s.budgetIn ++ [.session .paused s.session.mode] } := by
  simp [State.setCauses, h, hs, (isEmpty_eq_false c).2 hc, State.enter_eq, State.onSession, State.raise_eq, noticed,
    Session.loadFor_paused, SessState.clearsPlugLoss]

/-- R14: the last cause gone makes a PAUSED session ACTIVE. -/
theorem State.setCauses_emptied {s : State} (hs : s.session.st = .paused) (h : s.session.causes ≠ {}) :
    s.setCauses {} =
      { noticed [.session] s with
        session := { s.session with st := .active, causes := {} }
        pins := { s.pins with cpLoad := decide (s.session.mode = some .ac) }
        heating := { s.heating with sess := .active }
        budgetIn := s.budgetIn ++ [.session .active s.session.mode] } := by
  simp [State.setCauses, h.symm, hs, (isEmpty_eq_true {}).2 rfl, State.enter_eq, State.onSession, State.raise_eq,
    noticed, Session.loadFor_active, SessState.clearsPlugLoss]

/-- R14, R17: with a cause still standing a PAUSED session stays, and only its load follows the set. -/
theorem State.setCauses_paused {s : State} (hs : s.session.st = .paused) {c : PauseSet} (h : c ≠ s.session.causes)
    (hc : c ≠ {}) :
    s.setCauses c =
      { noticed [.session] s with
        session := { s.session with causes := c }
        pins :=
          { s.pins with
            cpLoad := decide (s.session.mode = some .ac ∧ c.hostPause = false ∧ c.nothingToDo = false) } } := by
  simp [State.setCauses, h, hs, (isEmpty_eq_false c).2 hc, State.onSession, State.raise_eq, noticed, State.applyLoad,
    State.onPins, Session.loadFor_paused]

/-- R14, R28: a change of the set raises one SESSION notice, also where it moves the state. -/
theorem State.setCauses_notices {s : State} {c : PauseSet} (h : c ≠ s.session.causes) :
    notices [.session] s (s.setCauses c) := by
  unfold State.setCauses
  rw [if_neg h]
  dsimp only
  split_ifs <;> simp [notices, State.enter_eq, noticed, State.raise_eq, State.applyLoad]

/-! ### PAUSE and RESUME (R18) -/

/-- ACTIVE or PAUSED, as the requests test it. -/
theorem State.drawing_eq_true (s : State) : s.drawing = true ↔ s.session.st = .active ∨ s.session.st = .paused := by
  simp [State.drawing]

/-- PAUSE in ACTIVE or PAUSED gives the set HOST_PAUSE. -/
theorem exec_pause_drawing {s : State} (h : mayServe s) (hs : s.session.st = .active ∨ s.session.st = .paused)
    (tag : Byte) :
    exec (.pause tag) s =
      .next (replied (s.setCauses { s.session.causes with hostPause := true }) 0x12 tag [byte Status.ok.code]) :=
  congrArg Host.Outcome.next (State.request_ok h (by decide) tag (if_pos ((State.drawing_eq_true s).2 hs)))

/-- RESUME in ACTIVE or PAUSED takes HOST_PAUSE out of the set. -/
theorem exec_resume_drawing {s : State} (h : mayServe s) (hs : s.session.st = .active ∨ s.session.st = .paused)
    (tag : Byte) :
    exec (.resume tag) s =
      .next (replied (s.setCauses { s.session.causes with hostPause := false }) 0x13 tag [byte Status.ok.code]) :=
  congrArg Host.Outcome.next (State.request_ok h (by decide) tag (if_pos ((State.drawing_eq_true s).2 hs)))

/-- PAUSE outside ACTIVE and PAUSED. -/
theorem exec_pause_refused {s : State} (h : mayServe s) (hs : ¬ (s.session.st = .active ∨ s.session.st = .paused))
    (tag : Byte) : refusedWith (.pause tag) 0x12 tag .state s :=
  congrArg Host.Outcome.next (State.request_refused h (by decide) tag (if_neg (mt (State.drawing_eq_true s).1 hs)))

/-- RESUME outside ACTIVE and PAUSED. -/
theorem exec_resume_refused {s : State} (h : mayServe s) (hs : ¬ (s.session.st = .active ∨ s.session.st = .paused))
    (tag : Byte) : refusedWith (.resume tag) 0x13 tag .state s :=
  congrArg Host.Outcome.next (State.request_refused h (by decide) tag (if_neg (mt (State.drawing_eq_true s).1 hs)))

/-! ### The offer of a duty (R4) -/

theorem offerOfDuty_below {d : Nat} (h : d ≤ 79) : offerOfDuty d = 0 := if_pos (by omega)

theorem offerOfDuty_least {d : Nat} (h : 80 ≤ d) (h' : d ≤ 99) : offerOfDuty d = 60 := by
  unfold offerOfDuty
  rw [if_neg (by omega), if_pos (by omega)]

theorem offerOfDuty_shallow {d : Nat} (h : 100 ≤ d) (h' : d ≤ 850) : offerOfDuty d = d * 6 / 10 := by
  unfold offerOfDuty
  rw [if_neg (by omega), if_neg (by omega), if_pos h']

theorem offerOfDuty_steep {d : Nat} (h : 851 ≤ d) (h' : d ≤ 960) : offerOfDuty d = (d - 640) * 25 / 10 := by
  unfold offerOfDuty
  rw [if_neg (by omega), if_neg (by omega), if_neg (by omega), if_pos h']

theorem offerOfDuty_above {d : Nat} (h : 961 ≤ d) : offerOfDuty d = 0 := by
  unfold offerOfDuty
  rw [if_neg (by omega), if_neg (by omega), if_neg (by omega), if_neg (by omega)]

/-- No duty offers more than 80.0 A. -/
theorem offerOfDuty_le (d : Nat) : offerOfDuty d ≤ 800 := by
  by_cases h₁ : d ≤ 79
  · simp [offerOfDuty_below h₁]
  by_cases h₂ : d ≤ 99
  · simp [offerOfDuty_least (by omega) h₂]
  by_cases h₃ : d ≤ 850
  · rw [offerOfDuty_shallow (by omega) h₃]; omega
  by_cases h₄ : d ≤ 960
  · rw [offerOfDuty_steep (by omega) h₄]; omega
  · simp [offerOfDuty_above (d := d) (by omega)]

end Sys2Proof.Machine

namespace Sys2Proof.Proofs

open Machine Safety

/-- Settles O29, row by row of the offer table. -/
theorem offerOfDuty : Obligations.OfferOfDuty := by
  refine ⟨fun d => offerOfDuty_below, fun d => offerOfDuty_least, fun d h h' => ?shallow, fun d h h' => ?steep,
    fun d h _ => offerOfDuty_above h, offerOfDuty_le, offerOfDuty_shallow (by decide) (by decide),
    offerOfDuty_steep (by decide) (by decide)⟩
  case shallow =>
    rw [offerOfDuty_shallow h h']
    omega
  case steep =>
    rw [offerOfDuty_steep h h']
    omega

section
variable {s : State} (hm : mayServe s) (tag : Byte)
include hm

/-- R18: a PAUSE that brings HOST_PAUSE leaves the session PAUSED with the load released, moved there or as it was. -/
theorem pause_adds (hs : s.session.st = .active ∨ s.session.st = .paused) (hp : s.session.causes.hostPause = false) :
    ∃ t, exec (.pause tag) s = .next t ∧ answers 0x12 tag .ok [] [.session] s t ∧
      t.session = { s.session with st := .paused, causes := { s.session.causes with hostPause := true } } ∧
      t.pins = { s.pins with cpLoad := false } ∧
      (s.session.st = .active → entered .paused [] s t) ∧
      (s.session.st = .paused → t.heating = s.heating ∧ t.budgetIn = s.budgetIn) ∧
      onlyChanges [.session, .pins, .heating, .link, .budgetIn] s t := by
  have hne : { s.session.causes with hostPause := true } ≠ s.session.causes := fun h => by
    simpa [hp] using congrArg PauseSet.hostPause h
  have hfull : { s.session.causes with hostPause := true } ≠ {} := fun h => by
    simpa using congrArg PauseSet.hostPause h
  have frame := onlyChanges_replied (State.setCauses_frame s { s.session.causes with hostPause := true }) 0x12 tag
    [byte Status.ok.code]
  refine ⟨_, exec_pause_drawing hm hs tag, answers_replied (State.setCauses_notices hne) .., ?_⟩
  rcases hs with hs | hs
  · rw [State.setCauses_active hs hne hfull] at frame ⊢
    simpa [replied, noticed, entered, hs] using frame
  · rw [State.setCauses_paused hs hne hfull] at frame ⊢
    simpa [replied, noticed, hs] using frame

/-- R18: a RESUME that takes HOST_PAUSE away makes the session ACTIVE when no other cause stands, and otherwise moves
its load alone. -/
theorem resume_removes (hs : s.session.st = .paused) (hp : s.session.causes.hostPause = true) :
    let c := { s.session.causes with hostPause := false }
    ∃ t, exec (.resume tag) s = .next t ∧ answers 0x13 tag .ok [] [.session] s t ∧
      (c = {} → entered .active [] s t ∧ t.session = { s.session with st := .active, causes := {} } ∧
        t.pins = { s.pins with cpLoad := decide (s.session.mode = some .ac) }) ∧
      (c ≠ {} → t.session = { s.session with causes := c } ∧ t.heating = s.heating ∧ t.budgetIn = s.budgetIn ∧
        t.pins = { s.pins with cpLoad := decide (s.session.mode = some .ac ∧ c.nothingToDo = false) }) ∧
      onlyChanges [.session, .pins, .heating, .link, .budgetIn] s t := by
  intro c
  have hne : c ≠ s.session.causes := fun h => by simpa [c, hp] using congrArg PauseSet.hostPause h
  have hfull : s.session.causes ≠ {} := fun h => by simpa [hp] using congrArg PauseSet.hostPause h
  refine ⟨_, exec_resume_drawing hm (.inr hs) tag, answers_replied (State.setCauses_notices hne) ..,
    fun hc => ?emptied, fun hc => ?kept, onlyChanges_replied (State.setCauses_frame s _) ..⟩
  case emptied =>
    have moved := (congrArg s.setCauses hc).trans (State.setCauses_emptied hs hfull)
    rw [moved]
    simp [replied, entered, noticed]
  case kept =>
    rw [State.setCauses_paused hs hne hc]
    simp [replied, noticed, c]

end

/-- Settles O17: a refusal outside ACTIVE and PAUSED, the set given again as it stands, and the two changes of it. -/
theorem pauseAndResumeMoveTheSet : Obligations.PauseAndResumeMoveTheSet := by
  intro s tag hm
  have again : ∀ b, s.session.causes.hostPause = b → s.setCauses { s.session.causes with hostPause := b } = s := by
    rintro _ rfl
    exact s.setCauses_self
  refine ⟨fun ha hp => ?refused, fun hs hp => ?pauseAgain, fun hs hp => ?resumeAgain, pause_adds hm tag,
    resume_removes hm tag⟩
  case refused =>
    have hs : ¬ (s.session.st = .active ∨ s.session.st = .paused) := not_or.2 ⟨ha, hp⟩
    exact ⟨exec_pause_refused hm hs tag, exec_resume_refused hm hs tag⟩
  case pauseAgain => rw [exec_pause_drawing hm hs, again _ hp]
  case resumeAgain => rw [exec_resume_drawing hm hs, again _ hp]

end Sys2Proof.Proofs
end

section
/-! Proofs for the family of the power budget (chapter 2): the derate read from the table (R40), the charger split as a
division that fills evenly (R48), and the figures of an evaluation one by one in the order of the chain (R42 to R51). -/

namespace Sys2Proof.Machine

/-! ### The derate (R40) -/

/-- With the temperature absent the first point's derate is read. -/
theorem derateAt_none (p : Point) (r : List Point) : derateAt (p :: r) none = p.2 := rfl

/-- Below the first point its derate is read. -/
theorem derateAt_below (p : Point) (r : List Point) {t : Int} (h : t < p.1) : derateAt (p :: r) (some t) = p.2 :=
  if_pos h

/-- From the first point on the table is walked. -/
theorem derateAt_from (p : Point) (r : List Point) {t : Int} (h : p.1 ≤ t) :
    derateAt (p :: r) (some t) = derateFrom (p :: r) t :=
  if_neg h.not_gt

/-- In a rising table no point lies below the first. -/
theorem headPoint_le {p x : Point} {r : List Point} (h : (p :: r).Pairwise fun p q => p.1 < q.1) (hx : x ∈ p :: r) :
    p.1 ≤ x.1 := by
  rcases List.mem_cons.1 hx with rfl | hr
  · exact le_rfl
  · exact (List.rel_of_pairwise_cons h hr).le

/-! ### The charger split (R48) -/

theorem shareOf_cons (p : Nat × Nat) (l : List (Nat × Nat)) (a : Nat) :
    shareOf (p :: l) a = if p.1 = a then p.2 else shareOf l a := by
  by_cases h : p.1 = a <;> simp [shareOf, h]

/-- An address that takes no part is given nothing. -/
theorem shareOf_absent {l : List (Nat × Nat)} {a : Nat} (h : a ∉ l.map Prod.fst) : shareOf l a = 0 := by
  have none : (l.find? fun p => p.1 == a) = none := by
    rw [List.find?_eq_none]
    exact fun p hp he => h (List.mem_map.2 ⟨p, hp, by simpa using he⟩)
  simp [shareOf, none]

/-- With distinct addresses each pair of the list is what its address is given. -/
theorem shareOf_mem {l : List (Nat × Nat)} (distinct : (l.map Prod.fst).Nodup) {p : Nat × Nat} (hp : p ∈ l) :
    shareOf l p.1 = p.2 := by
  induction l with
  | nil => cases hp
  | cons x l ih =>
    obtain ⟨fresh, distinct⟩ := List.nodup_cons.1 distinct
    rw [shareOf_cons]
    rcases List.mem_cons.1 hp with rfl | hp
    · exact if_pos rfl
    · have he : x.1 ≠ p.1 := fun he => fresh (he ▸ List.mem_map_of_mem hp)
      rw [if_neg he, ih distinct hp]

/-- An address of the first part has its share from there. -/
theorem shareOf_append_left {l r : List (Nat × Nat)} {a : Nat} (h : a ∈ l.map Prod.fst) :
    shareOf (l ++ r) a = shareOf l a := by
  induction l with
  | nil => cases h
  | cons x l ih =>
    rw [List.cons_append, shareOf_cons, shareOf_cons]
    split_ifs with he
    · rfl
    · exact ih ((List.mem_cons.1 h).resolve_left (Ne.symm he))

/-- An address outside the first part has its share from the second. -/
theorem shareOf_append_right {l r : List (Nat × Nat)} {a : Nat} (h : a ∉ l.map Prod.fst) :
    shareOf (l ++ r) a = shareOf r a := by
  induction l with
  | nil => rfl
  | cons x l ih =>
    obtain ⟨hx, hl⟩ := not_or.1 (mt List.mem_cons.2 h)
    rw [List.cons_append, shareOf_cons, if_neg (Ne.symm hx), ih hl]

/-- A round gives its shares to the members of its group, in their order. -/
theorem shares_members (q left : Nat) (g : List (Nat × Nat)) :
    ((shares q left g).map fun m => (m.1, m.2.1)) = g := by
  induction g generalizing left with
  | nil => rfl
  | cons m g ih => simp [shares, ih]

/-- The shares of a round: the quotient each, and the watts left over. -/
theorem shares_sum (q : Nat) {left : Nat} {g : List (Nat × Nat)} (h : left ≤ g.length) :
    ((shares q left g).map fun m => m.2.2).sum = q * g.length + left := by
  induction g generalizing left with
  | nil => simpa [shares] using (h.antisymm (Nat.zero_le _)).symm
  | cons m g ih =>
    have hl : left ≤ g.length + 1 := h
    simp only [shares, List.map_cons, List.sum_cons, List.length_cons, ih (show left - 1 ≤ g.length by omega),
      Nat.mul_succ]
    split_ifs <;> omega

/-- Each share is the quotient, or one more while watts are left over. -/
theorem shares_bounds {q left : Nat} {g : List (Nat × Nat)} {m : Nat × Nat × Nat} (hm : m ∈ shares q left g) :
    q ≤ m.2.2 ∧ m.2.2 ≤ if 0 < left then q + 1 else q := by
  induction g generalizing left with
  | nil => cases hm
  | cons x g ih =>
    rcases List.mem_cons.1 hm with rfl | hm
    · split_ifs <;> simp_all
    · have := ih hm
      split_ifs at this ⊢ <;> omega

/-- No share is more than one above the quotient. -/
theorem shares_le_succ {q left : Nat} {g : List (Nat × Nat)} {m : Nat × Nat × Nat} (hm : m ∈ shares q left g) :
    m.2.2 ≤ q + 1 := by
  refine (shares_bounds hm).2.trans ?_
  split_ifs <;> omega

/-- The watts left over go to the lowest addresses: over a rising group the shares do not rise. -/
theorem shares_pairwise (q left : Nat) {g : List (Nat × Nat)} (rising : g.Pairwise fun m n => m.1 < n.1) :
    (shares q left g).Pairwise fun m n => m.1 < n.1 ∧ n.2.2 ≤ m.2.2 := by
  induction g generalizing left with
  | nil => exact .nil
  | cons x g ih =>
    obtain ⟨first, rising⟩ := List.pairwise_cons.1 rising
    refine List.pairwise_cons.2 ⟨fun n hn => ⟨?_, ?_⟩, ih _ rising⟩
    · exact first (n.1, n.2.1) (shares_members q (left - 1) g ▸ List.mem_map_of_mem hn)
    · have := (shares_bounds hn).2
      dsimp only
      split_ifs at this ⊢ <;> omega

/-- Over a rising group a member has no smaller share than a later one. -/
theorem shares_falling {q left : Nat} {g : List (Nat × Nat)} (rising : g.Pairwise fun m n => m.1 < n.1) :
    ∀ m ∈ shares q left g, ∀ n ∈ shares q left g, m.1 ≤ n.1 → n.2.2 ≤ m.2.2 :=
  have ordered := shares_pairwise q left rising
  List.Pairwise.forall_of_forall_of_flip (fun _ _ _ => le_rfl) (ordered.imp fun h _ => h.2)
    (ordered.imp fun h h' => absurd h' h.1.not_ge)

/-- Each address of a rising group is given its share. -/
theorem shareOf_shares {q left : Nat} {g : List (Nat × Nat)} (rising : g.Pairwise fun m n => m.1 < n.1) :
    ∀ m ∈ shares q left g, shareOf ((shares q left g).map fun m => (m.1, m.2.2)) m.1 = m.2.2 := fun m hm => by
  refine shareOf_mem ?_ (List.mem_map_of_mem (f := fun m : Nat × Nat × Nat => (m.1, m.2.2)) hm)
  rw [List.map_map]
  exact List.pairwise_map.2 ((shares_pairwise q left rising).imp fun h => h.1.ne)

/-- R48: the setpoints `f` divide an amount over a group of addresses with their headrooms. The floor is what a round
hands to the next: its quotient does not fall. -/
structure FillsEvenly (amount : Nat) (group : List (Nat × Nat)) (f : Nat → Nat) : Prop where
  sum : (group.map fun m => f m.1).sum = min amount (group.map Prod.snd).sum
  le : ∀ m ∈ group, f m.1 ≤ m.2
  even : ∀ m ∈ group, ∀ n ∈ group, f m.1 < m.2 → f n.1 ≤ f m.1 + if n.1 < m.1 then 1 else 0
  floor : ∀ m ∈ group, f m.1 < m.2 → amount / group.length ≤ f m.1
  absent : ∀ a, a ∉ group.map Prod.fst → f a = 0

/-- An empty group ends the division (R48 step 5). -/
theorem fillsEvenly_nil (amount : Nat) : FillsEvenly amount [] (shareOf []) where
  sum := by simp
  le := by simp
  even := by simp
  floor := by simp
  absent := fun _ _ => rfl

/-- A round in which every share is within its headroom ends the division (R48 step 3). -/
theorem fillsEvenly_lastRound {amount : Nat} {group : List (Nat × Nat)} (hne : group ≠ [])
    (rising : group.Pairwise fun m n => m.1 < n.1) {sh : List (Nat × Nat × Nat)}
    (hsh : shares (amount / group.length) (amount % group.length) group = sh)
    (within : ∀ m ∈ sh, m.2.2 ≤ m.2.1) :
    FillsEvenly amount group (shareOf (sh.map fun m => (m.1, m.2.2))) := by
  have members : (sh.map fun m => (m.1, m.2.1)) = group := hsh ▸ shares_members ..
  have total : (sh.map fun m => m.2.2).sum = amount := by
    rw [← hsh, shares_sum _ (Nat.mod_lt _ (List.length_pos_iff.2 hne)).le, Nat.mul_comm, Nat.div_add_mod]
  have low : ∀ m ∈ sh, amount / group.length ≤ m.2.2 := fun m hm => (shares_bounds (hsh ▸ hm)).1
  have high : ∀ m ∈ sh, m.2.2 ≤ amount / group.length + 1 := fun m hm => shares_le_succ (hsh ▸ hm)
  have falling : ∀ m ∈ sh, ∀ n ∈ sh, m.1 ≤ n.1 → n.2.2 ≤ m.2.2 := hsh ▸ shares_falling rising
  have given : ∀ m ∈ sh, shareOf (sh.map fun m => (m.1, m.2.2)) m.1 = m.2.2 := hsh ▸ shareOf_shares rising
  have absent : ∀ a, a ∉ group.map Prod.fst → shareOf (sh.map fun m => (m.1, m.2.2)) a = 0 := fun a ha =>
    shareOf_absent (by simpa [← members] using ha)
  generalize shareOf (sh.map fun m => (m.1, m.2.2)) = f at given absent
  refine ⟨?sum, ?le, ?even, ?floor, absent⟩
  case sum =>
    have fits : amount ≤ (group.map Prod.snd).sum := by
      rw [← total, ← members, List.map_map]
      exact List.sum_le_sum within
    rw [min_eq_left fits, ← members, List.map_map]
    exact (congrArg List.sum (List.map_congr_left given)).trans total
  case le =>
    rw [← members, List.forall_mem_map]
    exact fun m hm => (given m hm).trans_le (within m hm)
  case even =>
    rw [← members]
    simp only [List.forall_mem_map]
    intro m hm n hn _
    rw [given m hm, given n hn]
    split_ifs with h
    · exact (high n hn).trans (Nat.succ_le_succ (low m hm))
    · exact falling m hm n hn (not_lt.1 h)
  case floor =>
    intro x hx _
    rw [← members] at hx
    obtain ⟨m, hm, rfl⟩ := List.mem_map.1 hx
    exact (low m hm).trans_eq (given m hm).symm

/-- A round that fills some members at or below its quotient leaves the others to the next (R48 step 4). -/
theorem fillsEvenly_nextRound {amount : Nat} {group full rest r : List (Nat × Nat)}
    (parts : (full ++ rest).Perm group) (distinct : (group.map Prod.fst).Nodup)
    (filled : ∀ m ∈ full, m.2 ≤ amount / group.length)
    (next : FillsEvenly (amount - (full.map Prod.snd).sum) rest (shareOf r)) :
    FillsEvenly amount group (shareOf (full ++ r)) := by
  have distinct' : (full.map Prod.fst ++ rest.map Prod.fst).Nodup := by
    rw [← List.map_append]
    exact (parts.map Prod.fst).nodup_iff.2 distinct
  obtain ⟨distinctFull, -, apart⟩ := List.nodup_append'.1 distinct'
  have atFull : ∀ m ∈ full, shareOf (full ++ r) m.1 = m.2 := fun m hm => by
    rw [shareOf_append_left (List.mem_map_of_mem hm), shareOf_mem distinctFull hm]
  have atRest : ∀ m ∈ rest, shareOf (full ++ r) m.1 = shareOf r m.1 := fun m hm =>
    shareOf_append_right fun h => apart h (List.mem_map_of_mem hm)
  have absent : ∀ a, a ∉ group.map Prod.fst → shareOf (full ++ r) a = 0 := fun a ha => by
    rw [← (parts.map Prod.fst).mem_iff, List.map_append, List.mem_append, not_or] at ha
    rw [shareOf_append_right ha.1, next.absent a ha.2]
  generalize shareOf (full ++ r) = f at atFull atRest absent
  have size : full.length + rest.length = group.length := by rw [← parts.length_eq, List.length_append]
  have spent : (full.map Prod.snd).sum ≤ full.length * (amount / group.length) := by
    simpa using List.sum_le_card_nsmul (full.map Prod.snd) (amount / group.length) (List.forall_mem_map.2 filled)
  have whole : full.length * (amount / group.length) + rest.length * (amount / group.length) ≤ amount := by
    rw [← Nat.add_mul, size]
    exact Nat.mul_div_le _ _
  have member : ∀ m ∈ group, m ∈ full ∨ m ∈ rest := fun m hm => List.mem_append.1 (parts.mem_iff.2 hm)
  have unfilled : ∀ m ∈ group, f m.1 < m.2 → m ∈ rest := fun m hm below =>
    (member m hm).resolve_left fun hf => below.ne (atFull m hf)
  have floor : ∀ m ∈ group, f m.1 < m.2 → amount / group.length ≤ f m.1 := fun m hm below => by
    have hr := unfilled m hm below
    rw [atRest m hr] at below ⊢
    refine le_trans ?_ (next.floor m hr below)
    rw [Nat.le_div_iff_mul_le (List.length_pos_of_mem hr), Nat.mul_comm]
    omega
  refine ⟨?sum, fun m hm => ?le, fun m hm n hn below => ?even, floor, absent⟩
  case sum =>
    rw [← (parts.map fun m => f m.1).sum_eq, ← (parts.map Prod.snd).sum_eq]
    simp only [List.map_append, List.sum_append]
    rw [List.map_congr_left atFull, List.map_congr_left atRest, next.sum]
    omega
  case le =>
    rcases member m hm with hm | hm
    · exact (atFull m hm).le
    · exact (atRest m hm).trans_le (next.le m hm)
  case even =>
    rcases member n hn with hf | hr
    · rw [atFull n hf]
      exact ((filled n hf).trans (floor m hm below)).trans (Nat.le_add_right _ _)
    · have hm' := unfilled m hm below
      rw [atRest m hm'] at below ⊢
      rw [atRest n hr]
      exact next.even m hm' n hr below

/-- R48: as many rounds as the group has members divide any amount evenly over it. -/
theorem splitRounds_fillsEvenly {fuel amount : Nat} {group : List (Nat × Nat)} (enough : group.length ≤ fuel)
    (rising : group.Pairwise fun m n => m.1 < n.1) :
    FillsEvenly amount group (shareOf (splitRounds fuel amount group)) := by
  induction fuel generalizing amount group with
  | zero =>
    obtain rfl := List.length_eq_zero_iff.1 (Nat.le_zero.1 enough)
    exact fillsEvenly_nil amount
  | succ fuel ih =>
    rcases eq_or_ne group [] with rfl | hne
    · exact fillsEvenly_nil amount
    rw [splitRounds, if_neg (by simpa using hne)]
    generalize hsh : shares (amount / group.length) (amount % group.length) group = sh
    dsimp only
    split_ifs with within
    · exact fillsEvenly_lastRound hne rising hsh (by simpa using within)
    · have members : (sh.map fun m => (m.1, m.2.1)) = group := hsh ▸ shares_members ..
      have parts := (List.filter_append_perm (fun m : Nat × Nat × Nat => decide (m.2.1 < m.2.2)) sh).map
        fun m => (m.1, m.2.1)
      simp only [List.map_append, members, ← decide_not, not_lt] at parts
      refine fillsEvenly_nextRound parts (List.pairwise_map.2 (rising.imp ne_of_lt)) (List.forall_mem_map.2 ?filled)
        (ih ?enough ?rising)
      case filled =>
        intro m hm
        obtain ⟨hm, above⟩ := List.mem_filter.1 hm
        exact Nat.le_of_lt_succ ((of_decide_eq_true above).trans_le (shares_le_succ (hsh ▸ hm)))
      case enough =>
        obtain ⟨m, hm, above⟩ : ∃ m ∈ sh, m.2.1 < m.2.2 := by simpa using within
        have one : 0 < (sh.filter fun m => decide (m.2.1 < m.2.2)).length :=
          List.length_pos_of_mem (List.mem_filter.2 ⟨hm, decide_eq_true above⟩)
        have size := parts.length_eq
        simp only [List.length_append, List.length_map] at size ⊢
        omega
      case rising =>
        exact (members ▸ rising).sublist (List.filter_sublist.map _)

/-- The three charger rows of the input record by address (R36). -/
def BudgetInput.rows (i : BudgetInput) : List (Nat × ChargerRow) := [(1, i.row1), (2, i.row2), (3, i.row3)]

/-- What a charger may be given: its headroom when it is eligible, else nothing (R48). -/
def ChargerRow.room (r : ChargerRow) : Nat := if r.eligible then r.headroom else 0

/-- The split's members are the eligible rows with their headrooms. -/
theorem BudgetInput.mem_eligible {i : BudgetInput} {m : Nat × Nat} :
    m ∈ i.eligible ↔ ∃ r, (m.1, r) ∈ i.rows ∧ r.eligible = true ∧ r.headroom = m.2 := by
  show m ∈ (i.rows.filter fun p => p.2.eligible).map (fun p => (p.1, p.2.headroom)) ↔ _
  constructor
  · intro h
    obtain ⟨⟨a, r⟩, hr, rfl⟩ := List.mem_map.1 h
    obtain ⟨hr, he⟩ := List.mem_filter.1 hr
    exact ⟨r, hr, he, rfl⟩
  · rintro ⟨r, hr, he, hh⟩
    exact List.mem_map.2 ⟨_, List.mem_filter.2 ⟨hr, he⟩, Prod.ext rfl hh⟩

/-- An address has one row. -/
theorem BudgetInput.rows_unique {i : BudgetInput} {a : Nat} {r r' : ChargerRow} (h : (a, r) ∈ i.rows)
    (h' : (a, r') ∈ i.rows) : r = r' := by
  simp only [BudgetInput.rows, List.mem_cons, Prod.mk.injEq, List.not_mem_nil, or_false] at h h'
  rcases h with ⟨rfl, rfl⟩ | ⟨rfl, rfl⟩ | ⟨rfl, rfl⟩ <;> exact Eq.symm (by simpa using h')

/-- A sum over the eligible chargers is a sum over the rows. -/
theorem BudgetInput.eligible_sum (i : BudgetInput) (g : Nat × Nat → Nat) :
    (i.eligible.map g).sum = (i.rows.map fun p => if p.2.eligible then g (p.1, p.2.headroom) else 0).sum := by
  rw [List.sum_map_ite]
  simp [BudgetInput.eligible, BudgetInput.rows, Function.comp_def]

theorem BudgetInput.eligible_rising (i : BudgetInput) : i.eligible.Pairwise fun m n => m.1 < n.1 := by
  have rows : i.rows.Pairwise fun m n => m.1 < n.1 := by simp [BudgetInput.rows]
  exact List.pairwise_map.2 (rows.filter _)

theorem BudgetInput.eligible_length (i : BudgetInput) : i.eligible.length ≤ 3 :=
  (List.length_map _).trans_le (List.length_filter_le _ i.rows)

/-- R48: the split of a charge target divides it evenly over the eligible chargers. -/
theorem split_fillsEvenly (i : BudgetInput) (charge : Nat) :
    FillsEvenly charge i.eligible (shareOf (split i charge)) :=
  splitRounds_fillsEvenly i.eligible_length i.eligible_rising

section
variable {i : BudgetInput} {charge : Nat} {f : Nat → Nat} (h : FillsEvenly charge i.eligible f) {a b : Nat}
  {r r' : ChargerRow}
include h

/-- A charger that is not eligible is given nothing. -/
theorem FillsEvenly.row_absent (hr : (a, r) ∈ i.rows) (he : r.eligible ≠ true) : f a = 0 := by
  refine h.absent a fun ha => ?_
  obtain ⟨m, hm, rfl⟩ := List.mem_map.1 ha
  obtain ⟨r', hr', he', -⟩ := BudgetInput.mem_eligible.1 hm
  exact he (BudgetInput.rows_unique hr hr' ▸ he')

/-- A row takes part with the room it has, or it has none and is given nothing. -/
theorem FillsEvenly.row_cases (hr : (a, r) ∈ i.rows) : (a, r.room) ∈ i.eligible ∨ r.room = 0 ∧ f a = 0 := by
  by_cases he : r.eligible = true
  · exact .inl (BudgetInput.mem_eligible.2 ⟨r, hr, he, (if_pos he).symm⟩)
  · exact .inr ⟨if_neg he, h.row_absent hr he⟩

/-- No charger is given more than its room. -/
theorem FillsEvenly.row_le (hr : (a, r) ∈ i.rows) : f a ≤ r.room := by
  rcases h.row_cases hr with hm | ⟨-, h0⟩
  · exact h.le _ hm
  · exact h0.trans_le (Nat.zero_le _)

/-- A charger below its room has no less than another, but for one watt at a lower address. -/
theorem FillsEvenly.row_even (hr : (a, r) ∈ i.rows) (hr' : (b, r') ∈ i.rows) (below : f a < r.room) :
    f b ≤ f a + if b < a then 1 else 0 := by
  rcases h.row_cases hr with hm | ⟨none, -⟩
  · rcases h.row_cases hr' with hn | ⟨-, h0⟩
    · exact h.even _ hm _ hn below
    · exact h0.trans_le (Nat.zero_le _)
  · omega

/-- The three setpoints together are the charge target, or all the room there is. -/
theorem FillsEvenly.row_sum : f 1 + f 2 + f 3 = min charge (i.row1.room + i.row2.room + i.row3.room) := by
  have given : (i.eligible.map fun m => f m.1).sum = (i.rows.map fun p => f p.1).sum := by
    rw [BudgetInput.eligible_sum]
    refine congrArg List.sum (List.map_congr_left fun p hp => ?_)
    split_ifs with he
    · rfl
    · exact (h.row_absent hp he).symm
  have total := h.sum
  rw [given, BudgetInput.eligible_sum] at total
  simpa [BudgetInput.rows, ChargerRow.room, Nat.add_assoc] using total

end

/-! ### The inlet current limit (R42) -/

theorem currentLimit_below {i : BudgetInput} {p : BudgetParams}
    (h : min (min i.offer i.cable) p.cap * i.derate / 1000 < 60) : currentLimit i p = 0 := if_pos h

theorem currentLimit_from {i : BudgetInput} {p : BudgetParams}
    (h : 60 ≤ min (min i.offer i.cable) p.cap * i.derate / 1000) :
    currentLimit i p = min (min i.offer i.cable) p.cap * i.derate / 1000 := if_neg h.not_gt

/-- The law of the inlet current limit: with a derate within its range it exceeds none of its three figures. -/
theorem currentLimit_le {i : BudgetInput} {p : BudgetParams} (h : i.derate ≤ 1000) :
    currentLimit i p ≤ min (min i.offer i.cable) p.cap := by
  rcases lt_or_ge (min (min i.offer i.cable) p.cap * i.derate / 1000) 60 with hx | hx
  · rw [currentLimit_below hx]
    exact Nat.zero_le _
  · rw [currentLimit_from hx]
    exact Nat.div_le_of_le_mul ((Nat.mul_le_mul_left _ h).trans_eq (Nat.mul_comm _ _))

/-- R42: an AC session's no-offer flag is the limit's being 0. -/
theorem noOfferFlag_ac {i : BudgetInput} (hm : i.mode = some .ac) (iLim : Nat) :
    noOfferFlag i iLim = true ↔ iLim = 0 := by
  simp [noOfferFlag, hm]

/-- R43: a DC session's inlet power is the station's. -/
theorem inletPower_dc {i : BudgetInput} (hm : i.mode = some .dc) (iLim : Nat) :
    inletPower i iLim = if i.sess = .active ∨ i.sess = .paused then i.stationPower i.vPack.1 else 0 := by
  simp [inletPower, hm]

/-! ### The voltages read (R31) -/

/-- V_min is the least of the phases present. -/
theorem lowest_spec {l : List Nat} (h : l ≠ []) : lowest l ∈ l ∧ ∀ v ∈ l, lowest l ≤ v := by
  match l with
  | [] => exact absurd rfl h
  | [v] => simp [lowest]
  | v :: w :: r =>
    obtain ⟨mem, least⟩ := lowest_spec (List.cons_ne_nil w r)
    refine ⟨?_, List.forall_mem_cons.2 ⟨min_le_left .., fun u hu => (min_le_right ..).trans (least u hu)⟩⟩
    rcases min_choice v (lowest (w :: r)) with hv | hr
    · exact List.mem_cons.2 (.inl hv)
    · exact List.mem_cons_of_mem v (by rwa [lowest, hr])

/-- The pack limits record is present and not stale (R32). -/
def PackLimits.Fresh (l : PackLimits) : Prop := l.present = true ∧ l.stale = false

section
variable {i : BudgetInput}

/-- A metered pack voltage above 0 is V_pack. -/
theorem vPack_meter {v : Nat} (h : i.packV = some v) (hv : 0 < v) : i.vPack = (some v, .meter) := by
  simp [BudgetInput.vPack, Option.filter, h, hv]

/-- Without a metered voltage the pack limits record decides. -/
theorem vPack_unmetered (h : i.packV = none ∨ i.packV = some 0) :
    i.vPack =
      if i.limits.present ∧ ¬ i.limits.stale ∧ 0 < i.limits.packV then (some i.limits.packV, .limits)
      else (none, .meter) := by
  rcases h with h | h <;> simp [BudgetInput.vPack, Option.filter, h]

theorem vPack_limits (h : i.packV = none ∨ i.packV = some 0) (hl : i.limits.Fresh ∧ 0 < i.limits.packV) :
    i.vPack = (some i.limits.packV, .limits) := by
  obtain ⟨⟨present, stale⟩, positive⟩ := hl
  simp [vPack_unmetered h, present, stale, positive]

theorem vPack_absent (h : i.packV = none ∨ i.packV = some 0) (hl : ¬ (i.limits.Fresh ∧ 0 < i.limits.packV)) :
    i.vPack = (none, .meter) :=
  (vPack_unmetered h).trans (if_neg fun ⟨present, stale, positive⟩ =>
    hl ⟨⟨present, Bool.eq_false_iff.2 stale⟩, positive⟩)

/-! ### The inlet power (R43) -/

/-- The station gives its power: the record is FRESH and its voltage reaches V_pack. -/
theorem stationPower_offered {v : Nat} (hf : i.stState = .fresh) (hv : i.vPack.1 = some v) (le : v ≤ i.stMaxV) :
    i.stationPower i.vPack.1 = min i.stMaxP (i.stMaxI * v / 100) := by
  simp [BudgetInput.stationPower, hf, hv, le]

/-- The station gives nothing. -/
theorem stationPower_withheld
    (h : i.stState ≠ .fresh ∨ i.vPack.1 = none ∨ ∃ v, i.vPack.1 = some v ∧ i.stMaxV < v) :
    i.stationPower i.vPack.1 = 0 := by
  cases hv : i.vPack.1 with
  | none => rfl
  | some v =>
    refine if_neg fun ⟨fresh, le⟩ => ?_
    rcases h with h | h | ⟨w, hw, low⟩
    · exact h fresh
    · exact Option.some_ne_none v (hv.symm.trans h)
    · obtain rfl := Option.some.inj (hv.symm.trans hw)
      exact low.not_ge le

/-- The station's power is within its current limit (R49). -/
theorem stationPower_le (i : BudgetInput) (v : Nat) : i.stationPower (some v) ≤ i.stMaxI * v / 100 := by
  simp only [BudgetInput.stationPower]
  split_ifs
  · exact min_le_right ..
  · exact Nat.zero_le _

theorem inletPower_notDrawing (h : ¬ (i.sess = .active ∨ i.sess = .paused)) (iLim : Nat) : inletPower i iLim = 0 :=
  if_neg h

theorem inletPower_ac (h : i.sess = .active ∨ i.sess = .paused) (hm : i.mode = some .ac) (iLim : Nat) :
    inletPower i iLim = i.presentPhases.length * lowest i.presentPhases * iLim / 100 := by
  simp [inletPower, h, hm]

theorem inletPower_dc_drawing (h : i.sess = .active ∨ i.sess = .paused) (hm : i.mode = some .dc) (iLim : Nat) :
    inletPower i iLim = i.stationPower i.vPack.1 :=
  (inletPower_dc hm iLim).trans (if_pos h)

/-- In a DC session the inlet power is never more than the station's. -/
theorem inletPower_dc_le (hm : i.mode = some .dc) (iLim : Nat) : inletPower i iLim ≤ i.stationPower i.vPack.1 := by
  rw [inletPower_dc hm]
  split_ifs
  · exact le_rfl
  · exact Nat.zero_le _

/-- A DC session's no-offer flag is the station's offering nothing. -/
theorem noOfferFlag_dc (hm : i.mode = some .dc) (iLim : Nat) :
    noOfferFlag i iLim = true ↔ i.stationPower i.vPack.1 = 0 := by
  simp [noOfferFlag, hm]

/-! ### The pack allowance (R45) -/

theorem packAllowance_fresh (h : i.limits.Fresh) (derate : Nat) :
    packAllowance i derate = i.vPack.1.getD 0 * i.limits.maxI * derate / 100000 :=
  if_pos ⟨h.1, by simp [h.2]⟩

theorem packAllowance_notFresh (h : ¬ i.limits.Fresh) (derate : Nat) : packAllowance i derate = 0 :=
  if_neg fun ⟨present, stale⟩ => h ⟨present, Bool.eq_false_iff.2 stale⟩

/-- Without fresh limits, a voltage, a current or a derate the pack is allowed nothing. -/
theorem packAllowance_none {derate : Nat}
    (h : ¬ i.limits.Fresh ∨ i.vPack.1 = none ∨ i.limits.maxI = 0 ∨ derate = 0) : packAllowance i derate = 0 := by
  by_cases hf : i.limits.Fresh
  · rw [packAllowance_fresh hf]
    rcases h.resolve_left (not_not.2 hf) with h | h | h <;> simp [h]
  · exact packAllowance_notFresh hf derate

/-! ### The heat grant (R46) -/

/-- Band gating, condition by condition. -/
theorem gated_iff (i : BudgetInput) (derate : Nat) :
    gated i derate = true ↔ i.gating = true ∧ i.preferred = false ∧ derate ≠ 0 := by
  simp [gated, and_assoc]

variable {p : BudgetParams} {avail pack derate : Nat}

/-- A grid that is not permitted, a gated band or no demand leaves no grant. -/
theorem heatGrant_refused
    (h : gridPermitted i.gridMode i.window = false ∨ gated i derate = true ∨ i.demands = false) :
    heatGrant i p avail pack derate = 0 :=
  if_pos (by simpa [or_assoc] using h)

/-- The rule's two rows of the grant, by the derate. -/
theorem heatGrant_given (hp : gridPermitted i.gridMode i.window = true) (hg : gated i derate = false)
    (hd : i.demands = true) :
    heatGrant i p avail pack derate =
      if derate = 0 then avail else min avail (max (avail * p.share / 1000) (avail - pack)) :=
  if_neg (by simp [hp, hg, hd])

/-- The grant is never more than the power available. -/
theorem heatGrant_le (i : BudgetInput) (p : BudgetParams) (avail pack derate : Nat) :
    heatGrant i p avail pack derate ≤ avail := by
  unfold heatGrant
  split_ifs
  · exact Nat.zero_le _
  · exact le_rfl
  · exact min_le_left ..

/-! ### The DC current request (R49) -/

theorem dcRequestOf_none (h : i.mode ≠ some .dc ∨ i.vPack.1 = none) (charge : Nat) : dcRequestOf i charge = 0 := by
  unfold dcRequestOf
  split
  next hm hv => rcases h with h | h <;> simp_all
  next => rfl

theorem dcRequestOf_dc {v : Nat} (hm : i.mode = some .dc) (hv : i.vPack.1 = some v) (charge : Nat) :
    dcRequestOf i charge = charge * 100 / v := by
  simp [dcRequestOf, hm, hv]

/-- The request of a charge target within the station's power is within the station's current. -/
theorem dcRequestOf_le {v charge : Nat} (hm : i.mode = some .dc) (hv : i.vPack.1 = some v)
    (h : charge ≤ i.stationPower i.vPack.1) : dcRequestOf i charge ≤ i.stMaxI := by
  have power : charge * 100 ≤ i.stMaxI * v :=
    (Nat.le_div_iff_mul_le (by decide)).1 ((hv ▸ h).trans (stationPower_le i v))
  rw [dcRequestOf_dc hm hv]
  exact Nat.div_le_of_le_mul (power.trans_eq (Nat.mul_comm _ _))

/-! ### The flags of the draw status (R50) -/

/-- An AC session that draws nothing though it is offered current. -/
def BudgetInput.Withdrawn (i : BudgetInput) (noOffer : Bool) (pInlet : Nat) : Prop :=
  i.mode = some .ac ∧ (i.sess = .active ∨ i.sess = .paused) ∧ pInlet = 0 ∧ noOffer = false

/-- R50: draw wanted, in the rule's two branches. -/
theorem wantsDraw_iff (i : BudgetInput) (noOffer : Bool) (pInlet pack charge grant derate : Nat) :
    wantsDraw i noOffer pInlet pack charge grant derate = true ↔
      (i.Withdrawn noOffer pInlet ∧
          (0 < pack ∨ (i.demands = true ∧ gridPermitted i.gridMode i.window = true ∧
            ¬ (i.gating = true ∧ i.preferred = false ∧ derate ≠ 0)))) ∨
        (¬ i.Withdrawn noOffer pInlet ∧ (0 < charge ∨ (0 < grant ∧ i.demands = true))) := by
  rw [← gated_iff, wantsDraw]
  split_ifs with h
  · have hw : i.Withdrawn noOffer pInlet := by simpa [BudgetInput.Withdrawn] using h
    simp [hw, and_assoc]
  · have hw : ¬ i.Withdrawn noOffer pInlet := by simpa [BudgetInput.Withdrawn] using h
    simp [hw]

/-- No charger takes part in the split. -/
theorem eligible_isEmpty (i : BudgetInput) :
    i.eligible.isEmpty = true ↔ i.row1.eligible = false ∧ i.row2.eligible = false ∧ i.row3.eligible = false := by
  simp [BudgetInput.eligible, List.filter_eq_nil_iff]

end

/-! ### One evaluation (R41, R51) -/

section
variable (i : BudgetInput) (p : BudgetParams) (table : List Point)

/-- The charge target is within the inlet power (R44, R47). -/
theorem evaluate_charge_le : (evaluate i p table).charge ≤ (evaluate i p table).pInlet := by
  have avail : (evaluate i p table).pAvail ≤ (evaluate i p table).pInlet := by
    show (if i.searchHold then 0 else (evaluate i p table).pInlet - p.aux) ≤ _
    split_ifs
    · exact Nat.zero_le _
    · exact Nat.sub_le _ _
  exact (min_le_left _ _).trans ((Nat.sub_le _ _).trans avail)

theorem evaluate_noDraw :
    let e := evaluate i p table
    e.noDraw = true ↔ e.drawWanted ≠ true ∧ e.noOffer = false ∧ i.searchHold = false := by
  simp [evaluate, and_assoc]

theorem evaluate_noStages :
    let e := evaluate i p table
    e.noStages = true ↔
      i.mode = some .ac ∧ 0 < e.charge ∧ i.row1.eligible = false ∧ i.row2.eligible = false ∧
        i.row3.eligible = false := by
  rw [← eligible_isEmpty]
  simp [evaluate, and_assoc]

/-- In ACTIVE what is formed is posted. -/
theorem evaluate_posts_active {i : BudgetInput} (h : i.sess = .active) :
    let e := evaluate i p table
    e.grantPosted = e.grant ∧ e.chargePosted = e.charge ∧ e.dcRequestPosted = e.dcRequest ∧
      e.posted 1 = e.set1 ∧ e.posted 2 = e.set2 ∧ e.posted 3 = e.set3 := by
  simp [evaluate, EvalRecord.posted, h]

/-- In every other state 0 is posted. -/
theorem evaluate_posts_other {i : BudgetInput} (h : i.sess ≠ .active) :
    let e := evaluate i p table
    e.grantPosted = 0 ∧ e.chargePosted = 0 ∧ e.dcRequestPosted = 0 ∧ ∀ a, e.posted a = 0 := by
  simp [evaluate, EvalRecord.posted, h]

end

/-- An AC session's setpoints are the split of its charge target. -/
theorem evaluate_sets_ac {i : BudgetInput} (hm : i.mode = some .ac) (p : BudgetParams) (table : List Point) :
    let e := evaluate i p table
    e.set1 = shareOf (split i e.charge) 1 ∧ e.set2 = shareOf (split i e.charge) 2 ∧
      e.set3 = shareOf (split i e.charge) 3 := by
  simp [evaluate, hm]

/-- No other session has setpoints. -/
theorem evaluate_sets_none {i : BudgetInput} (hm : i.mode ≠ some .ac) (p : BudgetParams) (table : List Point) :
    let e := evaluate i p table
    e.set1 = 0 ∧ e.set2 = 0 ∧ e.set3 = 0 := by
  simp [evaluate, hm, shareOf]

end Sys2Proof.Machine

namespace Sys2Proof.Proofs

open Machine

/-- Settles O32: what `derateFrom_spec` says of a table from its first point on, with the readings before it. -/
theorem derateReadFromTable : Obligations.DerateReadFromTable := by
  refine ⟨fun _ _ _ => rfl, by decide, ?_⟩
  rintro (_ | ⟨p, r⟩) hne rising bound
  · exact absurd rfl hne
  obtain ⟨le, point, last, between⟩ := derateFrom_spec p r rising bound
  have first : p.2 ≤ 1000 := bound p List.mem_cons_self
  refine ⟨?range, derateAt_none p r, fun t => derateAt_below p r, fun x hx => ?point, fun x hx t ht => ?last,
    fun pre a b post h t ha hb => ?between⟩
  case range =>
    rintro (_ | t)
    · exact first
    rcases lt_or_ge t p.1 with h | h
    · rwa [derateAt_below p r h]
    · rw [derateAt_from p r h]
      exact le t h
  case point => rw [derateAt_from p r (headPoint_le rising hx), point x hx]
  case last =>
    rw [derateAt_from p r ((headPoint_le rising (List.mem_of_getLast? hx)).trans ht), last x hx t ht]
  case between =>
    have mem : a ∈ p :: r := h ▸ List.mem_append_right _ List.mem_cons_self
    rw [derateAt_from p r ((headPoint_le rising mem).trans ha), between pre a b post h t ha hb]

/-- Settles O30: the limit's two cases and its law; a DC inlet power does not read the limit. -/
theorem inletCurrentLimit : Obligations.InletCurrentLimit := by
  intro i p table e x
  refine ⟨currentLimit_below, currentLimit_from, fun h => ?law, fun hm => noOfferFlag_ac hm _, fun hm o c d k => ?dc⟩
  case law =>
    obtain ⟨inputs, cap⟩ := le_min_iff.1 (currentLimit_le (p := p) h)
    obtain ⟨offer, cable⟩ := le_min_iff.1 inputs
    exact ⟨offer, cable, cap⟩
  case dc => exact (inletPower_dc hm _).trans (inletPower_dc hm _).symm

/-- Settles O33: the split of an AC session is an even filling of the eligible rows, and no other session splits. -/
theorem chargerSplitFillsEvenly : Obligations.ChargerSplitFillsEvenly := by
  intro i p table e head
  by_cases hm : i.mode = some .ac
  case pos =>
    have h := split_fillsEvenly i e.charge
    have row1 : (1, i.row1) ∈ i.rows := by simp [BudgetInput.rows]
    have row2 : (2, i.row2) ∈ i.rows := by simp [BudgetInput.rows]
    have row3 : (3, i.row3) ∈ i.rows := by simp [BudgetInput.rows]
    obtain ⟨set1, set2, set3⟩ := evaluate_sets_ac hm p table
    rw [set1, set2, set3]
    exact ⟨fun _ => h.row_sum, fun hn => absurd hm hn, h.row_le row1, h.row_le row2, h.row_le row3, fun _ =>
      ⟨fun below => ⟨h.row_even row1 row2 below, h.row_even row1 row3 below⟩,
        fun below => ⟨h.row_even row2 row1 below, h.row_even row2 row3 below⟩,
        fun below => ⟨h.row_even row3 row1 below, h.row_even row3 row2 below⟩⟩⟩
  case neg =>
    obtain ⟨set1, set2, set3⟩ := evaluate_sets_none hm p table
    rw [set1, set2, set3]
    exact ⟨fun h => absurd h hm, fun _ => ⟨rfl, rfl, rfl⟩, Nat.zero_le _, Nat.zero_le _, Nat.zero_le _,
      fun h => absurd h hm⟩

/-- Settles O31, figure by figure in the order of the chain. -/
theorem evaluationFigures : Obligations.EvaluationFigures := by
  intro i p table e fresh drawing declared present gates withdrawn wanted
  refine ⟨rfl, fun h => congrArg lowest h, lowest_spec, rfl, fun hm => ⟨fun hd => ?dcOffer, fun h => ?dcNothing⟩,
    ?noDraw, evaluate_noStages i p table, fun v h hv => ?meter,
    fun h => ⟨fun hl => ?limits, fun hl => ?absent⟩, fun hd hm => inletPower_ac hd hm _,
    fun v hd hm hf hv le => ?dcPower, fun h => ?noPower, rfl, packAllowance_none, fun v hf hv => ?pack,
    heatGrant_le .., fun h => heatGrant_refused ?refused, fun hp hd h0 => ?protect, fun hg hq h0 => ?gatedGrant,
    fun hp hd hq h0 => ?shared, rfl, fun h => dcRequestOf_none h _, fun v hm hv => ⟨dcRequestOf_dc hm hv _, ?dcLe⟩,
    evaluate_posts_active p table, evaluate_posts_other p table, ?allowance⟩
  case dcOffer =>
    rw [show e.pInlet = _ from inletPower_dc_drawing hd hm _]
    exact noOfferFlag_dc hm _
  case dcNothing => exact (noOfferFlag_dc hm _).2 (stationPower_withheld h)
  case noDraw => exact (evaluate_noDraw i p table).trans (and_congr_left fun _ => not_congr (wantsDraw_iff ..))
  case meter => exact ⟨congrArg Prod.fst (vPack_meter h hv), congrArg Prod.snd (vPack_meter h hv)⟩
  case limits => exact ⟨congrArg Prod.fst (vPack_limits h hl), congrArg Prod.snd (vPack_limits h hl)⟩
  case absent => exact congrArg Prod.fst (vPack_absent h hl)
  case dcPower => exact (inletPower_dc_drawing hd hm _).trans (stationPower_offered hf hv le)
  case noPower =>
    rcases h with h | ⟨hm, h⟩
    · exact inletPower_notDrawing h _
    · exact Nat.le_zero.1 ((inletPower_dc_le hm _).trans_eq (stationPower_withheld h))
  case pack =>
    have formed := packAllowance_fresh hf e.derate
    rwa [show i.vPack.1 = some v from hv] at formed
  case refused =>
    rcases h with h | h
    · exact .inr (.inr h)
    · exact .inl h
  case protect =>
    have ungated : gated i e.derate = false := by simp [gated, h0]
    exact (heatGrant_given hp ungated hd).trans (if_pos h0)
  case gatedGrant => exact heatGrant_refused (.inr (.inl ((gated_iff i _).2 ⟨hg, hq, h0⟩)))
  case shared =>
    have ungated : gated i e.derate = false := by
      rcases hq with hq | hq <;> simp [gated, hq]
    exact (heatGrant_given hp ungated hd).trans (if_neg h0)
  case dcLe => exact dcRequestOf_le hm hv ((evaluate_charge_le i p table).trans (inletPower_dc_le hm _))
  case allowance => simp [e, evaluate, heatAllowanceOf]

end Sys2Proof.Proofs
end

section
/-! The law of ranks and the law of heat states (R53, R55, R56, R65): what each change of the zone rows does to them. -/

-- One declaration at a time: each thread the elaborator opens takes its whole stack from the memory limit.
set_option Elab.async false

namespace Sys2Proof.Machine

open Safety

/-! ### The law of heat states -/

/-- The heat state a row gives depends on the state it held only by whether that was HEATING, so a zone that has its
state by its row has it still when worked again (R56, R57). -/
@[simp] theorem Zone.refresh_refresh (z : Zone) : z.refresh.refresh = z.refresh := by
  have rows : z.refresh.stateNow =
      if z.isolation ≠ .none then .isolated
      else if !z.configured || !z.enabled then .disabled
      else if z.failed then .failed
      else if z.stateNow == .heating && z.node == .active && z.temp.isSome then .heating
      else if { z with heat := HeatState.idle }.demands then .waiting
      else .idle := rfl
  have state : z.refresh.stateNow = z.stateNow := by
    rw [rows]
    unfold Zone.stateNow
    split_ifs <;> simp_all [Zone.keepsHeating]
  show ({ z.refresh with heat := z.refresh.stateNow, deficit := z.refresh.deficitNow } : Zone) = z.refresh
  rw [state]
  rfl

/-- Rows worked again meet the law of heat states. -/
theorem zones_refresh (zs : List Zone) : ∀ z ∈ zs.map Zone.refresh, z.refresh = z := by
  simp

/-! ### The law of ranks -/

/-- The law of ranks of a zone table. -/
def Ranked (zs : List Zone) : Prop :=
  ((zs.filter Zone.configured).map Zone.rank).Perm ((List.range (zs.filter Zone.configured).length).map some) ∧
    ∀ z ∈ zs, z.configured = false → z.rank = none

theorem rankLaw_iff (s : State) : rankLaw s ↔ Ranked s.heating.zones := Iff.rfl

/-- The law of ranks reads each row's rank and whether it is configured, and nothing else. -/
theorem Ranked.congr {zs us : List Zone} (h : Ranked zs)
    (e : us.map (fun z => (z.configured, z.rank)) = zs.map fun z => (z.configured, z.rank)) : Ranked us := by
  have ranks : ∀ l : List Zone, (l.filter Zone.configured).map Zone.rank =
      ((l.map fun z => (z.configured, z.rank)).filter Prod.fst).map Prod.snd := fun l => by
    simp [List.filter_map, Function.comp_def]
  have len : ∀ l : List Zone, (l.filter Zone.configured).length =
      ((l.map fun z => (z.configured, z.rank)).filter Prod.fst).length := fun l => by
    simp [List.filter_map, Function.comp_def]
  obtain ⟨perm, free⟩ := h
  refine ⟨by rwa [ranks, len, e, ← ranks, ← len], fun z hz hc => ?_⟩
  have hm : (z.configured, z.rank) ∈ zs.map fun z => (z.configured, z.rank) := e ▸ List.mem_map_of_mem hz
  obtain ⟨y, hy, hyz⟩ := List.mem_map.1 hm
  simp only [Prod.mk.injEq] at hyz
  rw [← hyz.2]
  exact free y hy (hyz.1.trans hc)

/-- A change of every row that leaves its rank and whether it is configured. -/
theorem Ranked.map {zs : List Zone} (h : Ranked zs) {f : Zone → Zone}
    (hf : ∀ z, (f z).configured = z.configured ∧ (f z).rank = z.rank) : Ranked (zs.map f) :=
  h.congr (by simp [hf])

/-- A change of one row that leaves its rank and whether it is configured. -/
theorem Ranked.modify {zs : List Zone} (h : Ranked zs) (i : Nat) {f : Zone → Zone}
    (hf : ∀ z, (f z).configured = z.configured ∧ (f z).rank = z.rank) : Ranked (zs.modify i f) := by
  refine h.congr (List.ext_getElem? fun j => ?_)
  simp only [List.getElem?_map, List.getElem?_modify]
  split <;> cases zs[j]? <;> simp [hf]

/-- The rank a zone has after another of rank `w` gave up its own (R53). -/
def loweredRank (w r : Nat) : Nat := if w < r then r - 1 else r

/-- Ranks with one of them given up are ranks of one zone less (R53). -/
theorem ranks_given_up {w n : Nat} {l : List (Option Nat)} (h : (some w :: l).Perm ((List.range (n + 1)).map some)) :
    (l.map (Option.map (loweredRank w))).Perm ((List.range n).map some) := by
  have hw : w < n + 1 := by
    have : some w ∈ (List.range (n + 1)).map some := h.subset (List.mem_cons_self ..)
    simpa using this
  have raised : (some w :: ((List.range n).map fun r => if r < w then r else r + 1).map some).Perm
      ((List.range (n + 1)).map some) := by
    have hne : w ∉ (List.range n).map fun r => if r < w then r else r + 1 := by
      simp only [List.mem_map, not_exists, not_and]
      intro r _
      split <;> omega
    have hinj : ((List.range n).map fun r => if r < w then r else r + 1).Nodup := by
      refine List.Nodup.map_on (fun a _ b _ hab => ?_) List.nodup_range
      split at hab <;> split at hab <;> omega
    have sub : (w :: (List.range n).map fun r => if r < w then r else r + 1).Subperm (List.range (n + 1)) := by
      refine List.subperm_of_subset (List.nodup_cons.2 ⟨hne, hinj⟩) fun x hx => ?_
      simp only [List.mem_cons, List.mem_map, List.mem_range] at hx ⊢
      rcases hx with rfl | ⟨r, hr, rfl⟩
      · exact hw
      · split <;> omega
    exact (sub.perm_of_length_le (by simp)).map some
  have tails := (h.trans raised.symm).cons_inv
  refine (tails.map (Option.map (loweredRank w))).trans (.of_eq ?_)
  simp only [List.map_map]
  refine List.map_congr_left fun r _ => ?_
  simp only [Function.comp_apply, Option.map_some, loweredRank, Option.some.injEq]
  split <;> split <;> omega

/-- Ranks raised by one make room for a zone of rank 0 (R53). -/
theorem ranks_taken_up {n : Nat} {l : List (Option Nat)} (h : l.Perm ((List.range n).map some)) :
    (some 0 :: l.map (Option.map (· + 1))).Perm ((List.range (n + 1)).map some) := by
  rw [List.range_succ_eq_map]
  simp only [List.map_cons, List.map_map]
  refine List.Perm.cons _ ((h.map _).trans (.of_eq ?_))
  simp [Function.comp_def]

/-- The configured zones' ranks of a table with the row at `i` set apart. -/
theorem ranks_split {zs : List Zone} {i : Nat} {z : Zone} (hz : zs[i]? = some z) :
    (zs.filter Zone.configured).map Zone.rank =
      ((zs.take i).filter Zone.configured).map Zone.rank ++ ([z].filter Zone.configured).map Zone.rank ++
        ((zs.drop (i + 1)).filter Zone.configured).map Zone.rank := by
  obtain ⟨hi, rfl⟩ := List.getElem?_eq_some_iff.1 hz
  have apart : zs = zs.take i ++ [zs[i]] ++ zs.drop (i + 1) := by simp
  rw [← List.map_append, ← List.map_append, ← List.filter_append, ← List.filter_append, ← apart]

/-- A row with its rank moved by `g`. -/
def Zone.moveRank (g : Nat → Nat) (z : Zone) : Zone := { z with rank := z.rank.map g }

@[simp] theorem Zone.moveRank_configured (g : Nat → Nat) (z : Zone) : (z.moveRank g).configured = z.configured := rfl
@[simp] theorem Zone.moveRank_rank (g : Nat → Nat) (z : Zone) : (z.moveRank g).rank = z.rank.map g := rfl

/-- The configured zones' ranks of a table whose ranks are moved are their ranks moved. -/
theorem ranks_moveRank (g : Nat → Nat) (l : List Zone) :
    ((l.map (Zone.moveRank g)).filter Zone.configured).map Zone.rank =
      ((l.filter Zone.configured).map Zone.rank).map (Option.map g) := by
  simp [List.filter_map, Function.comp_def]

/-- Every rank moved by `g`, and the row at `i` changed by `f` as well. -/
def rankEach (i : Nat) (g : Nat → Nat) (f : Zone → Zone) (zs : List Zone) : List Zone :=
  (zs.map (Zone.moveRank g)).modify i f

/-- The ranks beside `i` are moved alone. -/
theorem ranks_rankEach {zs : List Zone} {i : Nat} {z : Zone} (hz : zs[i]? = some z) (g : Nat → Nat) (f : Zone → Zone) :
    ((rankEach i g f zs).filter Zone.configured).map Zone.rank =
      (((zs.take i).filter Zone.configured).map Zone.rank).map (Option.map g) ++
        ([f (z.moveRank g)].filter Zone.configured).map Zone.rank ++
        (((zs.drop (i + 1)).filter Zone.configured).map Zone.rank).map (Option.map g) := by
  have row : (rankEach i g f zs)[i]? = some (f (z.moveRank g)) := by simp [rankEach, hz]
  have before : (rankEach i g f zs).take i = (zs.take i).map (Zone.moveRank g) := by
    rw [rankEach, List.take_modify, List.modify_eq_self (by simp), List.map_take]
  have after : (rankEach i g f zs).drop (i + 1) = (zs.drop (i + 1)).map (Zone.moveRank g) := by
    rw [rankEach, List.drop_modify_of_lt _ _ _ _ (by omega), List.map_drop]
  rw [ranks_split row, before, after, ranks_moveRank, ranks_moveRank]

/-- The ranks of the configured zones beside row `i`. -/
def otherRanks (i : Nat) (zs : List Zone) : List (Option Nat) :=
  ((zs.take i).filter Zone.configured).map Zone.rank ++ ((zs.drop (i + 1)).filter Zone.configured).map Zone.rank

/-- The law of ranks from the ranks in any order. -/
theorem Ranked.of_perm {zs : List Zone} {l : List (Option Nat)} (h : ((zs.filter Zone.configured).map Zone.rank).Perm l)
    (hl : l.Perm ((List.range l.length).map some)) (free : ∀ z ∈ zs, z.configured = false → z.rank = none) :
    Ranked zs := by
  have len : (zs.filter Zone.configured).length = l.length := by simpa using h.length_eq
  exact ⟨len ▸ h.trans hl, free⟩

/-- A configured zone's rank is one of the ranks, and the others are the rest of them. -/
theorem Ranked.configured_row {zs : List Zone} (h : Ranked zs) {i : Nat} {z : Zone} (hz : zs[i]? = some z)
    (hc : z.configured = true) :
    ∃ w, z.rank = some w ∧
      (some w :: otherRanks i zs).Perm ((List.range ((otherRanks i zs).length + 1)).map some) := by
  have ranks := ranks_split hz
  simp only [List.filter_cons, hc, if_true, List.filter_nil, List.map_cons, List.map_nil] at ranks
  have first : ((zs.filter Zone.configured).map Zone.rank).Perm (z.rank :: otherRanks i zs) := by
    rw [ranks, List.append_assoc]
    exact List.perm_middle
  have all := first.symm.trans h.1
  have len : (zs.filter Zone.configured).length = (otherRanks i zs).length + 1 := by simpa using first.length_eq
  rw [len] at all
  obtain ⟨w, _, hw⟩ := List.mem_map.1 (all.subset (List.mem_cons_self ..))
  exact ⟨w, hw.symm, hw ▸ all⟩

/-- Beside a zone that is not configured stand all the ranks. -/
theorem Ranked.free_row {zs : List Zone} (h : Ranked zs) {i : Nat} {z : Zone} (hz : zs[i]? = some z)
    (hc : z.configured = false) : (otherRanks i zs).Perm ((List.range (otherRanks i zs).length).map some) := by
  have ranks := ranks_split hz
  simp only [List.filter_cons, hc, Bool.false_eq_true, if_false, List.filter_nil, List.map_nil, List.append_nil] at ranks
  have len : (zs.filter Zone.configured).length = (otherRanks i zs).length := by
    simpa [otherRanks] using congrArg List.length ranks
  have perm := h.1
  rwa [len, ranks] at perm

/-- The ranks after every other one was moved, with the row at `i` configured. -/
theorem ranks_rankEach_on {zs : List Zone} {i r : Nat} {z : Zone} (hz : zs[i]? = some z) (g : Nat → Nat)
    {f : Zone → Zone} (on : (f (z.moveRank g)).configured = true) (hr : (f (z.moveRank g)).rank = some r) :
    (((rankEach i g f zs).filter Zone.configured).map Zone.rank).Perm
      (some r :: (otherRanks i zs).map (Option.map g)) := by
  rw [ranks_rankEach hz, otherRanks, List.map_append, List.append_assoc]
  simp only [List.filter_cons, on, if_true, List.filter_nil, List.map_cons, List.map_nil, hr]
  exact List.perm_middle

/-- The ranks after every other one was moved, with the row at `i` not configured. -/
theorem ranks_rankEach_off {zs : List Zone} {i : Nat} {z : Zone} (hz : zs[i]? = some z) (g : Nat → Nat)
    {f : Zone → Zone} (off : (f (z.moveRank g)).configured = false) :
    ((rankEach i g f zs).filter Zone.configured).map Zone.rank = (otherRanks i zs).map (Option.map g) := by
  rw [ranks_rankEach hz, otherRanks, List.map_append]
  simp [off]

/-- No rank comes to a zone that is not configured. -/
theorem unranked_rankEach {zs : List Zone} (h : ∀ z ∈ zs, z.configured = false → z.rank = none) {i : Nat} {z : Zone}
    (hz : zs[i]? = some z) (g : Nat → Nat) {f : Zone → Zone}
    (hf : (f (z.moveRank g)).configured = false → (f (z.moveRank g)).rank = none) :
    ∀ x ∈ rankEach i g f zs, x.configured = false → x.rank = none := by
  intro x hx hc
  obtain ⟨j, hj⟩ := List.mem_iff_getElem?.1 hx
  simp only [rankEach, List.getElem?_modify, List.getElem?_map] at hj
  by_cases e : i = j
  · subst e
    simp only [hz, Option.map_some, Option.map_eq_map, if_true, Option.some.injEq] at hj
    subst hj
    exact hf hc
  · cases hy : zs[j]? with
    | none => simp [hy] at hj
    | some y =>
      simp only [hy, Option.map_some, Option.map_eq_map, e, if_false, Option.some.injEq] at hj
      subst hj
      simp [h y (List.mem_of_getElem? hy) hc]

/-- R53: a configured zone that ceases to be one gives up its rank. -/
theorem Ranked.unconfigure {zs : List Zone} (h : Ranked zs) {i : Nat} {z : Zone} (hz : zs[i]? = some z)
    (hc : z.configured = true) : Ranked (unconfigureZone i zs) := by
  obtain ⟨w, hw, perm⟩ := h.configured_row hz hc
  have same : unconfigureZone i zs =
      rankEach i (loweredRank w) (fun x => { x with configured := false, rank := none }) zs := by
    simp only [unconfigureZone, List.getD_eq_getElem?_getD, hz, Option.getD_some, hw]
    rfl
  rw [same]
  exact .of_perm (.of_eq (ranks_rankEach_off hz _ rfl)) (by simpa using ranks_given_up perm)
    (unranked_rankEach h.2 hz _ fun _ => rfl)

/-- R53: a zone that becomes configured takes rank 0. -/
theorem Ranked.configure {zs : List Zone} (h : Ranked zs) {i : Nat} {z : Zone} (hz : zs[i]? = some z)
    (hc : z.configured = false) : Ranked (configureZone i zs) :=
  .of_perm (ranks_rankEach_on hz (· + 1) (f := fun x => { x with configured := true, rank := some 0 }) rfl rfl)
    (by simpa using ranks_taken_up (h.free_row hz hc)) (unranked_rankEach h.2 hz _ fun hf => absurd hf (by simp))

/-- R65: the winner of a round takes rank 0, and those below it are raised: it gives up its rank and takes up the lowest. -/
theorem Ranked.rotate {zs : List Zone} (h : Ranked zs) {i : Nat} {z : Zone} (hz : zs[i]? = some z)
    (hc : z.configured = true) : Ranked (Machine.rotate i (z.rank.getD 0) zs) := by
  obtain ⟨w, hw, perm⟩ := h.configured_row hz hc
  have turned := ranks_rankEach_on hz (fun r => if r < w then r + 1 else r)
    (f := fun x => { x with rank := some 0 }) hc rfl
  have stepwise : (otherRanks i zs).map (Option.map fun r => if r < w then r + 1 else r) =
      ((otherRanks i zs).map (Option.map (loweredRank w))).map (Option.map (· + 1)) := by
    have apart : some w ∉ otherRanks i zs :=
      (List.nodup_cons.1 (perm.nodup_iff.2 (List.Nodup.map (Option.some_injective _) List.nodup_range))).1
    rw [List.map_map]
    refine List.map_congr_left fun x hx => ?_
    cases x with
    | none => rfl
    | some r =>
      have : r ≠ w := fun e => apart (e ▸ hx)
      simp only [Option.map_some, Function.comp_apply, loweredRank, Option.some.injEq]
      split <;> split <;> omega
  rw [stepwise] at turned
  rw [hw]
  exact .of_perm turned (by simpa using ranks_taken_up (ranks_given_up perm))
    (unranked_rankEach h.2 hz _ fun hf => absurd (hc.symm.trans hf) (by decide))

/-- R53, R114: the roster's kinds are taken one zone at a time. -/
theorem Ranked.configureZones {zs : List Zone} (h : Ranked zs) (ks : List NodeKind) (i : Nat) :
    Ranked (Machine.configureZones ks i zs) := by
  induction ks generalizing i zs with
  | nil => exact h
  | cons k ks ih =>
    unfold Machine.configureZones
    cases hz : zs[i]? with
    | none => exact h
    | some z =>
      refine ih ?_ (i + 1)
      split
      · exact h.configure hz (by simp_all)
      · split
        · exact h.unconfigure hz (by simp_all)
        · exact h

/-- R53: the ranks that a reset gives, in zone order. -/
theorem Ranked.rankInOrder (zs : List Zone) : Ranked (Machine.rankInOrder zs) := by
  have count : ∀ l : List Zone, ((Machine.rankInOrder l).filter Zone.configured).length =
      (l.filter Zone.configured).length := by
    intro l
    induction l with
    | nil => rfl
    | cons z l ih => cases hc : z.configured <;> simp [Machine.rankInOrder, hc, ih]
  induction zs with
  | nil => simp [Ranked, Machine.rankInOrder]
  | cons z zs ih =>
    obtain ⟨perm, free⟩ := ih
    cases hc : z.configured
    · refine ⟨by simpa [Machine.rankInOrder, List.filter_cons, hc] using perm, ?_⟩
      simpa [Machine.rankInOrder, hc] using free
    · refine ⟨?_, by simpa [Machine.rankInOrder, hc] using free⟩
      simp only [Machine.rankInOrder, List.filter_cons, hc, if_true, List.map_cons, List.length_cons, List.range_succ,
        List.map_append, List.map_nil, count]
      rw [count] at perm
      exact (perm.cons _).trans (List.perm_append_singleton ..).symm

/-! ### Rounds of shedding and of arbitration -/

/-- R67: shedding moves no rank. -/
theorem Ranked.shed {zs : List Zone} (h : Ranked zs) (fuel limit : Nat) : Ranked (Machine.shed fuel limit zs).1 := by
  induction fuel generalizing zs with
  | zero => exact h
  | succ n ih =>
    unfold Machine.shed
    split
    · exact h
    · split
      · exact h
      · exact ih (h.modify _ fun _ => ⟨rfl, rfl⟩)

/-- R65: the winner of a round is a candidate and stands at the index given. -/
theorem winner_spec {zs : List Zone} {remainder i j : Nat} {z : Zone} (h : winner zs remainder i = some (j, z)) :
    z.candidate remainder = true ∧ i ≤ j ∧ zs[j - i]? = some z := by
  induction zs generalizing i j z with
  | nil => simp [winner] at h
  | cons y ys ih =>
    unfold winner at h
    split at h
    · split at h
      · simp_all
      · simp at h
    · rename_i k b hb
      obtain ⟨cand, le, at_⟩ := ih hb
      split at h
      · simp_all
      · simp only [Option.some.injEq, Prod.mk.injEq] at h
        obtain ⟨rfl, rfl⟩ := h
        refine ⟨cand, by omega, ?_⟩
        rw [show k - i = (k - (i + 1)) + 1 by omega]
        simpa using at_

/-- R55, R65: a candidate is configured. -/
theorem Zone.candidate_configured {z : Zone} {remainder : Nat} (h : z.candidate remainder = true) :
    z.configured = true := by
  simp only [Zone.candidate, Zone.demands, Bool.and_eq_true] at h
  tauto

/-- R65: the rounds of an arbitration keep the ranks a permutation. -/
theorem Ranked.arbitrate {zs : List Zone} (h : Ranked zs) (fuel remainder : Nat) :
    Ranked (Machine.arbitrate fuel remainder zs).1 := by
  induction fuel generalizing zs remainder with
  | zero => exact h
  | succ n ih =>
    unfold Machine.arbitrate
    split
    · exact h
    · rename_i i z hw
      obtain ⟨cand, _, at_⟩ := winner_spec hw
      rw [Nat.sub_zero] at at_
      exact ih (Ranked.modify (f := fun x => { x with heat := .heating })
        (h.rotate at_ (Zone.candidate_configured cand)) i fun _ => ⟨rfl, rfl⟩) _

/-- R64 to R66: the allocation of a heat period. -/
theorem Ranked.allocate {x : Heating} (h : Ranked x.zones) : Ranked (Machine.allocate x).1.zones := by
  unfold Machine.allocate
  dsimp only
  split
  · exact h.map fun _ => ⟨rfl, rfl⟩
  · refine Ranked.arbitrate (Ranked.shed (h.map fun z => ?_) _ _) _ _
    split <;> exact ⟨rfl, rfl⟩

end Sys2Proof.Machine
end

section
/-! What every operation of the part keeps: the waiting commands and the time base, the bounds of the host link, and the
laws of the stage queues, of isolation, of the residues, of ranks and of heat states. One relation, `Kept`, holds all of
them; it composes, and each shared operation has one lemma that carries it on. -/

-- One declaration at a time: each thread the elaborator opens takes its whole stack from the memory limit.
set_option Elab.async false

namespace Sys2Proof.Machine

open Safety

/-- From `s` to `t` the laws are kept, and neither queue of the host link grows. -/
structure Kept (s t : State) : Prop where
  now : t.now = s.now
  pending : t.pending = s.pending
  requests : t.link.requests.length ≤ s.link.requests.length
  replies : t.link.replies.length ≤ s.link.replies.length
  notices : s.link.notices.Nodup → t.link.notices.Nodup
  queues : queueLaw s → queueLaw t
  isolation : isolationLaw s → isolationLaw t
  residues : residueLaw s → residueLaw t
  ranks : rankLaw s → rankLaw t
  zones : zoneLaw s → zoneLaw t

namespace Kept

variable {s t u : State}

theorem refl (s : State) : Kept s s :=
  ⟨rfl, rfl, le_rfl, le_rfl, id, id, id, id, id, id⟩

theorem trans (h : Kept s t) (k : Kept t u) : Kept s u where
  now := k.now.trans h.now
  pending := k.pending.trans h.pending
  requests := k.requests.trans h.requests
  replies := k.replies.trans h.replies
  notices := k.notices ∘ h.notices
  queues := k.queues ∘ h.queues
  isolation := k.isolation ∘ h.isolation
  residues := k.residues ∘ h.residues
  ranks := k.ranks ∘ h.ranks
  zones := k.zones ∘ h.zones

/-! ### Changes of one block -/

/-- A change that leaves the four blocks the laws are about keeps the laws. -/
theorem frame (h : Kept s t) {ps : List Piece} (f : onlyChanges ps t u) (heating : .heating ∉ ps := by decide)
    (stage : .stage ∉ ps := by decide) (meter : .meter ∉ ps := by decide) (link : .link ∉ ps := by decide) :
    Kept s u := by
  refine h.trans ⟨onlyChanges_now f, onlyChanges_pending f, ?_, ?_, ?_, ?_, ?_, ?_, ?_, ?_⟩
  · rw [onlyChanges_link f link]
  · rw [onlyChanges_link f link]
  · rw [onlyChanges_link f link]; exact id
  · rw [queueLaw, queueLaw, onlyChanges_stage f stage]; exact id
  · rw [isolationLaw, isolationLaw, onlyChanges_stage f stage]; exact id
  · rw [residueLaw, residueLaw, onlyChanges_meter f meter]; exact id
  · rw [rankLaw, rankLaw, onlyChanges_heating f heating]; exact id
  · rw [zoneLaw, zoneLaw, onlyChanges_heating f heating]; exact id

theorem onSession (h : Kept s t) (f : Session → Session) : Kept s (t.onSession f) := h.frame (t.onSession_frame f)
theorem onPins (h : Kept s t) (f : Pins → Pins) : Kept s (t.onPins f) := h.frame (t.onPins_frame f)
theorem onBudget (h : Kept s t) (f : Budget → Budget) : Kept s (t.onBudget f) := h.frame (t.onBudget_frame f)
theorem onIso (h : Kept s t) (f : Insulation → Insulation) : Kept s (t.onIso f) := h.frame (t.onIso_frame f)
theorem onBilling (h : Kept s t) (f : Billing → Billing) : Kept s (t.onBilling f) := h.frame (t.onBilling_frame f)
theorem onNv (h : Kept s t) (f : Nv → Nv) : Kept s (t.onNv f) := h.frame (t.onNv_frame f)
theorem onPower (h : Kept s t) (f : Power → Power) : Kept s (t.onPower f) := h.frame (t.onPower_frame f)
theorem postBudget (h : Kept s t) (p : BudgetPosting) : Kept s (t.postBudget p) := h.frame (t.postBudget_frame p)
theorem postHeat (h : Kept s t) (p : HeatPosting) : Kept s (t.postHeat p) := h.frame (t.postHeat_frame p)
theorem postIso (h : Kept s t) (v : Option Nat) : Kept s (t.postIso v) := h.frame (t.postIso_frame v)
theorem budgetIn (h : Kept s t) (l : List BudgetPosting) : Kept s { t with budgetIn := l } :=
  h.frame (ps := [.budgetIn]) (by simp [onlyChanges])
theorem heatIn (h : Kept s t) (l : List HeatPosting) : Kept s { t with heatIn := l } :=
  h.frame (ps := [.heatIn]) (by simp [onlyChanges])
theorem isoIn (h : Kept s t) (l : List (Option Nat)) : Kept s { t with isoIn := l } :=
  h.frame (ps := [.isoIn]) (by simp [onlyChanges])
theorem freeCount (h : Kept s t) (n : Nat) : Kept s { t with freeCount := n } :=
  h.frame (ps := [.freeCount]) (by simp [onlyChanges])

/-- A change of the heating controller that keeps the laws of its rows. -/
theorem onRows (h : Kept s t) (f : Heating → Heating) (ranks : rankLaw t → rankLaw (t.onHeating f))
    (zones : zoneLaw t → zoneLaw (t.onHeating f)) : Kept s (t.onHeating f) :=
  h.trans ⟨rfl, rfl, le_rfl, le_rfl, id, id, id, id, ranks, zones⟩

/-- A change of the heating controller that leaves its rows. -/
theorem onHeating (h : Kept s t) (f : Heating → Heating) (hf : ∀ x, (f x).zones = x.zones := by exact fun _ => rfl) :
    Kept s (t.onHeating f) :=
  h.onRows f (by rw [rankLaw_iff, rankLaw_iff, State.onHeating_heating, hf]; exact id)
    (by rw [zoneLaw, zoneLaw, State.onHeating_heating, hf]; exact id)

/-- A change of the stage link controller that keeps the laws of its queues and its rows. -/
theorem onNodes (h : Kept s t) (f : Stage → Stage) (queues : queueLaw t → queueLaw (t.onStage f))
    (isolation : isolationLaw t → isolationLaw (t.onStage f)) : Kept s (t.onStage f) :=
  h.trans ⟨rfl, rfl, le_rfl, le_rfl, id, queues, isolation, id, id, id⟩

/-- A change of the stage link controller that leaves its queues and its rows. -/
theorem onStage (h : Kept s t) (f : Stage → Stage)
    (hf : ∀ g, (f g).normal = g.normal ∧ (f g).urgent = g.urgent ∧ (f g).nodes = g.nodes := by
      exact fun _ => ⟨rfl, rfl, rfl⟩) : Kept s (t.onStage f) := by
  obtain ⟨normal, urgent, nodes⟩ := hf t.stage
  exact h.onNodes f (by rw [queueLaw, queueLaw, State.onStage_stage, normal, urgent]; exact id)
    (by rw [isolationLaw, isolationLaw, State.onStage_stage, nodes]; exact id)

/-- A change of the meter that keeps the law of its residues. -/
theorem onResidues (h : Kept s t) (f : Meter → Meter) (residues : residueLaw t → residueLaw (t.onMeter f)) :
    Kept s (t.onMeter f) :=
  h.trans ⟨rfl, rfl, le_rfl, le_rfl, id, id, id, residues, id, id⟩

/-- A change of the meter that leaves its residues. -/
theorem onMeter (h : Kept s t) (f : Meter → Meter)
    (hf : ∀ m, (f m).resGrid = m.resGrid ∧ (f m).resHeatGrid = m.resHeatGrid ∧ (f m).resHeatPack = m.resHeatPack ∧
      (f m).resPackNet = m.resPackNet := by exact fun _ => ⟨rfl, rfl, rfl, rfl⟩) : Kept s (t.onMeter f) := by
  obtain ⟨grid, heatGrid, heatPack, net⟩ := hf t.meter
  exact h.onResidues f (by
    rw [residueLaw, residueLaw, State.onMeter_meter, grid, heatGrid, heatPack, net]
    exact id)

/-- A change of the host link in which no queue grows. -/
theorem onPort (h : Kept s t) (f : Link → Link) (requests : (f t.link).requests.length ≤ t.link.requests.length)
    (replies : (f t.link).replies.length ≤ t.link.replies.length)
    (notices : t.link.notices.Nodup → (f t.link).notices.Nodup) : Kept s (t.onLink f) :=
  h.trans ⟨rfl, rfl, requests, replies, notices, id, id, id, id, id⟩

/-- A change of the host link that leaves its queues. -/
theorem onLink (h : Kept s t) (f : Link → Link)
    (hf : ∀ l, (f l).requests = l.requests ∧ (f l).replies = l.replies ∧ (f l).notices = l.notices := by
      exact fun _ => ⟨rfl, rfl, rfl⟩) : Kept s (t.onLink f) := by
  obtain ⟨requests, replies, notices⟩ := hf t.link
  exact h.onPort f (by rw [requests]) (by rw [replies]) (by rw [notices]; exact id)

/-- R190: a raise is at most one more notice of a kind not queued. -/
theorem raise (h : Kept s t) (k : NoticeKind) : Kept s (t.raise k) := by
  rw [State.raise_eq]
  exact h.trans ⟨rfl, rfl, le_rfl, le_rfl, withNotices_nodup _ _, id, id, id, id, id⟩

/-! ### Changes on a condition, and in a row -/

theorem ite {c : Prop} [Decidable c] {a b : State} (ha : Kept s a) (hb : Kept s b) : Kept s (if c then a else b) := by
  split
  · exact ha
  · exact hb

theorem doIf (h : Kept s t) {c : Bool} {f : State → State} (hf : ∀ u, Kept s u → Kept s (f u)) : Kept s (t.doIf c f) :=
  ite (hf t h) h

theorem foldl {α : Type} {f : State → α → State} (h : Kept s t) (hf : ∀ u a, Kept s u → Kept s (f u a)) (l : List α) :
    Kept s (l.foldl f t) := by
  induction l generalizing t with
  | nil => exact h
  | cons a l ih => exact ih (hf t a h)

/-! ### The node table and its queues -/

/-- A change of one row that keeps the law of isolation, by default one that leaves its setpoint and isolated flag. -/
theorem onNode (h : Kept s t) (a : Nat) (f : Node → Node)
    (hf : ∀ n, (n.isolated = true → n.commanded = 0) → (f n).isolated = true → (f n).commanded = 0 := by
      exact fun _ hn => hn) : Kept s (t.onNode a f) := by
  cases a with
  | zero => exact h
  | succ i =>
    refine h.onNodes (fun g => { g with nodes := g.nodes.modify i f }) (fun h => h) fun law n hn => ?_
    obtain ⟨j, hj⟩ := List.mem_iff_getElem?.1 hn
    simp only [State.onStage_stage, List.getElem?_modify] at hj
    obtain ⟨m, hm, rfl⟩ := Option.map_eq_some_iff.1 hj
    have held := law m (List.mem_of_getElem? hm)
    split
    · exact hf m held
    · exact held

theorem queueNormal (h : Kept s t) (c : StageCmd) (a : Nat) : Kept s (t.queueNormal c a) := by
  refine h.onNodes _ (fun law => ?_) fun law => ?_
  · by_cases hm : (⟨c, a⟩ : StageEntry) ∈ t.stage.normal
    · simpa [queueLaw, hm] using law
    · obtain ⟨normal, urgent⟩ := law
      simp only [queueLaw, State.onStage_stage, hm, if_false]
      exact ⟨List.nodup_append.2 ⟨normal, by simp, by simpa using fun e he => ne_of_mem_of_not_mem he hm⟩, urgent⟩
  · by_cases hm : (⟨c, a⟩ : StageEntry) ∈ t.stage.normal <;> simpa [isolationLaw, hm] using law

theorem queueUrgent (h : Kept s t) (c : StageCmd) (a : Nat) : Kept s (t.queueUrgent c a) := by
  refine ite (h.onNodes _ (fun law => ?_) fun law => ?_) h
  · obtain ⟨normal, urgent⟩ := law
    by_cases hm : (t.stage.urgent.any fun e => e.addr == a) = true
    · have addrs : (t.stage.urgent.map fun e => if e.addr = a then ⟨c, a⟩ else e).map StageEntry.addr =
          t.stage.urgent.map StageEntry.addr := by
        rw [List.map_map]
        refine List.map_congr_left fun e _ => ?_
        simp only [Function.comp_apply]
        split
        · exact Eq.symm ‹_›
        · rfl
      simp only [queueLaw, State.onStage_stage, hm, if_true, addrs]
      exact ⟨normal, urgent⟩
    · simp only [queueLaw, State.onStage_stage, hm]
      refine ⟨normal, ?_⟩
      simp only [Bool.false_eq_true, if_false, List.map_append, List.map_cons, List.map_nil]
      refine List.nodup_append.2 ⟨urgent, by simp, fun x hx y hy => ?_⟩
      simp only [List.mem_singleton] at hy
      obtain ⟨e, he, rfl⟩ := List.mem_map.1 hx
      exact fun heq => hm (List.any_eq_true.2 ⟨e, he, by simpa [hy] using heq⟩)
  · simp only [isolationLaw, State.onStage_stage]
    split <;> exact law

theorem compareSetpoint (h : Kept s t) (a : Nat) : Kept s (t.compareSetpoint a) := h.doIf fun _ hu => hu.queueNormal _ _

theorem writeSetpoint (h : Kept s t) (a w : Nat) : Kept s (t.writeSetpoint a w) :=
  (h.onNode a _ fun _ _ hi => if_pos hi).compareSetpoint a

theorem postCharger (h : Kept s t) (a : Nat) : Kept s (t.postCharger a) := h.doIf fun _ hu => hu.postBudget _

theorem queueNv (h : Kept s t) (c : NvContent) (b : Bool) : Kept s (t.queueNv c b) := by
  unfold State.queueNv
  cases c with
  | settings x => exact (h.onNv _).onPower _
  | totals x => exact (h.onNv _).onMeter _
  | tariff x => exact h.onNv _
  | slot i x => exact h.onNv _
  | isoMemory x => exact h.onNv _

/-! ### Billing and the meter's channel -/

theorem queueSlot (h : Kept s t) (i : Nat) (b : Bool) : Kept s (t.queueSlot i b) := h.queueNv _ b
theorem queueTariff (h : Kept s t) : Kept s t.queueTariff := h.queueNv _ _
theorem queueTotals (h : Kept s t) (b : Bool) : Kept s (t.queueTotals b) := h.queueNv _ b
theorem relocate (h : Kept s t) : Kept s t.relocate := h.frame t.relocate_frame
theorem openChannel (h : Kept s t) : Kept s t.openChannel := h.onMeter _
theorem moveMarks (h : Kept s t) : Kept s t.moveMarks := h.onMeter _

theorem pricingPoint (h : Kept s t) : Kept s t.pricingPoint := by
  unfold State.pricingPoint
  split
  · exact h
  · exact (h.onBilling _).moveMarks

theorem checkpoint (h : Kept s t) : Kept s t.checkpoint := by
  unfold State.checkpoint
  split
  · exact h
  · exact (((h.onBilling _).onBilling _).queueTotals _).queueSlot _ _

theorem swap (h : Kept s t) : Kept s t.swap := (((h.onBilling _).relocate).queueTariff).raise _

theorem withdrawCommit (h : Kept s t) : Kept s t.withdrawCommit := h.doIf fun _ hu => (hu.onBilling _).raise _

theorem bandBoundary (h : Kept s t) : Kept s t.bandBoundary :=
  ite (checkpoint (ite h.pricingPoint.swap h.pricingPoint.relocate)) h

theorem openRecord (h : Kept s t) (i : Nat) (m : Mode) (r : Option (List Byte)) : Kept s (t.openRecord i m r) :=
  (((h.onBilling _).onBilling _).openChannel.queueSlot i false).raise .record

theorem closeRecord (h : Kept s t) (c : StopCause) (b : Bool) : Kept s (t.closeRecord c b) := by
  unfold State.closeRecord
  split
  · exact h
  · have commit := ite (c := b = true) h.pricingPoint.withdrawCommit
      ((h.pricingPoint.queueTotals false).doIf (c := (t.pricingPoint.queueTotals false).billing.commitPending)
        fun _ hu => hu.swap)
    have closed := fun i f g => ((commit.onBilling fun x => { x with slots := x.slots.modify i f }).onMeter
      fun m => { m with channel := { m.channel with isOpen := false } }).onBilling g
    exact (ite (((closed _ _ _).queueSlot _ true).queueTotals true) ((closed _ _ _).queueSlot _ false)).raise .record

/-! ### The heating controller -/

theorem postHeatOn (h : Kept s t) (b : Bool) : Kept s (t.postHeatOn b) := ite ((h.onHeating _).postBudget _) h
theorem postDemands (h : Kept s t) : Kept s t.postDemands := ite ((h.onHeating _).postBudget _) h
theorem postMinTemp (h : Kept s t) : Kept s t.postMinTemp := ite ((h.onHeating _).postBudget _) h
theorem writeOffs (h : Kept s t) (old : List Zone) (off : List Nat) : Kept s (t.writeOffs old off) :=
  h.foldl (fun _ _ hu => hu.doIf fun _ hv => hv.writeSetpoint _ _) _
theorem writeOns (h : Kept s t) (on : List Nat) : Kept s (t.writeOns on) :=
  h.foldl (fun _ _ hu => hu.writeSetpoint _ _) _

/-- A step of the heating controller works the rows again, so the law of heat states holds after it. -/
theorem heatStep (h : Kept s t) (off on : List Nat) (ranked : Bool) (f : Heating → Heating)
    (hf : Ranked t.heating.zones → Ranked (f t.heating).zones) : Kept s (t.heatStep off on ranked f) := by
  have rows := h.onRows (fun x => { f x with zones := (f x).zones.map Zone.refresh })
    (fun law => (hf law).map fun _ => ⟨rfl, rfl⟩) fun _ => zones_refresh _
  have posted := fun b => ((((rows.writeOffs t.heating.zones off).writeOns on).postHeatOn b).postDemands).postMinTemp
  exact (posted _).doIf fun _ hu => hu.raise .heat

theorem zoneStep (h : Kept s t) (n : Nat) (f : Zone → Zone)
    (hf : ∀ z, (f z).configured = z.configured ∧ (f z).rank = z.rank) : Kept s (t.zoneStep n f) := by
  cases n with
  | zero => exact h
  | succ i => exact h.heatStep _ _ _ _ fun law => law.modify i hf

theorem atHeater (h : Kept s t) (a : Nat) {f : Nat → State → State} (hf : ∀ n, Kept s (f n t)) :
    Kept s (t.atHeater a f) := ite (hf _) h

theorem heatIsolate (h : Kept s t) (a : Nat) : Kept s (t.heatIsolate a) :=
  h.atHeater a fun _ => h.zoneStep _ _ fun _ => ⟨rfl, rfl⟩
theorem heatRelease (h : Kept s t) (a : Nat) : Kept s (t.heatRelease a) :=
  h.atHeater a fun _ => h.zoneStep _ _ fun _ => ⟨rfl, rfl⟩
theorem heatNodeState (h : Kept s t) (a : Nat) (st : NodeState) : Kept s (t.heatNodeState a st) :=
  h.atHeater a fun _ => h.zoneStep _ _ fun _ => by split <;> exact ⟨rfl, rfl⟩
theorem heatRollCall (h : Kept s t) (a : Nat) (st : NodeState) (r : Nat) : Kept s (t.heatRollCall a st r) :=
  h.atHeater a fun _ => h.zoneStep _ _ fun _ => by dsimp only; split <;> exact ⟨rfl, rfl⟩
theorem heatReply (h : Kept s t) (a : Nat) (temp : Option HalfDeg) (b c d : Bool) : Kept s (t.heatReply a temp b c d) := by
  unfold State.heatReply
  exact h.atHeater a fun _ => h.zoneStep _ _ fun _ => ⟨rfl, rfl⟩
theorem heatConfigure (h : Kept s t) (kinds : List NodeKind) : Kept s (t.heatConfigure kinds) :=
  h.heatStep _ _ _ _ fun law => law.configureZones _ _
theorem heatSession (h : Kept s t) (st : SessState) : Kept s (t.heatSession st) := h.onHeating _
theorem heatAllOff (h : Kept s t) : Kept s t.heatAllOff := h.heatStep _ _ _ _ fun law => law.map fun _ => ⟨rfl, rfl⟩
theorem evalWindow (h : Kept s t) : Kept s t.evalWindow := ite h (((h.onHeating _).raise _).postBudget _)

/-- A change of the rows that neither their ranks nor their heat states depend on. -/
theorem mapZones (h : Kept s t) (f : Heating → Heating) (g : Zone → Zone)
    (hf : (f t.heating).zones = t.heating.zones.map g)
    (hg : ∀ z, (g z).configured = z.configured ∧ (g z).rank = z.rank ∧ (z.refresh = z → (g z).refresh = g z)) :
    Kept s (t.onHeating f) := by
  refine h.onRows f (fun law => ?_) fun law z hz => ?_
  · rw [rankLaw_iff, State.onHeating_heating, hf]
    exact Ranked.map law fun z => ⟨(hg z).1, (hg z).2.1⟩
  · rw [State.onHeating_heating, hf] at hz
    obtain ⟨y, hy, rfl⟩ := List.mem_map.1 hz
    exact (hg y).2.2 (law y hy)

theorem clearOnTimes (h : Kept s t) : Kept s t.clearOnTimes :=
  h.mapZones _ (fun z => { z with onTime := 0 }) rfl fun _ =>
    ⟨rfl, rfl, fun hz => congrArg (fun y : Zone => ({ y with onTime := 0 } : Zone)) hz⟩

/-! ### The session -/

theorem applyLoad (h : Kept s t) : Kept s t.applyLoad := h.onPins _
theorem enter (h : Kept s t) (st : SessState) : Kept s (t.enter st) :=
  ((((h.onSession _).postBudget _).heatSession st).raise .session).applyLoad

theorem setCauses (h : Kept s t) (c : PauseSet) : Kept s (t.setCauses c) := by
  have set := (h.onSession fun x => { x with causes := c }).raise .session
  exact ite h (ite (set.enter _) (ite (set.enter _) set.applyLoad))

theorem isoChange (h : Kept s t) (f : Insulation → Insulation) : Kept s (t.isoChange f) :=
  ite (h.onIso f) ((((h.onIso f).setCauses _).postBudget _).raise _)
theorem tellDcOpen (h : Kept s t) : Kept s t.tellDcOpen := h.isoChange _

theorem unlockDone (h : Kept s t) : Kept s t.unlockDone :=
  ite (((h.onSession _).onPins _).enter _) (((h.onSession _).onPins _).enter _)
theorem goUnlocking (h : Kept s t) : Kept s t.goUnlocking := by
  have driven := ((h.enter .unlocking).onSession fun x =>
    { x with lock := .unlockTravel, lockTimer := some (t.enter .unlocking).now }).onPins
      fun p => { p with lockDrive := .towardReleased }
  exact ite driven driven.unlockDone
theorem goFaulted (h : Kept s t) (k : FaultKind) : Kept s (t.goFaulted k) := ((h.onSession _).onPins _).enter .faulted
theorem lockDone (h : Kept s t) : Kept s t.lockDone :=
  ite ((h.onSession _).onPins _).goUnlocking (((h.onSession _).onPins _).enter _)
theorem goLocking (h : Kept s t) : Kept s t.goLocking := by
  have driven := ((h.enter .locking).onSession fun x =>
    { x with lock := .lockTravel, lockTimer := some (t.enter .locking).now, stopPending := false
             lockingLost := false }).onPins fun p => { p with lockDrive := .towardEngaged }
  exact ite driven.lockDone driven

theorem commandOpen (h : Kept s t) : Kept s t.commandOpen := by
  unfold State.commandOpen
  exact (h.onSession _).onPins _
theorem settleContactors (h : Kept s t) : Kept s t.settleContactors := h.onSession _
theorem clearStation (h : Kept s t) : Kept s t.clearStation := ite ((h.onSession _).postBudget _) h

theorem afterStop (h : Kept s t) (b : Bool) : Kept s (t.afterStop b) := by
  unfold State.afterStop
  split
  · exact h.goFaulted _
  · split
    · exact h.goFaulted _
    · exact ite (h.enter _) (ite h.goUnlocking (h.enter _))

theorem stopEnd (h : Kept s t) (b : Bool) : Kept s (t.stopEnd b) := by
  have settled := (h.settleContactors.onSession fun x => { x with openTimer := none }).onPins
    fun p => { p with cpLoad := false }
  exact ((((settled.doIf fun _ hu => hu.tellDcOpen).closeRecord _ _).afterStop b).postBudget _).clearStation
theorem openingCheck (h : Kept s t) : Kept s t.openingCheck := h.doIf fun _ hu => hu.stopEnd false
theorem openContactors (h : Kept s t) : Kept s t.openContactors := h.commandOpen.openingCheck
theorem beginStop (h : Kept s t) (c : StopCause) : Kept s (t.beginStop c) :=
  ite ((h.onSession _).enter _).openContactors (((h.onSession _).enter _).onSession _)
theorem holdOpening (h : Kept s t) (b : Bool) : Kept s (t.holdOpening b) :=
  h.settleContactors.doIf fun _ hu => (hu.onSession _).doIf fun _ hv => hv.tellDcOpen

theorem takeStop (h : Kept s t) (c : StopCause) : Kept s (t.takeStop c) := by
  unfold State.takeStop
  cases t.session.st with
  | energising => exact h.beginStop c
  | active => exact h.beginStop c
  | paused => exact h.beginStop c
  | stopping => exact ite (ite (h.onSession _).openContactors (h.onSession _)) h
  | locking => exact h.doIf fun _ hu => hu.onSession _
  | authorising => exact h.doIf fun _ hu => hu.goUnlocking
  | finished => exact h.doIf fun _ hu => hu.goUnlocking
  | idle => exact h
  | connected => exact h
  | unlocking => exact h
  | faulted => exact h

theorem enterActive (h : Kept s t) : Kept s t.enterActive := (h.doIf fun _ hu => (hu.onSession _).raise _).enter _
theorem acClosedCheck (h : Kept s t) : Kept s t.acClosedCheck := h.doIf fun _ hu => (hu.onSession _).enterActive
theorem dcClosedCheck (h : Kept s t) : Kept s t.dcClosedCheck := h.doIf fun _ hu => ((hu.onSession _).onIso _).enterActive
theorem acVoltageCheck (h : Kept s t) : Kept s t.acVoltageCheck := h.doIf fun _ hu => ((hu.onSession _).onPins _).acClosedCheck
theorem rampCheck (h : Kept s t) : Kept s t.rampCheck := h.doIf fun _ hu => hu.openContactors
theorem connectedCheck (h : Kept s t) : Kept s t.connectedCheck := h.doIf fun _ hu => hu.goLocking
theorem plugArrival (h : Kept s t) : Kept s t.plugArrival := ite (h.enter _).connectedCheck h

theorem plugLoss (h : Kept s t) : Kept s t.plugLoss := by
  have cleared := h.clearStation
  unfold State.plugLoss
  dsimp only
  cases t.clearStation.session.st with
  | connected => exact cleared.enter _
  | finished => exact ite (cleared.takeStop _) (cleared.enter _)
  | stopping => exact (cleared.onSession _).takeStop _
  | unlocking => exact cleared.onSession _
  | faulted => exact cleared.onSession _
  | locking => exact cleared.takeStop _
  | authorising => exact cleared.takeStop _
  | energising => exact cleared.takeStop _
  | active => exact cleared.takeStop _
  | paused => exact cleared.takeStop _
  | idle => exact cleared

theorem takeTemperatures (h : Kept s t) : Kept s t.takeTemperatures := by
  have posted := fun c p => (h.onSession fun x => { x with temp1 := t.pins.sensor1, temp2 := t.pins.sensor2 }).doIf
    (c := c) fun _ hu => hu.postBudget p
  exact ((posted _ _).doIf fun _ hu => hu.raise .session).doIf fun _ hu => hu.takeStop .inletOverheat

theorem lockLost (h : Kept s t) : Kept s t.lockLost := by
  have lost := h.onSession fun x => { x with lock := .notEngaged, fault := some .lockFail }
  unfold State.lockLost
  dsimp only [State.onSession_session]
  cases t.session.st with
  | energising => exact (lost.raise _).takeStop _
  | active => exact (lost.raise _).takeStop _
  | paused => exact (lost.raise _).takeStop _
  | stopping => exact (lost.raise _).takeStop _
  | authorising => exact lost.goFaulted _
  | finished => exact lost.goFaulted _
  | idle => exact lost
  | connected => exact lost
  | locking => exact lost
  | unlocking => exact lost
  | faulted => exact lost

theorem lockCheck (h : Kept s t) : Kept s t.lockCheck := h.doIf fun _ hu => hu.lockLost
theorem holdProx (h : Kept s t) (c : PlugClass) : Kept s (t.holdProx c) :=
  ((h.onSession _).postBudget _).doIf fun _ hu => hu.raise _
theorem takeProx (h : Kept s t) (c : PlugClass) : Kept s (t.takeProx c) :=
  ite h (ite (h.holdProx c).plugArrival (ite (h.holdProx c).plugLoss (h.holdProx c)))
theorem holdPilot (h : Kept s t) (c : PilotClass) (d : Nat) : Kept s (t.holdPilot c d) :=
  ((h.onSession _).postBudget _).doIf fun _ hu => hu.raise _

theorem takePilot (h : Kept s t) (c : PilotClass) (d : Nat) : Kept s (t.takePilot c d) := by
  have held := h.holdPilot c d
  unfold State.takePilot
  dsimp only
  split
  · exact ite h held
  · cases c with
    | absent => exact held.takeStop _
    | steady => exact held.connectedCheck
    | offering => exact held.connectedCheck
    | error =>
      dsimp only
      split
      iterate 4 exact held.takeStop _
      all_goals exact held

theorem firstMove (h : Kept s t) : Kept s t.firstMove := by
  have locked := h.onSession fun x => { x with lock := if t.pins.lockFb then .engaged else .notEngaged }
  exact ite (ite (ite ((locked.enter _).takeStop _) (locked.enter _)) (locked.enter _).connectedCheck)
    (ite locked.goUnlocking locked)
theorem tryFollow (h : Kept s t) : Kept s t.tryFollow := h.doIf fun _ hu => (hu.onSession _).firstMove
theorem actOnProx (h : Kept s t) : Kept s t.actOnProx := ite (h.takeProx _) (ite (h.holdProx _).tryFollow h)
theorem actOnPilot (h : Kept s t) : Kept s t.actOnPilot := ite (h.takePilot _ _) (ite (h.holdPilot _ _).tryFollow h)
theorem actOnInputs (h : Kept s t) : Kept s t.actOnInputs := by
  have temps := h.takeTemperatures
  exact ite temps.lockCheck.actOnProx.actOnPilot
    ((temps.doIf fun _ hu => hu.holdProx _).doIf fun _ hu => hu.holdPilot _ _).tryFollow

end Kept

end Sys2Proof.Machine
end

section
/-! The laws are kept by the insulation monitor, the stage link controller, the budget unit and the meter. -/

-- One declaration at a time: each thread the elaborator opens takes its whole stack from the memory limit.
set_option Elab.async false

namespace Sys2Proof.Machine

open Safety

namespace Kept

variable {s t : State}

/-! ### The insulation monitor -/

theorem onSearch (h : Kept s t) (f : Search → Search) : Kept s (t.onSearch f) := h.onIso _
theorem markEntry (h : Kept s t) (m : Mark) : Kept s (t.markEntry m) := h.onSearch _
theorem queueIsolate (h : Kept s t) (a : Nat) : Kept s (t.queueIsolate a) :=
  h.doIf fun _ hu => (hu.queueUrgent _ _).heatIsolate _
theorem queueReconnect (h : Kept s t) (a : Nat) : Kept s (t.queueReconnect a) := (h.queueUrgent _ a).heatRelease a
theorem isolateNow (h : Kept s t) (a : Nat) : Kept s (t.isolateNow a) := (h.queueIsolate a).onSearch _
theorem beginTest (h : Kept s t) (a : Nat) : Kept s (t.beginTest a) := ite (h.onSearch _) ((h.onSearch _).isolateNow a)

theorem takeNotFound (h : Kept s t) : Kept s t.searchNotFound := (h.isoChange _).doIf fun _ hu => hu.takeStop _

theorem searchFrom (h : Kept s t) (l : List Nat) : Kept s (State.searchFrom l t) := by
  induction l generalizing t with
  | nil => exact h.takeNotFound
  | cons a l ih => exact ite (ih ((h.markEntry _).onSearch _)) (h.beginTest a)

theorem nextStep (h : Kept s t) : Kept s t.nextStep := (h.onSearch _).searchFrom _
theorem reconnectStep (h : Kept s t) (a : Nat) : Kept s (t.reconnectStep a) := (h.queueReconnect a).onSearch _
theorem beginSearch (h : Kept s t) (o : SearchOrigin) : Kept s (t.beginSearch o) := (h.isoChange _).searchFrom _

theorem dropBranch (h : Kept s t) : Kept s t.dropBranch := by
  unfold State.dropBranch
  split
  · exact h
  · exact h.doIf fun _ hu => hu.queueReconnect _

theorem abortSearch (h : Kept s t) (c : AbortCause) (f : Insulation → Insulation) : Kept s (t.abortSearch c f) :=
  h.dropBranch.isoChange _
theorem searchFound (h : Kept s t) (a : Nat) : Kept s (t.searchFound a) := by
  unfold State.searchFound
  exact ((h.markEntry _).isoChange _).queueNv _ _

theorem assessEffects (h : Kept s t) : Kept s t.assessEffects :=
  ite (h.takeStop _) (ite (ite (h.takeStop _) (h.beginSearch _)) h)

theorem gradeResult (h : Kept s t) (rd : Reading) (w : Working) : Kept s (t.gradeResult rd w) := by
  cases rd with
  | kOhm r => exact ite (h.onIso _) ((h.onIso _).isoChange _).assessEffects
  | invalid => exact ite (ite ((h.onIso _).isoChange _) (h.onIso _)) (ite ((h.onIso _).isoChange _) (h.onIso _))

theorem stepResult (h : Kept s t) (rd : Reading) (w : Working) : Kept s (t.stepResult rd w) := by
  unfold State.stepResult
  dsimp only
  split
  · exact h.onSearch _
  · exact h.onSearch _
  · exact ite ((h.onSearch _).searchFound _) (((h.onSearch _).markEntry _).reconnectStep _)
  · exact h

theorem searchResult (h : Kept s t) (rd : Reading) (w : Working) : Kept s (t.searchResult rd w) :=
  ite (ite (h.abortSearch _ _) ((h.abortSearch _ _).takeStop _)) (ite (h.stepResult _ _) h)

theorem injectionEnd (h : Kept s t) (a b c d : Int) : Kept s (t.injectionEnd a b c d) := by
  have begun := h.onIso fun x => { x with period := some t.now }
  have result := fun f => begun.onIso f
  exact ite ((ite ((result _).searchResult _ _) ((result _).gradeResult _ _)).onIso _) ((begun.onIso _).isoChange _)

theorem isoOff (h : Kept s t) : Kept s t.isoOff := ite h (ite (h.abortSearch _ _) (h.isoChange _))
theorem isoSupervise (h : Kept s t) : Kept s t.isoSupervise := ite (ite (h.isoChange _) h) h.isoOff

theorem stationFaultReport (h : Kept s t) : Kept s t.stationFaultReport := by
  unfold State.stationFaultReport
  refine ite h (takeStop ?_ _)
  cases t.iso.st with
  | searching => exact h.abortSearch _ _
  | listening => exact h.isoChange _
  | measuring => exact h.isoChange _
  | yielded => exact h.isoChange _
  | off => exact h.isoChange _

theorem stationFlags (h : Kept s t) (m f : Bool) : Kept s (t.stationFlags m f) :=
  ((h.onIso _).doIf fun _ hu => hu.isoChange _).doIf fun _ hu => hu.stationFaultReport

theorem listenRequest (h : Kept s t) : Kept s t.listenRequest := by
  have told := h.onIso fun x => { x with dcContext := true, dcClosed := false }
  unfold State.listenRequest
  dsimp only [State.onIso_iso]
  cases t.iso.st with
  | off => exact told
  | measuring => exact told.isoChange _
  | yielded => exact told.isoChange _
  | searching => exact told.abortSearch _ _
  | listening => exact told.isoChange _

theorem listenEnd (h : Kept s t) (a b : Int) : Kept s (t.listenEnd a b) := h.isoChange _
theorem isoJoin (h : Kept s t) (a : Nat) : Kept s (t.isoJoin a) := ite (h.queueIsolate a) (h.queueReconnect a)

theorem isoNodeLeft (h : Kept s t) (a : Nat) : Kept s (t.isoNodeLeft a) := by
  refine ite ?_ h
  cases t.iso.search.phase with
  | none => exact h
  | some p =>
    cases p with
    | reconnectWait => exact h.nextStep
    | setpointWait => exact (h.markEntry _).nextStep
    | isolateWait => exact (h.markEntry _).nextStep
    | results => exact (h.markEntry _).nextStep

theorem isoOutcome (h : Kept s t) (c : StageCmd) (a : Nat) (b : Bool) : Kept s (t.isoOutcome c a b) :=
  ite (ite (h.onSearch _) ((h.markEntry _).reconnectStep a)) h

theorem setpointWaitCheck (h : Kept s t) : Kept s t.setpointWaitCheck := by
  unfold State.setpointWaitCheck
  split
  · exact h
  · exact h.doIf fun _ hu => hu.isolateNow _

theorem isoReply (h : Kept s t) (a : Nat) (b : Bool) : Kept s (t.isoReply a b) := by
  refine ite (ite h (h.queueIsolate a)) (ite ?_ (ite (h.queueReconnect a) h))
  cases t.iso.search.phase with
  | none => exact h
  | some p =>
    cases p with
    | isolateWait => exact h.doIf fun _ hu => hu.onIso _
    | reconnectWait => exact ite h h.nextStep
    | setpointWait => exact h.setpointWaitCheck
    | results => exact h

theorem forget (h : Kept s t) (a : Nat) : Kept s (t.forget a) := (h.onIso _).queueReconnect a
theorem memoryChanged (h : Kept s t) (l : List Nat) : Kept s (t.memoryChanged l) :=
  h.doIf fun _ hu => (hu.queueNv _ _).raise _

theorem packVoltageEvent (h : Kept s t) : Kept s t.packVoltageEvent := by
  unfold State.packVoltageEvent
  split
  · exact h
  · exact ((h.isoIn _).onIso _).isoSupervise

theorem skipAndReconnect (h : Kept s t) : Kept s t.skipAndReconnect := by
  unfold State.skipAndReconnect
  split
  · exact h
  · exact ite ((h.markEntry _).reconnectStep _) (h.markEntry _).nextStep

/-! ### The stage link controller -/

/-- A change of the stage link controller that leaves out entries of its queues, and changes each row to one that meets
the law of isolation. -/
theorem onStage_sub (h : Kept s t) (f : Stage → Stage) (g : Node → Node)
    (normal : (f t.stage).normal.Sublist t.stage.normal) (urgent : (f t.stage).urgent.Sublist t.stage.urgent)
    (nodes : (f t.stage).nodes = t.stage.nodes.map g)
    (hg : ∀ n, (n.isolated = true → n.commanded = 0) → (g n).isolated = true → (g n).commanded = 0) :
    Kept s (t.onStage f) := by
  refine h.onNodes f (fun law => ⟨law.1.sublist normal, law.2.sublist (urgent.map _)⟩) fun law n hn => ?_
  rw [State.onStage_stage, nodes] at hn
  obtain ⟨m, hm, rfl⟩ := List.mem_map.1 hn
  exact hg m (law m hm)

/-- A change of the stage link controller that leaves out entries of its queues. -/
theorem onQueues_sub (h : Kept s t) (f : Stage → Stage) (normal : (f t.stage).normal.Sublist t.stage.normal)
    (urgent : (f t.stage).urgent.Sublist t.stage.urgent) (nodes : (f t.stage).nodes = t.stage.nodes) :
    Kept s (t.onStage f) :=
  h.onStage_sub f id normal urgent (by simpa using nodes) fun _ hn => hn

theorem dropEntries (h : Kept s t) (a : Nat) : Kept s (t.dropEntries a) :=
  h.onQueues_sub _ List.filter_sublist List.filter_sublist rfl
theorem rollCallFor (h : Kept s t) (l : List Nat) : Kept s (t.rollCallFor l) :=
  h.foldl (fun _ _ hu => hu.queueNormal _ _) l
theorem fullRollCall (h : Kept s t) : Kept s t.fullRollCall := h.rollCallFor _

theorem leaveActive (h : Kept s t) (a : Nat) (st : NodeState) : Kept s (t.leaveActive a st) :=
  (((((h.dropEntries a).onNode a _).heatNodeState a st).postCharger a).isoNodeLeft a).raise .stage

theorem join (h : Kept s t) (a r : Nat) : Kept s (t.join a r) := by
  have joined := h.onNode a (fun n =>
    { n with
      st := .active, rating := some r, headroom := 0, temp := none, faultA := false, faultB := false
      isolated := false, acked := none, replyStamp := none }) fun _ _ hi => absurd hi (by simp)
  have cleared := joined.onQueues_sub (fun g => { g with normal := g.normal.filter fun e => e != ⟨.rollCall, a⟩ })
    List.filter_sublist (List.Sublist.refl _) rfl
  have queued := ((((cleared.isoJoin a).heatRollCall a .active r).postCharger a).queueNormal .statusQuery a).queueNormal
    .setpoint a
  exact (queued.onNode a _).raise .stage

theorem mismatchReply (h : Kept s t) (a r : Nat) : Kept s (t.mismatchReply a r) :=
  ((h.onNode a _).heatRollCall a _ r).doIf fun _ hu => (hu.postCharger a).raise _

theorem judgeRollCall (h : Kept s t) (a : Nat) (l : List Byte) : Kept s (t.judgeRollCall a l) := by
  unfold State.judgeRollCall
  cases (t.node a).st with
  | absent => exact h
  | active => exact h
  | missing => exact ite (h.join a _) (h.mismatchReply a _)
  | lost => exact ite (h.join a _) (h.mismatchReply a _)
  | mismatch => exact ite (h.join a _) (h.mismatchReply a _)

theorem takeReply (h : Kept s t) (a : Nat) (l : List Byte) : Kept s (t.takeReply a l) := by
  unfold State.takeReply
  refine doIf (isoReply (heatReply (doIf (doIf (onNode h a _ fun n _ hi => ?_) fun _ hu => hu.compareSetpoint a)
    fun _ hu => hu.postCharger a) a _ _ _ _) a _) fun _ hu => hu.raise _
  exact if_pos hi

theorem statusReply (h : Kept s t) (a : Nat) (l : List Byte) : Kept s (t.statusReply a l) :=
  ite (h.takeReply a l) (h.leaveActive a _)
theorem failedNode (h : Kept s t) (a : Nat) : Kept s (t.failedNode a) :=
  h.doIf fun _ hu => (hu.onStage _).leaveActive a _
theorem acknowledge (h : Kept s t) (x : Transaction) : Kept s (t.acknowledge x) := by
  unfold State.acknowledge
  exact (h.onNode _ _).compareSetpoint _
theorem rejectedSetpoint (h : Kept s t) (x : Transaction) : Kept s (t.rejectedSetpoint x) :=
  h.doIf fun _ hu => hu.compareSetpoint _

theorem actFinal (h : Kept s t) (x : Transaction) (o : FinalOutcome) : Kept s (t.actFinal x o) := by
  unfold State.actFinal
  refine ite h ?_
  cases o with
  | failed => exact h.failedNode _
  | reject =>
    cases x.cmd with
    | rollCall => exact h
    | statusQuery => exact h
    | setpoint => exact h.doIf fun _ hu => hu.rejectedSetpoint x
    | isolate => exact h.doIf fun _ hu => hu.isoOutcome _ _ _
    | reconnect => exact h.doIf fun _ hu => hu.isoOutcome _ _ _
  | accept l =>
    cases x.cmd with
    | rollCall => exact h.judgeRollCall _ l
    | statusQuery => exact h.doIf fun _ hu => hu.statusReply _ l
    | setpoint => exact h.doIf fun _ hu => hu.acknowledge x
    | isolate => exact h.doIf fun _ hu => hu.isoOutcome _ _ _
    | reconnect => exact h.doIf fun _ hu => hu.isoOutcome _ _ _

theorem endTransaction (h : Kept s t) (x : Transaction) (o : FinalOutcome) : Kept s (t.endTransaction x o) :=
  (h.onStage _).actFinal x o
theorem retryOrFail (h : Kept s t) (x : Transaction) : Kept s (t.retryOrFail x) :=
  ite (h.onStage _) (h.endTransaction x _)

theorem attemptEnd (h : Kept s t) (x : Transaction) (o : AttemptOutcome) : Kept s (t.attemptEnd x o) := by
  have marked := h.onStage fun g => { g with errors := g.errors.mark o }
  refine ite (marked.onStage _) ?_
  cases o with
  | accept l => exact marked.endTransaction x _
  | reject => exact marked.endTransaction x _
  | retry => exact marked.retryOrFail x
  | checkError => exact marked.retryOrFail x
  | noResponse => exact marked.retryOrFail x
  | rxCheck => exact marked.retryOrFail x

theorem sendAttempt (h : Kept s t) (x : Transaction) : Kept s (t.sendAttempt x) := h.onStage _
theorem beginTransaction (h : Kept s t) (e : StageEntry) : Kept s (t.beginTransaction e) := h.sendAttempt _
theorem safeStopFirst (h : Kept s t) : Kept s t.safeStopFirst :=
  h.onStage_sub _ _ List.filter_sublist (List.Sublist.refl _) rfl fun _ hn => hn
theorem safeStopSecond (h : Kept s t) : Kept s t.safeStopSecond := h.onStage _

theorem nextWork (h : Kept s t) : Kept s t.nextWork := by
  refine ite (ite h.safeStopFirst (ite ?_ h)) h
  split
  · rename_i e rest hu
    exact (h.onQueues_sub _ (List.Sublist.refl _) (hu ▸ List.sublist_cons_self e rest) rfl).beginTransaction e
  · rename_i e rest _ hn
    exact (h.onQueues_sub _ (hn ▸ List.sublist_cons_self e rest) (List.Sublist.refl _) rfl).beginTransaction e
  · exact h

theorem safeStopRequest (h : Kept s t) : Kept s t.safeStopRequest := ite h (h.onStage _)

theorem rosterChange (h : Kept s t) (a : Nat) (k : NodeKind) : Kept s (t.rosterChange a k) := by
  have named := h.onNode a (fun n => { n with expected := k }) fun _ hn => hn
  refine ite (ite (named.leaveActive a _) ?_) ?_
  · exact ((((named.dropEntries a).onNode a _).heatNodeState a _).postCharger a).raise _
  · exact ((((named.onNode a _).queueNormal _ a).heatNodeState a _).postCharger a).raise _

theorem setRoster (h : Kept s t) (l : List NodeKind) : Kept s (t.setRoster l) :=
  ((((h.foldl (fun _ _ hu => hu.doIf fun _ hv => hv.rosterChange _ _) _).heatConfigure l).postCharger 1).postCharger
    2).postCharger 3

theorem stageStandby (h : Kept s t) : Kept s t.stageStandby := by
  unfold State.stageStandby
  have emptied := h.onStage_sub (fun g =>
    { g with
      urgent := [], normal := [], recallTimer := none, supplyOn := false, entryWait := false
      nodes := g.nodes.map fun n => { n with pollTimer := none, refreshTimer := none } })
    (fun n => { n with pollTimer := none, refreshTimer := none }) (List.nil_sublist _) (List.nil_sublist _) rfl
    fun _ hn => hn
  exact emptied.foldl (fun _ _ hu => hu.doIf fun _ hv => hv.leaveActive _ _) _

theorem stageReturn (h : Kept s t) : Kept s t.stageReturn := (h.onStage _).fullRollCall
theorem stageStart (h : Kept s t) : Kept s t.stageStart :=
  (((((h.onStage _).heatConfigure _).postCharger 1).postCharger 2).postCharger 3).fullRollCall

/-! ### The budget unit -/

theorem takeDraw (h : Kept s t) (e : EvalRecord) : Kept s (t.takeDraw e) :=
  ite ((h.onSession _).setCauses _) (h.onSession _)
theorem postOutputs (h : Kept s t) (e : EvalRecord) : Kept s (t.postOutputs e) := by
  unfold State.postOutputs
  exact (((((h.postHeat _).writeSetpoint 1 _).writeSetpoint 2 _).writeSetpoint 3 _).takeDraw e).setpointWaitCheck
theorem evalBudget (h : Kept s t) : Kept s t.evalBudget := by
  unfold State.evalBudget
  exact (h.onBudget _).postOutputs _
theorem changeInput (h : Kept s t) (f : BudgetInput → BudgetInput) : Kept s (t.changeInput f) :=
  (h.onBudget _).doIf fun _ hu => hu.evalBudget

/-! ### The meter -/

/-- R132, R133: the residues after a sample are remainders of a division by 36, or stand. -/
theorem integrate_residues (m : Meter) (src : HeatSource) (g p : Nat) (n : Int)
    (h : m.resHeatGrid ≤ 35 ∧ m.resHeatPack ≤ 35) :
    (m.integrate src g p n).resGrid ≤ 35 ∧ (m.integrate src g p n).resHeatGrid ≤ 35 ∧
      (m.integrate src g p n).resHeatPack ≤ 35 ∧ (m.integrate src g p n).resPackNet.natAbs ≤ 35 := by
  obtain ⟨hg, hp⟩ := h
  have rest : ∀ a b, (credit a b).2 ≤ 35 := fun a b => by
    simp only [credit]
    omega
  refine ⟨rest _ _, ?_, ?_, ?_⟩
  · simp only [Meter.integrate]
    split
    · exact rest _ _
    · exact hg
  · simp only [Meter.integrate]
    split
    · exact rest _ _
    · exact hp
  · simp only [Meter.integrate, creditNet, Int.natAbs_tmod]
    exact Nat.le_of_lt_succ (Nat.mod_lt _ (by decide))

theorem postPhases (h : Kept s t) (a b c : Nat) : Kept s (t.postPhases a b c) :=
  h.doIf fun _ hu => (hu.onMeter _).postBudget _
theorem postPack (h : Kept s t) (v : Option Nat) : Kept s (t.postPack v) :=
  h.doIf fun _ hu => ((hu.onMeter _).postBudget _).postIso _

theorem sample (h : Kept s t) (f : FrontEnd) : Kept s (t.sample f) := by
  unfold State.sample
  refine rampCheck (acVoltageCheck (postPack (postPhases (onResidues h _ fun law => ?_) _ _ _) _))
  exact integrate_residues _ _ _ _ _ ⟨law.2.1, law.2.2.1⟩

theorem meterStop (h : Kept s t) : Kept s t.meterStop := h.onMeter _
theorem meterStandby (h : Kept s t) : Kept s t.meterStandby :=
  (((h.meterStop.onMeter _).postBudget _).postBudget _).postIso _

end Kept

end Sys2Proof.Machine
end

section
/-! The laws are kept by the NV store, the power-state controller, the requests and every command; with that the
invariants of the whole part are settled (O2, O5, O6, O7, O35). -/

-- One declaration at a time: each thread the elaborator opens takes its whole stack from the memory limit.
set_option Elab.async false

namespace Sys2Proof.Machine

open Safety

namespace Kept

variable {s t : State}

/-! ### The NV store -/

theorem nvBegin (h : Kept s t) : Kept s t.nvBegin := by
  unfold State.nvBegin
  split
  · exact h
  · exact h
  · exact (h.onNv _).freeCount _
  · exact h.onNv _

theorem slotWritten (h : Kept s t) (i : Nat) : Kept s (t.slotWritten i) := h.onBilling _
theorem slotFailed (h : Kept s t) (i : Nat) : Kept s (t.slotFailed i) := by
  unfold State.slotFailed
  exact ((h.onBilling _).onBilling _).onNv _

theorem nvDone (h : Kept s t) (c : NvContent) : Kept s (t.nvDone c) := by
  unfold State.nvDone
  cases c with
  | settings x => exact (h.onNv _).onPower _
  | totals x => exact (h.onNv _).onMeter _
  | slot i x => exact (h.onNv _).slotWritten i
  | tariff x => exact h.onNv _
  | isoMemory x => exact h.onNv _

theorem nvFailed (h : Kept s t) (c : NvContent) : Kept s (t.nvFailed c) := by
  unfold State.nvFailed
  cases c with
  | settings x => exact (((h.onNv _).onNv _).onPower _).raise _
  | totals x => exact (((h.onNv _).onNv _).onMeter _).raise _
  | slot i x => exact (h.onNv _).slotFailed i
  | tariff x => exact ((h.onNv _).onNv _).raise _
  | isoMemory x => exact ((h.onNv _).onNv _).raise _

theorem nvComplete (h : Kept s t) (b : Bool) : Kept s (t.nvComplete b) := by
  unfold State.nvComplete
  split
  · exact h
  · exact ite (h.nvDone _) (ite (h.nvFailed _) (h.onNv _))

/-! ### Resets and start-up -/

/-- The factory rows are ranked. -/
theorem factory_ranked : Ranked ([7, 6, 5, 4, 3, 2, 1, 0].map factoryZone) := by
  unfold Ranked
  decide

/-- The factory rows have the heat states that they give. -/
theorem factory_refreshed : ∀ z ∈ [7, 6, 5, 4, 3, 2, 1, 0].map factoryZone, z.refresh = z := by decide

/-- After a reset every law holds: the queues are empty, the rows those of the factory roster, the residues 0. -/
theorem cleared (h : Kept s t) (p : PartState) (b : Bool) : Kept s (t.cleared p b) :=
  h.trans
    { now := rfl
      pending := rfl
      requests := Nat.zero_le _
      replies := Nat.zero_le _
      notices := fun _ => List.nodup_nil
      queues := fun _ => ⟨List.nodup_nil, List.nodup_nil⟩
      isolation := fun _ => by
        show ∀ n ∈ factoryRoster.map Node.ofExpected, n.isolated = true → n.commanded = 0
        decide
      residues := fun _ => ⟨Nat.zero_le _, Nat.zero_le _, Nat.zero_le _, Nat.zero_le _⟩
      ranks := fun _ => factory_ranked
      zones := fun _ => factory_refreshed }

/-- The rows after a reset have the heat states that their rows give, their deficits being 0 without a temperature. -/
theorem zonesAfterReset_refresh (kinds : List NodeKind) (params : List ZoneParams) :
    ∀ z ∈ zonesAfterReset kinds params, z.refresh = z := by
  have ranked : ∀ l : List Zone, (∀ z ∈ l, z.refresh = z) → ∀ z ∈ rankInOrder l, z.refresh = z := by
    intro l
    induction l with
    | nil => exact fun h => h
    | cons y l ih =>
      intro h z hz
      rcases List.mem_cons.1 hz with rfl | hz
      · exact congrArg (fun x : Zone =>
          { x with rank := if y.configured then some (l.filter Zone.configured).length else none })
          (h y (List.mem_cons_self ..))
      · exact ih (fun x hx => h x (List.mem_cons_of_mem _ hx)) z hz
  refine ranked _ fun z hz => ?_
  obtain ⟨p, _, rfl⟩ := List.mem_map.1 hz
  exact Zone.refresh_refresh
    { configured := p.1 == .heater, enabled := p.2.enabled, target := p.2.target, hyst := p.2.hyst
      node := if p.1 = .heater then .missing else .absent }

theorem useSettings (h : Kept s t) (x : Settings) : Kept s (t.useSettings x) := by
  unfold State.useSettings
  refine onNodes (onIso (onRows (h.onBudget _) _ (fun _ => ?_) fun _ => ?_) _) _ ?_ fun _ n hn hi => ?_
  · exact Ranked.rankInOrder _
  · exact zonesAfterReset_refresh _ _
  · exact fun law => law
  obtain ⟨k, _, rfl⟩ := List.mem_map.1 hn
  exact absurd hi (by simp [Node.ofExpected])

theorem recoverSlot (h : Kept s t) (i : Nat) : Kept s (t.recoverSlot i) :=
  ite ((((h.onBilling _).onBilling _).queueSlot i false).raise _) h

theorem loadLog (h : Kept s t) : Kept s t.loadLog := by
  unfold State.loadLog
  refine onPower (foldl (foldl (h.onBilling _) (fun _ _ hu => ?_) _) (fun _ _ hu => ?_) _) _
  · exact (hu.queueSlot _ _).raise _
  · exact hu.recoverSlot _

theorem load (h : Kept s t) (c : ResetCause) : Kept s (t.load c) := by
  unfold State.load
  exact ((((((h.cleared _ _).onPower _).useSettings _).onBilling _).onIso _).onMeter _).loadLog.onBilling _

theorem heatStart (h : Kept s t) : Kept s t.heatStart := by
  unfold State.heatStart
  exact ((((((h.onHeating _).postBudget _).postBudget _).postBudget _).postBudget _).postBudget _).postBudget _

theorem budgetStart (h : Kept s t) : Kept s t.budgetStart := (h.onBudget _).evalBudget
theorem meterStart (h : Kept s t) : Kept s t.meterStart := h.onMeter _
theorem completeStartUp (h : Kept s t) : Kept s t.completeStartUp := by
  unfold State.completeStartUp
  exact (h.onPower _).stageStart.relocate.heatStart.meterStart.budgetStart.actOnInputs.raise _

theorem linkOn (h : Kept s t) : Kept s t.linkOn :=
  h.onPort _ (Nat.le_refl _) (by simp) fun hn => hn

theorem returnToRun (h : Kept s t) (w : WakeSource) : Kept s (t.returnToRun w) := by
  unfold State.returnToRun
  exact ((h.onPower _).linkOn.stageReturn.meterStart.budgetStart.onHeating _).actOnInputs.raise _

theorem takeWake (h : Kept s t) (w : WakeSource) : Kept s (t.takeWake w) := ite (ite (h.onPower _) (h.returnToRun w)) h

theorem finishEntry (h : Kept s t) : Kept s t.finishEntry := by
  unfold State.finishEntry
  refine ite ?_ h
  dsimp only
  split
  · exact h.stageStandby.returnToRun _
  · exact h.stageStandby

theorem heatStop (h : Kept s t) : Kept s t.heatStop := h.heatAllOff.onHeating _
theorem isoStandby (h : Kept s t) : Kept s t.isoStandby := ((h.isoIn []).onIso _).isoOff
theorem enterLow (h : Kept s t) (p : PartState) : Kept s (t.enterLow p) := by
  unfold State.enterLow
  exact ((((((h.onPower _).heatStop.meterStandby.queueTotals _).isoStandby.onBudget _).onStage _).doIf
    fun _ hu => hu.onPower _)).finishEntry

theorem sessionHold (h : Kept s t) : Kept s t.sessionHold := by
  unfold State.sessionHold
  exact ((h.takeStop _).doIf fun _ hu => hu.holdOpening _).onPins _
theorem billingHold (h : Kept s t) : Kept s t.billingHold := ite ((h.closeRecord _ _).postBudget _) (h.queueTotals _)
theorem enterHold (h : Kept s t) : Kept s t.enterHold := by
  unfold State.enterHold
  exact ((((h.onPower _).doIf fun _ hu => hu.safeStopRequest).onStage _).sessionHold.meterStop.billingHold.heatStop.isoOff
    |>.onBudget _).raise _

theorem warn (h : Kept s t) : Kept s t.warn := by
  have level := h.onPins fun p => { p with supplyWarn := true }
  unfold State.warn
  dsimp only [State.onPins_power]
  cases t.power.part with
  | run => exact level.enterHold
  | standby => exact level.enterHold
  | sleep => exact level.enterHold
  | startUp => exact level.enterHold
  | supplyHold => exact level.onPower _
  | heldInReset => exact level
  | off => exact level

theorem warnRelease (h : Kept s t) : Kept s t.warnRelease := (h.onPins _).doIf fun _ hu => hu.onPower _
theorem dwellExpiry (h : Kept s t) : Kept s t.dwellExpiry := h.doIf fun _ hu => hu.onPower _
theorem holdReset (h : Kept s t) : Kept s t.holdReset := ite (h.onPins _) ((h.onPins _).cleared _ _)
theorem failSupply (h : Kept s t) : Kept s t.failSupply := h.cleared _ _

theorem startLoad (h : Kept s t) : Kept s t.startLoad := by
  unfold State.startLoad
  cases t.power.part with
  | off => exact (h.onPins _).load _
  | heldInReset => exact (h.onPins _).load _
  | supplyHold => exact h.doIf fun _ hu => hu.load _
  | startUp => exact h
  | run => exact h
  | standby => exact h
  | sleep => exact h

theorem startUpSeq (h : Kept s t) (b : Bool) : Kept s (t.startUpSeq b) := h.startLoad.doIf fun _ hu => hu.completeStartUp
theorem hostResetGo (h : Kept s t) : Kept s t.hostResetGo := h.doIf fun _ hu => hu.load _

/-! ### The events of the blocks -/

theorem whenRun (h : Kept s t) {f : State → State} (hf : ∀ u, Kept s u → Kept s (f u)) : Kept s (t.whenRun f) :=
  h.doIf hf

theorem proxEvent (h : Kept s t) (c : PlugClass) : Kept s (t.proxEvent c) := by
  have watched := h.onSession fun x => { x with watchProx := c, proxTaken := true }
  unfold State.proxEvent
  dsimp only [State.onSession_power]
  cases t.power.part with
  | run => exact watched.actOnProx
  | standby => exact watched.doIf fun _ hu => hu.takeWake _
  | sleep => exact watched.doIf fun _ hu => hu.takeWake _
  | supplyHold => exact watched
  | startUp => exact watched
  | heldInReset => exact watched
  | off => exact watched

theorem pilotEvent (h : Kept s t) (c : PilotClass) (d : Nat) : Kept s (t.pilotEvent c d) := by
  have watched := h.onSession fun x => { x with watchPilot := c, watchDuty := d, pilotTaken := true }
  unfold State.pilotEvent
  dsimp only [State.onSession_power]
  cases t.power.part with
  | run => exact watched.actOnPilot
  | standby => exact watched.doIf fun _ hu => hu.takeWake _
  | sleep => exact watched.doIf fun _ hu => hu.takeWake _
  | supplyHold => exact watched
  | startUp => exact watched
  | heldInReset => exact watched
  | off => exact watched

theorem lockReleasedEvent (h : Kept s t) : Kept s t.lockReleasedEvent :=
  ite (ite (h.onPins _).unlockDone (h.onPins _).lockCheck) (h.onPins _)

theorem lockTimeout (h : Kept s t) : Kept s t.lockTimeout := by
  refine ite ?_ h
  split
  iterate 2 exact h.goFaulted _
  all_goals exact h

theorem contactOpenedEvent (h : Kept s t) (k : Contact) : Kept s (t.contactOpenedEvent k) := by
  have level := h.onPins fun p => p.setFb k false
  exact ite (((level.onSession _).raise _).takeStop _) (ite (level.holdOpening _) level.openingCheck)

theorem openingTimeout (h : Kept s t) : Kept s t.openingTimeout :=
  h.doIf fun _ hu => ite (hu.stopEnd _) (hu.doIf fun _ hv => hv.holdOpening _)

theorem stationStaleEvent (h : Kept s t) : Kept s t.stationStaleEvent := by
  unfold State.stationStaleEvent
  split
  · exact h
  · exact ite h ((h.onSession _).postBudget _)

theorem postingArrives (h : Kept s t) (w : Writer) : Kept s (t.postingArrives w) := by
  unfold State.postingArrives
  split
  · exact h
  · exact (h.budgetIn _).changeInput _

theorem heatPeriodEvent (h : Kept s t) : Kept s t.heatPeriodEvent :=
  h.doIf fun _ hu => by
    dsimp only
    exact (hu.onHeating _).heatStep _ _ _ _ fun law => law.allocate

theorem takeGrant (h : Kept s t) : Kept s t.takeGrant := by
  unfold State.takeGrant
  split
  · exact h
  · exact (h.heatIn _).heatStep _ _ _ _ fun law => law.shed _ _

theorem replyAgeEvent (h : Kept s t) (n : Nat) : Kept s (t.replyAgeEvent n) :=
  h.doIf fun _ hu => hu.zoneStep _ _ fun _ => ⟨rfl, rfl⟩

theorem onTimeEvent (h : Kept s t) : Kept s t.onTimeEvent :=
  h.doIf fun _ hu => hu.mapZones _ Zone.tick rfl fun z => by
    unfold Zone.tick
    split
    · exact ⟨rfl, rfl, fun hz => congrArg (fun y : Zone => ({ y with onTime := min 16777215 (z.onTime + 1) } : Zone)) hz⟩
    · exact ⟨rfl, rfl, id⟩

theorem onDeparture (h : Kept s t) (f : Departure → Departure) : Kept s (t.onDeparture f) := h.onHeating _
theorem departNow (h : Kept s t) : Kept s t.departNow :=
  ite ((h.raise _).evalWindow.onDeparture _).evalWindow (h.raise _).evalWindow
theorem minuteCount (h : Kept s t) : Kept s t.minuteCount := by
  have stamped := h.onDeparture fun d => { d with minuteStamp := t.now }
  exact ite stamped (ite (stamped.onDeparture _).departNow (stamped.onDeparture _).evalWindow)
theorem minuteSilent (h : Kept s t) : Kept s t.minuteSilent := h.onDeparture _
theorem minuteAsleep (h : Kept s t) : Kept s t.minuteAsleep := by
  unfold State.minuteAsleep
  exact h.minuteCount.doIf fun _ hu => hu.takeWake _

theorem minuteEvent (h : Kept s t) : Kept s t.minuteEvent := by
  unfold State.minuteEvent
  cases t.power.part with
  | off => exact h
  | heldInReset => exact h.minuteSilent
  | startUp => exact h.minuteSilent
  | supplyHold => exact h.minuteCount
  | run => exact h.minuteCount
  | standby => exact h.minuteAsleep
  | sleep => exact h.minuteAsleep

theorem secondEvent (h : Kept s t) : Kept s t.secondEvent := by
  have ticked : Kept s t.tickClock := h.onBilling _
  have boundary := ticked.doIf (c := t.tickClock.billing.clock.second == 0) fun _ hu => hu.bandBoundary
  unfold State.secondEvent
  cases t.power.part with
  | off => exact h
  | heldInReset => exact ticked
  | startUp => exact ticked
  | run => exact boundary
  | standby => exact boundary
  | sleep => exact boundary
  | supplyHold => exact boundary

theorem rewriteEvent (h : Kept s t) : Kept s t.rewriteEvent :=
  h.doIf fun _ hu => (hu.onBilling _).foldl (fun _ _ hv => hv.queueSlot _ _) _

theorem statusSlot (h : Kept s t) (b : Byte) : Kept s (t.statusSlot b) := by
  unfold State.statusSlot
  split
  · exact h
  · rename_i x _
    have ended := fun o => h.attemptEnd x o
    exact ite (ite (ite (h.onStage _) (ended _)) (ite (ended _) (ite (ended _) (ite (ended _) (ended _))))) h

theorem responseFrame (h : Kept s t) (l : List Byte) : Kept s (t.responseFrame l) := by
  unfold State.responseFrame
  split
  · exact h
  · refine ite ?_ h
    split
    · exact h.attemptEnd _ _
    · exact h.attemptEnd _ _

theorem slotTimeout (h : Kept s t) : Kept s t.slotTimeout := by
  unfold State.slotTimeout
  split
  · exact h
  · exact ite h (h.attemptEnd _ _)

theorem retryEvent (h : Kept s t) : Kept s t.retryEvent := by
  unfold State.retryEvent
  split
  · exact h
  · exact ite (h.sendAttempt _) h

theorem pollEvent (h : Kept s t) (a : Nat) : Kept s (t.pollEvent a) :=
  h.doIf fun _ hu => (hu.onNode a _).queueNormal _ a
theorem refreshEvent (h : Kept s t) (a : Nat) : Kept s (t.refreshEvent a) :=
  h.doIf fun _ hu => (hu.onNode a _).queueNormal _ a
theorem recallEvent (h : Kept s t) : Kept s t.recallEvent := h.doIf fun _ hu => (hu.onStage _).rollCallFor _

/-! ### The host link -/

theorem dropFrame (h : Kept s t) : Kept s t.dropFrame := h.onLink _
theorem linkError (h : Kept s t) (p : LinkErrors → Bool) (f : LinkErrors → LinkErrors) : Kept s (t.linkError p f) :=
  ite h ((h.onLink _).raise _)

theorem transmit (h : Kept s t) : Kept s t.transmit := by
  refine ite ?_ h
  split
  · rename_i hr
    exact h.onPort _ (Nat.le_refl _) (by simp [hr]) fun hn => hn
  · rename_i hn
    refine ite (h.onPort _ (Nat.le_refl _) (Nat.le_refl _) fun law => ?_) h
    rw [hn] at law
    exact law.of_cons
  · exact h

theorem wakeEvent (h : Kept s t) (b : Bool) : Kept s (t.wakeEvent b) := by
  unfold State.wakeEvent
  exact (h.onPins _).doIf fun _ hu => hu.takeWake _

theorem replySent (h : Kept s t) (m : ReplyMark) : Kept s (t.replySent m) := by
  cases m with
  | plain => exact h
  | sleepAck => exact h.doIf fun _ hu => hu.onLink _
  | resetAck =>
    unfold State.replySent
    exact h.onPower _

theorem sent (h : Kept s t) : Kept s t.sent := by
  unfold State.sent
  split
  · exact h
  · exact (h.onLink _).replySent _

/-! ### The owners of the requests -/

/-- An answer OK. -/
theorem ok (h : Kept s t) (l : List Byte) : Kept s (okWith t l).1 := h

/-- An answer on a condition. -/
theorem served {p : Prop} [Decidable p] {a b : Served} (ha : Kept s a.1) (hb : Kept s b.1) :
    Kept s (if p then a else b).1 := by
  split
  · exact ha
  · exact hb

theorem ownReset (h : Kept s t) : Kept s t.ownReset.1 := by
  unfold State.ownReset
  exact (h.onPower _).doIf fun _ hu => hu.takeStop _

theorem ownSetPowerState (h : Kept s t) (n : Nat) : Kept s (t.ownSetPowerState n).1 := by
  unfold State.ownSetPowerState
  split
  · exact h
  · split
    · exact h
    · dsimp only
      split
      · dsimp only
        exact h.enterLow _
      · exact h

theorem authorised (h : Kept s t) (i : Nat) (m : Mode) (p : Nat) (b : Bool) (r : List Byte) :
    Kept s (t.authorised i m p b r) := by
  have stored : Kept s ((t.onBilling fun x => { x with reservation := some i }).storeAuthorisation m p b r) := by
    unfold State.storeAuthorisation
    exact ((((h.onBilling _).onSession _).onMeter _).doIf fun _ hu => hu.clearStation).postBudget _
  have started : ∀ u, Kept s u → Kept s (u.startEnergising m) := by
    intro u hu
    have timed := hu.onSession fun x => { x with energiseTimer := some u.now }
    unfold State.startEnergising
    cases m with
    | ac => exact timed.acVoltageCheck
    | dc =>
      dsimp only
      split
      · exact timed.listenRequest
      · exact timed.listenRequest.stationFlags _ _
  exact started _ ((stored.clearOnTimes.enter _).openRecord _ _ _)

theorem ownAuthorise (h : Kept s t) (m p u : Nat) (r : List Byte) : Kept s (t.ownAuthorise m p u r).1 := by
  unfold State.ownAuthorise
  split
  · exact h
  · split
    · split
      · exact h
      · split
        · exact h
        · split
          · exact h
          · split
            · exact h
            · exact h.authorised _ _ _ _ _
    · exact h

theorem ownStop (h : Kept s t) : Kept s t.ownStop.1 := by
  unfold State.ownStop
  cases t.session.st with
  | energising => exact h.takeStop _
  | active => exact h.takeStop _
  | paused => exact h.takeStop _
  | locking => exact (h.onSession _).ok []
  | authorising => exact h.goUnlocking
  | idle => exact h
  | connected => exact h
  | stopping => exact h
  | unlocking => exact h
  | finished => exact h
  | faulted => exact h

theorem ownClearFault (h : Kept s t) : Kept s t.ownClearFault.1 := by
  have healed := h.settleContactors.onSession fun x => { x with fault := none }
  unfold State.ownClearFault
  dsimp only
  split
  · split
    · exact (healed.onSession _).enter _
    · exact healed.goUnlocking
  · exact h

theorem ownDcStation (h : Kept s t) (a b c d : Nat) : Kept s (t.ownDcStation a b c d).1 := by
  unfold State.ownDcStation
  dsimp only
  split
  · exact h
  · split
    · exact h
    · have held := (h.onSession fun x =>
        { x with station := some ⟨a, b, c, d % 2 == 1, d / 2 % 2 == 1, t.now, false⟩ }).postBudget (.stationFresh a b c)
      exact ite held (held.stationFlags _ _)

theorem ownSaveSettings (h : Kept s t) : Kept s t.ownSaveSettings.1 := by
  unfold State.ownSaveSettings
  exact (h.queueNv _ _).ok _

theorem ownReadLinkErrors (h : Kept s t) : Kept s t.ownReadLinkErrors.1 := by
  unfold State.ownReadLinkErrors
  exact (h.onLink _).ok _

theorem ownSetPackLimits (h : Kept s t) (a b c : Nat) : Kept s (t.ownSetPackLimits a b c).1 := by
  unfold State.ownSetPackLimits
  exact (h.changeInput _).ok _

theorem ownSetDerateTable (h : Kept s t) (l : List Point) : Kept s (t.ownSetDerateTable l).1 := by
  unfold State.ownSetDerateTable
  exact served h (served ((h.onBudget _).evalBudget.ok _) h)

theorem ownSetBudgetParams (h : Kept s t) (a b c : Nat) : Kept s (t.ownSetBudgetParams a b c).1 := by
  unfold State.ownSetBudgetParams
  exact ((h.onBudget _).doIf fun _ hu => hu.evalBudget).ok _

theorem ownDcConnect (h : Kept s t) : Kept s t.ownDcConnect.1 := by
  unfold State.ownDcConnect
  split
  · exact ((h.onSession _).onPins _).dcClosedCheck
  · exact h

theorem ownSetIsoParams (h : Kept s t) (a b c d e f : Nat) : Kept s (t.ownSetIsoParams a b c d e f).1 := by
  unfold State.ownSetIsoParams
  split
  · split
    · exact h
    · split
      · exact h
      · exact (h.onIso _).isoSupervise
  · exact h

theorem ownClearIsolation (h : Kept s t) (a : Nat) : Kept s (t.ownClearIsolation a).1 := by
  unfold State.ownClearIsolation
  dsimp only
  split
  · exact (h.foldl (fun _ _ hu => hu.forget _) _).memoryChanged _
  · split
    · exact h
    · split
      · exact h
      · exact (h.forget a).memoryChanged _

theorem setClockTo (h : Kept s t) (a b c : Nat) : Kept s (t.setClockTo a b c) := by
  have set := (h.pricingPoint.onBilling fun x =>
    { x with clock :=
      { day := a, minute := b, second := c, valid := true, secondStamp := t.pricingPoint.now } }).relocate
  unfold State.setClockTo
  dsimp only
  split
  · exact set
  · exact (set.onBilling _).checkpoint

theorem ownReleaseRecord (h : Kept s t) (n : Nat) : Kept s (t.ownReleaseRecord n).1 := by
  unfold State.ownReleaseRecord
  split
  · exact h
  · split
    · exact (h.onBilling _).queueSlot _ _
    · exact h
    · exact h
    · exact h

/-- R186 step 4: whatever a request's owner does, the laws are kept and the host link's queues do not grow. -/
theorem owner (h : Kept s t) (c : Instr) : Kept s (State.owner c t).1 := by
  cases c with
  | reset => exact h.ownReset
  | setPowerState => exact h.ownSetPowerState _
  | saveSettings => exact h.ownSaveSettings
  | readLinkErrors => exact h.ownReadLinkErrors
  | authorise => exact h.ownAuthorise _ _ _ _
  | deny => exact served h.goUnlocking h
  | pause => exact served (h.setCauses _) h
  | resume => exact served (h.setCauses _) h
  | stop => exact h.ownStop
  | restart => exact served h.goLocking h
  | clearFault => exact h.ownClearFault
  | dcStation => exact h.ownDcStation _ _ _ _
  | dcConnect => exact h.ownDcConnect
  | setPackLimits => exact h.ownSetPackLimits _ _ _
  | setDerateTable => exact h.ownSetDerateTable _
  | setBudgetParams => exact h.ownSetBudgetParams _ _ _
  | setZone tag zone enabled target hyst =>
    show Kept s (t.ownSetZone zone enabled target hyst).1
    unfold State.ownSetZone
    split
    · exact h
    · exact served h (h.zoneStep _ _ fun _ => ⟨rfl, rfl⟩)
  | setHeatPolicy tag mode gating pack =>
    show Kept s (t.ownSetHeatPolicy mode gating pack).1
    unfold State.ownSetHeatPolicy
    split
    · refine postBudget (postBudget (heatStep h _ _ _ _ fun law => ?_) _) _
      dsimp only
      split
      · exact law.map fun _ => ⟨rfl, rfl⟩
      · exact law
    · exact h
  | setDeparture tag count mode lead =>
    show Kept s (t.ownSetDeparture count mode lead).1
    unfold State.ownSetDeparture
    split
    · exact h
    · exact (h.onDeparture _).evalWindow
  | setIsoParams => exact h.ownSetIsoParams _ _ _ _ _ _
  | setSearchList => exact served h (served h ((h.onIso _).ok _))
  | clearIsolation => exact h.ownClearIsolation _
  | startSearch => exact served (h.beginSearch _) h
  | setRoster tag kinds =>
    show Kept s (t.ownSetRoster kinds).1
    unfold State.ownSetRoster
    split
    · exact h
    · split
      · exact h
      · exact served h (h.setRoster _)
  | rollCall => exact (h.rollCallFor _).ok _
  | readStageErrors => exact (h.onStage _).ok _
  | setClock => exact served h (h.setClockTo _ _ _)
  | tariffWrite tag page bands =>
    show Kept s (t.ownTariffWrite page bands).1
    unfold State.ownTariffWrite
    refine served h (served h ?_)
    split
    · exact h
    · exact (h.onBilling _).ok _
  | tariffCommit => exact served h (served h (served h.swap ((h.onBilling _).raise _)))
  | tariffCancel => exact h.withdrawCommit
  | releaseRecord => exact h.ownReleaseRecord _
  | budgetStatus => exact served h (served h (served h h))
  | heatStatus => exact served h (served h h)
  | isoStatus => exact served h (served h (served h h))
  | rosterStatus => exact served h (served h h)
  | meterStatus => exact served h (served h h)
  | tariffRead => exact served h h
  | readRecord tag n part half =>
    show Kept s (t.ownReadRecord n part half).1
    unfold State.ownReadRecord
    refine served h ?_
    split <;> exact h
  | _ => exact h

end Kept

/-! ### Requests and frames -/

/-- From `s` to `t` every law of the part is kept, with the waiting commands and the time base. -/
structure Lawful (s t : State) : Prop where
  now : t.now = s.now
  pending : t.pending = s.pending
  link : linkLaw s → linkLaw t
  queues : queueLaw s → queueLaw t
  isolation : isolationLaw s → isolationLaw t
  residues : residueLaw s → residueLaw t
  ranks : rankLaw s → rankLaw t
  zones : zoneLaw s → zoneLaw t

theorem Kept.lawful {s t : State} (h : Kept s t) : Lawful s t where
  now := h.now
  pending := h.pending
  link := fun law => ⟨h.requests.trans law.1, h.replies.trans law.2.1, h.notices law.2.2⟩
  queues := h.queues
  isolation := h.isolation
  residues := h.residues
  ranks := h.ranks
  zones := h.zones

theorem Lawful.trans {s t u : State} (h : Lawful s t) (k : Lawful t u) : Lawful s u where
  now := k.now.trans h.now
  pending := k.pending.trans h.pending
  link := k.link ∘ h.link
  queues := k.queues ∘ h.queues
  isolation := k.isolation ∘ h.isolation
  residues := k.residues ∘ h.residues
  ranks := k.ranks ∘ h.ranks
  zones := k.zones ∘ h.zones

/-- A change of the host link that keeps its bounds. -/
theorem Lawful.onLink (s : State) (f : Link → Link) (h : linkLaw s → linkLaw (s.onLink f)) : Lawful s (s.onLink f) :=
  ⟨rfl, rfl, h, id, id, id, id, id⟩

/-- R186: with room for a reply, one is placed after what the owner does. -/
theorem Lawful.placeReply {s t : State} (h : Kept s t) (room : s.link.replies.length < 8) (kind tag : Byte)
    (p : List Byte) (m : ReplyMark) : Lawful s (t.placeReply kind tag p m) where
  now := h.now
  pending := h.pending
  link := fun law => by
    refine ⟨h.requests.trans law.1, ?_, h.notices law.2.2⟩
    have := h.replies
    simp only [State.placeReply_replies, List.length_append, List.length_cons, List.length_nil]
    omega
  queues := h.queues
  isolation := h.isolation
  residues := h.residues
  ranks := h.ranks
  zones := h.zones

/-- R186: the port serves only with room for a reply. -/
theorem State.room_of_canServe {s : State} (h : s.canServe = true) : s.link.replies.length < 8 := by
  simp only [State.canServe, Bool.and_eq_true, decide_eq_true_eq] at h
  exact h.2

theorem Lawful.request (s : State) (kind tag : Byte) (own : State → Served) (h : Kept s (own s).1) :
    Lawful s (s.request kind tag own) := by
  unfold State.request
  split
  · rename_i hc
    refine Lawful.placeReply ?_ (State.room_of_canServe hc) _ _ _ _
    split
    · exact .refl s
    · exact h
  · exact (Kept.refl s).lawful

theorem Lawful.serveUnknown (s : State) (kind tag : Byte) : Lawful s (s.serveUnknown kind tag) := by
  unfold State.serveUnknown
  cases hc : s.canServe
  · exact (Kept.refl s).lawful
  · exact Lawful.placeReply ((Kept.refl s).linkError _ _) (State.room_of_canServe hc) _ _ _ _

theorem Lawful.serveFrame (s : State) (r : Request) : Lawful s (s.serveFrame r) := by
  unfold State.serveFrame
  split
  · exact .serveUnknown s _ _
  · unfold State.serveBadLength
    cases hc : s.canServe
    · exact (Kept.refl s).lawful
    · exact Lawful.placeReply (.refl s) (State.room_of_canServe hc) _ _ _ _
  · exact .request s _ _ _ ((Kept.refl s).owner _)

theorem Lawful.serveHead (s : State) : Lawful s s.serveHead := by
  unfold State.serveHead
  split
  · split
    · exact (Kept.refl s).lawful
    · rename_i r rest hr
      have left : Kept s (s.onLink fun l => { l with requests := rest }) :=
        (Kept.refl s).onPort _ (by simp [hr]) (Nat.le_refl _) fun hn => hn
      exact left.lawful.trans (.serveFrame _ r)
  · exact (Kept.refl s).lawful

/-- R185: a frame is taken into the queue, answered BUSY or dropped, within the bounds of both queues. -/
theorem Lawful.takeFrame (s : State) (kind tag : Byte) (p : List Byte) : Lawful s (s.takeFrame kind tag p) := by
  unfold State.takeFrame
  split
  · rename_i room
    refine .onLink s _ fun law => ⟨?_, law.2.1, law.2.2⟩
    simp only [State.onLink_link, List.length_append, List.length_cons, List.length_nil]
    omega
  · refine .trans ?_ ((Kept.refl _).linkError _ _).lawful
    cases room : decide (s.link.replies.length < 8)
    · exact (Kept.refl s).lawful
    · exact Lawful.placeReply (.refl s) (of_decide_eq_true room) _ _ _ _

theorem Lawful.judgeFrame (s : State) (l : List Byte) : Lawful s (s.judgeFrame l) := by
  unfold State.judgeFrame
  dsimp only
  split
  · exact (Lawful.takeFrame s _ _ _).trans ((Kept.refl _).doIf fun _ hu => hu.takeWake _).lawful
  · exact ((Kept.refl s).linkError _ _).lawful

theorem Lawful.feedByte (s : State) (b : Byte) : Lawful s (s.feedByte b) := by
  have kept := Kept.refl s
  unfold State.feedByte
  split
  · exact (Kept.ite (kept.onLink _) kept).lawful
  · exact (Kept.ite (kept.dropFrame.linkError _ _) (kept.onLink _)).lawful
  · dsimp only
    split
    · exact kept.dropFrame.lawful.trans (.judgeFrame _ _)
    · exact (kept.onLink _).lawful

theorem Lawful.feedBytes (s : State) (l : List Byte) : Lawful s (s.feedBytes l) := by
  unfold State.feedBytes
  induction l generalizing s with
  | nil => exact (Kept.refl s).lawful
  | cons b l ih =>
    refine .trans ?_ (ih _)
    dsimp only
    cases s.receiving
    · exact (Kept.refl s).lawful
    · exact .feedByte s b

/-! ### Every command -/

/-- A request that goes to its owner through the gate. -/
theorem exec_request {c : Instr} {code tag : Byte} (h : requestHead c = some (code, tag)) (s : State) :
    exec c s = .next (s.request code tag (State.owner c)) := by
  cases c <;> simp only [requestHead, Option.some.injEq, Prod.mk.injEq, reduceCtorEq] at h <;>
    obtain ⟨rfl, rfl⟩ := h <;> rfl

/-- The code of a request is below 0x80 (section 9.6). -/
theorem requestHead_low {c : Instr} {code tag : Byte} (h : requestHead c = some (code, tag)) : code.toNat < 0x80 := by
  cases c <;> simp only [requestHead, Option.some.injEq, Prod.mk.injEq, reduceCtorEq] at h <;>
    obtain ⟨rfl, -⟩ := h <;> decide

/-- Every command goes on to a next state, and every law is kept. -/
theorem exec_lawful (c : Instr) (s : State) : ∃ t, exec c s = .next t ∧ Lawful s t := by
  have kept := Kept.refl s
  have event {t : State} (h : Kept s t) : ∃ u, Host.Outcome.next (φ := Fault) (ρ := Refusal) t = .next u ∧ Lawful s u :=
    ⟨t, rfl, h.lawful⟩
  cases hc : requestHead c with
  | some p => exact ⟨_, exec_request hc s, .request s _ _ _ (kept.owner c)⟩
  | none =>
    cases c with
    | unknownKind tag kind => exact ⟨_, rfl, .serveUnknown s kind tag⟩
    | hostFrameReceived l => exact ⟨_, rfl, .feedBytes s l⟩
    | receiveError e =>
      cases e with
      | lenAbove60 => exact event (kept.doIf fun _ hu => hu.dropFrame.linkError _ _)
      | missingStopBit => exact event (kept.doIf fun _ hu => hu.dropFrame.linkError _ _)
    | rxTimeout => exact event (kept.doIf fun _ hu => hu.dropFrame.linkError _ _)
    | serveRequest => exact ⟨_, rfl, .serveHead s⟩
    | frameTransmit => exact event kept.transmit
    | frameSent => exact event kept.sent
    | wakeLine b => exact event (kept.wakeEvent b)
    | proximityClassChange o => exact event (kept.doIf fun _ hu => hu.proxEvent _)
    | pilotClassChange x =>
      refine event ?_
      split
      · exact kept
      · exact kept.doIf fun _ hu => hu.pilotEvent _ _
    | pilotDutyChange a b => exact event (kept.doIf fun _ hu => hu.pilotEvent _ _)
    | inletTemperatureChange a b => exact event ((kept.onPins _).whenRun fun _ hu => hu.takeTemperatures)
    | lockEngaged => exact event ((kept.onPins _).doIf fun _ hu => hu.lockDone)
    | lockReleased => exact event kept.lockReleasedEvent
    | lockTravelTimeout => exact event (kept.whenRun fun _ hu => hu.lockTimeout)
    | energisingWaitExpiry => exact event (kept.whenRun fun _ hu => hu.doIf fun _ hv => hv.takeStop _)
    | contactorClosed k => exact event ((kept.onPins _).whenRun fun _ hu => hu.acClosedCheck.dcClosedCheck)
    | contactorOpened k => exact event (kept.contactOpenedEvent k)
    | closingFeedbackTimeout =>
      exact event (kept.whenRun fun _ hu => hu.doIf fun _ hv => (hv.onSession _).takeStop _)
    | openingFeedbackTimeout => exact event kept.openingTimeout
    | stopRampWaitExpiry => exact event (kept.whenRun fun _ hu => hu.doIf fun _ hv => hv.openContactors)
    | dcStationStale => exact event kept.stationStaleEvent
    | budgetPeriodExpiry => exact event (kept.whenRun fun _ hu => hu.doIf fun _ hv => (hv.onBudget _).evalBudget)
    | budgetPostingArrival w => exact event (kept.postingArrives w)
    | packLimitsStale => exact event (kept.doIf fun _ hu => hu.changeInput _)
    | heatPeriodExpiry => exact event (kept.whenRun fun _ hu => hu.heatPeriodEvent)
    | heatGrantTaken => exact event (kept.whenRun fun _ hu => hu.takeGrant)
    | heaterReplyAgeExpiry n => exact event (kept.whenRun fun _ hu => hu.replyAgeEvent n)
    | onTimeTick => exact event (kept.whenRun fun _ hu => hu.onTimeEvent)
    | departureMinute => exact event kept.minuteEvent
    | packVoltagePosting => exact event (kept.whenRun fun _ hu => hu.packVoltageEvent)
    | injectionPeriodEnd a b c d => exact event (kept.whenRun fun _ hu => hu.doIf fun _ hv => hv.injectionEnd _ _ _ _)
    | listenWindowExpiry a b => exact event (kept.whenRun fun _ hu => hu.doIf fun _ hv => hv.listenEnd _ _)
    | isolateConfirmTimeout => exact event (kept.whenRun fun _ hu => hu.doIf fun _ hv => hv.skipAndReconnect)
    | resultDeadlineExpiry => exact event (kept.whenRun fun _ hu => hu.doIf fun _ hv => hv.skipAndReconnect)
    | reconnectWaitTimeout => exact event (kept.whenRun fun _ hu => hu.doIf fun _ hv => hv.nextStep)
    | transactionBegin => exact event kept.nextWork
    | statusSlotReceived b => exact event (kept.statusSlot b).finishEntry
    | responseFrameReceived l => exact event (kept.responseFrame l).finishEntry
    | slotWaitTimeout => exact event kept.slotTimeout.finishEntry
    | retryWaitExpiry => exact event kept.retryEvent
    | pollTimeExpiry a => exact event (kept.whenRun fun _ hu => hu.pollEvent a)
    | refreshTimeExpiry a => exact event (kept.whenRun fun _ hu => hu.refreshEvent a)
    | recallPeriodExpiry => exact event (kept.whenRun fun _ hu => hu.recallEvent)
    | safeStop => exact event (kept.doIf fun _ hu => hu.safeStopFirst)
    | safeStopRepeat => exact event (kept.doIf fun _ hu => hu.safeStopSecond)
    | meterSample f => exact event (kept.whenRun fun _ hu => hu.doIf fun _ hv => hv.sample f)
    | clockSecond => exact event kept.secondEvent
    | checkpointPeriodExpiry => exact event (kept.whenRun fun _ hu => hu.doIf fun _ hv => hv.checkpoint)
    | rewritePeriodExpiry => exact event kept.rewriteEvent
    | supplyWarn => exact event kept.warn
    | supplyWarnRelease => exact event kept.warnRelease
    | warningClearDwellExpiry => exact event kept.dwellExpiry
    | resetLineAssert => exact event kept.holdReset
    | startUp b => exact event (kept.startUpSeq b)
    | hostResetGo => exact event kept.hostResetGo
    | nvWriteBegin => exact event kept.nvBegin
    | nvWriteComplete b => exact event (kept.nvComplete b)
    | supplyFailure => exact event kept.failSupply
    | _ => simp [requestHead] at hc

/-! ### Every step -/

/-- A step is the passing of a millisecond, or a command that keeps every law of the state it found. -/
theorem step_cases {s t : State} (h : step s = .next t) :
    t = s.idle ∨ ∃ c rest, s.pending = c :: rest ∧ exec c { s with pending := rest } = .next t := by
  unfold step at h
  split at h
  · exact .inl (Host.Outcome.next.inj h).symm
  · rename_i c rest hp
    exact .inr ⟨c, rest, hp, h⟩

/-- A law that reads neither the time base nor the waiting commands, kept by every command, is kept by every step. -/
theorem step_keeps {law : State → Prop} (idle : ∀ s : State, law s → law s.idle)
    (queue : ∀ (s : State) rest, law s → law { s with pending := rest })
    (exec_keeps : ∀ {s t : State}, Lawful s t → law s → law t) {s t : State} (h : step s = .next t) (hs : law s) :
    law t := by
  rcases step_cases h with rfl | ⟨c, rest, -, hc⟩
  · exact idle s hs
  · obtain ⟨u, hu, kept⟩ := exec_lawful c { s with pending := rest }
    obtain rfl := Host.Outcome.next.inj (hc.symm.trans hu)
    exact exec_keeps kept (queue s rest hs)

end Sys2Proof.Machine

namespace Sys2Proof.Proofs

open Machine Safety

/-- Settles O2: the command's next state keeps the waiting commands and the time base with every other law. -/
theorem everyCommandGoesOn : Obligations.EveryCommandGoesOn := by
  intro c s
  obtain ⟨t, ht, kept⟩ := exec_lawful c s
  exact ⟨t, ht, kept.pending, kept.now⟩

/-- Settles O5. -/
theorem linkLawKeptByEveryStep : Obligations.LinkLawKeptByEveryStep :=
  fun _ _ law h => step_keeps (law := linkLaw) (fun _ hs => hs) (fun _ _ hs => hs) Lawful.link h law

/-- Settles O6. -/
theorem stageLawsKeptByEveryStep : Obligations.StageLawsKeptByEveryStep :=
  fun _ _ h => ⟨step_keeps (law := queueLaw) (fun _ hs => hs) (fun _ _ hs => hs) Lawful.queues h,
    step_keeps (law := isolationLaw) (fun _ hs => hs) (fun _ _ hs => hs) Lawful.isolation h⟩

/-- Settles O7. -/
theorem residueLawKeptByEveryStep : Obligations.ResidueLawKeptByEveryStep :=
  fun _ _ law h => step_keeps (law := residueLaw) (fun _ hs => hs) (fun _ _ hs => hs) Lawful.residues h law

/-- Settles O35. -/
theorem ranksKeptByEveryStep : Obligations.RanksKeptByEveryStep :=
  fun _ _ h => ⟨step_keeps (law := rankLaw) (fun _ hs => hs) (fun _ _ hs => hs) Lawful.ranks h,
    step_keeps (law := zoneLaw) (fun _ hs => hs) (fun _ _ hs => hs) Lawful.zones h⟩

/-- Settles O1: both halves are the two arms of `step`. -/
theorem stepRunsFrontCommand : Obligations.StepRunsFrontCommand :=
  ⟨fun _ _ => rfl, fun s hs => by simp [step, hs, State.idle]⟩

/-- Settles O8: whether the port serves is `serves`, and what it turns away it answers STATE (R186). -/
theorem requestsTurnedAway : Obligations.RequestsTurnedAway := by
  intro c code tag s hc
  have gate : s.canServe = true ↔ serves s := by
    simp only [State.canServe, serves, Bool.and_eq_true, Bool.or_eq_true, beq_iff_eq, decide_eq_true_eq]
  refine ⟨fun hs away => ?_, fun hs => ?_⟩
  · have turned : s.turnsAway = true := by simpa [State.turnsAway] using away
    rw [refusedWith, exec_request hc, State.request_turnedAway (gate.2 hs) turned, State.placeReply_plain _ _ _ _ (requestHead_low hc)]
  · rw [exec_request hc, State.request_waits (by simpa [← gate] using hs)]

end Sys2Proof.Proofs
end

section
/-! The laws at reset, and the requests that read out (tier 1 of the whole part and of the requests in general): what the
owner answers decides what the command answers. -/

-- One declaration at a time: each thread the elaborator opens takes its whole stack from the memory limit.
set_option Elab.async false

namespace Sys2Proof.Machine

open Safety

/-! ### A request that is served -/

section
variable {s : State} {c : Instr} {code tag : Byte}

/-- R186 step 4: a request that may be served is what its owner does, with the reply placed. -/
theorem exec_served (h : mayServe s) (hc : requestHead c = some (code, tag)) :
    exec c s = .next ((State.owner c s).1.placeReply code tag (State.owner c s).2.payload (State.owner c s).2.mark) := by
  rw [exec_request hc, State.request_served h]

/-- A request its owner refuses is answered with the status alone. -/
theorem exec_refused (h : mayServe s) (hc : requestHead c = some (code, tag)) {st : Status}
    (own : State.owner c s = refuse s st) : refusedWith c code tag st s := by
  rw [refusedWith, exec_request hc, State.request_refused h (requestHead_low hc) _ own]

/-- A request its owner answers OK is what the owner did, with the reply. -/
theorem exec_ok (h : mayServe s) (hc : requestHead c = some (code, tag)) {t : State} {body : List Byte}
    (own : State.owner c s = okWith t body) : exec c s = .next (replied t code tag (byte Status.ok.code :: body)) := by
  rw [exec_request hc, State.request_ok h (requestHead_low hc) _ own]

end

/-! ### Read-outs -/

/-- R162: a record number that no slot but a FREE one holds is not found. -/
theorem Billing.findNumber_none {b : Billing} {n : Nat} (h : ∀ x ∈ b.slots, x.st ≠ .free → x.record.number ≠ n) :
    b.findNumber n = none := by
  simp only [Billing.findNumber, List.findIdx?_eq_none_iff, Bool.and_eq_false_iff, bne_eq_false_iff_eq, beq_eq_false_iff_ne]
  intro x hx
  by_cases hf : x.st = .free
  · exact .inl hf
  · exact .inr (h x hx hf)

/-! ### Lengths of the bytes -/

@[simp] theorem be_length (n v : Nat) : (be n v).length = n := by
  induction n <;> simp_all [be]
@[simp] theorem beInt_length (n : Nat) (v : Int) : (beInt n v).length = n := be_length _ _
@[simp] theorem bcd_length (n v : Nat) : (bcd n v).length = n := by
  induction n <;> simp_all [bcd]

end Sys2Proof.Machine

namespace Sys2Proof.Proofs

open Machine Safety

/-- Settles O3, block by block: the reset state is given field by field. -/
theorem resetValues : Obligations.ResetValues := by
  unfold Obligations.ResetValues
  dsimp only
  refine ⟨?session, ?budget, ?heating, ?monitor, ?stage, ?meter, ?billing, ?link, ?power⟩
  all_goals decide

/-- Settles O4. -/
theorem resetMeetsLaws : Obligations.ResetMeetsLaws := by
  refine ⟨⟨Nat.zero_le _, Nat.zero_le _, List.nodup_nil⟩, ⟨List.nodup_nil, List.nodup_nil⟩, ?isolation,
    ⟨Nat.zero_le _, Nat.zero_le _, Nat.zero_le _, Nat.zero_le _⟩, Nat.zero_le _, Kept.factory_ranked, Kept.factory_refreshed⟩
  case isolation =>
    unfold isolationLaw
    decide

/-- Settles O9: the owner of each read-out answers OK with the bytes and leaves the state. -/
theorem statusRequestsReadOut : Obligations.StatusRequestsReadOut := by
  intro s tag h
  have answered {c : Instr} {code : Byte} {body : List Byte} (hc : requestHead c = some (code, tag))
      (own : State.owner c s = okWith s body) : readsOut c code tag body s := exec_ok h hc own
  refine ⟨answered rfl rfl, answered rfl rfl, answered rfl rfl, answered rfl rfl, answered rfl rfl, answered rfl rfl,
    answered rfl rfl, fun z hz hz' => answered rfl ?zone, answered rfl rfl, answered rfl rfl, answered rfl rfl,
    answered rfl rfl, fun a ha ha' => answered rfl ?node, answered rfl rfl, answered rfl rfl, answered rfl rfl,
    answered rfl rfl, answered rfl rfl, fun n p i k hp hi hk => answered rfl ?record, answered rfl rfl⟩
  case zone => simp [State.owner, State.ownHeatStatus, hz', Nat.ne_of_gt hz]
  case node => simp [State.owner, State.ownRosterStatus, ha', Nat.ne_of_gt ha]
  case record => simp [State.owner, State.ownReadRecord, Nat.not_lt.2 hp, Nat.not_lt.2 hi, hk]

/-- Settles O10: the selector tests fail one after the other, and a record number that is not found is no record. -/
theorem badSelectorsRefused : Obligations.BadSelectorsRefused := by
  intro s tag h
  refine ⟨fun p hp => exec_refused h rfl ?budget, fun p hp => exec_refused h rfl ?heat,
    fun p hp => exec_refused h rfl ?iso, fun p hp => exec_refused h rfl ?roster, fun p hp => exec_refused h rfl ?meter,
    fun p hp => exec_refused h rfl ?tariff, fun n p i hpi => exec_refused h rfl ?part,
    fun n p i hp hi hn => ⟨exec_refused h rfl ?record, exec_refused h rfl ?release⟩⟩
  case budget =>
    simp only [State.owner, State.ownBudgetStatus]
    rw [if_neg (by omega), if_neg (by omega), if_neg (by omega)]
  case heat =>
    simp only [State.owner, State.ownHeatStatus]
    rw [if_neg (by omega), if_neg (by omega)]
  case iso =>
    simp only [State.owner, State.ownIsoStatus]
    rw [if_neg (by omega), if_neg (by omega), if_neg (by omega)]
  case roster =>
    simp only [State.owner, State.ownRosterStatus]
    rw [if_neg (by omega), if_neg (by omega)]
  case meter =>
    simp only [State.owner, State.ownMeterStatus]
    rw [if_neg (by omega), if_neg (by omega)]
  case tariff => simp [State.owner, State.ownTariffRead, hp]
  case part => simp [State.owner, State.ownReadRecord, hpi]
  case record =>
    simp [State.owner, State.ownReadRecord, Nat.not_lt.2 hp, Nat.not_lt.2 hi, Billing.findNumber_none hn]
  case release => simp [State.owner, State.ownReleaseRecord, Billing.findNumber_none hn]

/-- Settles O11: the halves are laid out from fields of fixed widths, and a damaged record in the same lengths. -/
theorem recordHalvesHaveTheirLengths : Obligations.RecordHalvesHaveTheirLengths := by
  intro x
  have torn : ∀ k p i n l, (tornBytes k p i n l).length = n := fun _ _ _ _ _ => by simp [tornBytes]
  have time : ∀ o, (timeOr0 o).length = 5 := fun o => by simp [timeOr0, timeBytes]
  have segment : ∀ i o, (segmentBytes i o).length = 25 := fun i o => by cases o <;> simp [segmentBytes]
  have ref : ∀ o, (refBytes o).length = 17 := fun o => by simp [refBytes]
  cases hg : x.record.garbled with
  | none =>
    refine ⟨?first, ?second, fun p h hp _ _ => ?segments⟩
    case first => simp [recordBytes, hg, part00, time, ref, flagBytes, RecFlags.word]
    case second => simp [recordBytes, hg, part01]
    case segments => simp [recordBytes, hg, partSegments, segment, Nat.ne_of_gt hp]
  | some k =>
    refine ⟨?first, ?second, fun p h hp _ _ => ?segments⟩
    case first => simp [recordBytes, hg, tornPart, torn]
    case second => simp [recordBytes, hg, tornPart, torn]
    case segments => simp [recordBytes, hg, tornPart, torn, Nat.ne_of_gt hp]

/-- Settles O12. -/
theorem errorFlagsReadAndCleared : Obligations.ErrorFlagsReadAndCleared := by
  intro s tag h
  have stage : exec (.readStageErrors tag) s = .next (replied (s.onStage fun g => { g with errors := {} }) 0x53 tag
      (byte Status.ok.code :: flagBytes s.stage.errors.bits)) := exec_ok h rfl rfl
  have link : exec (.readLinkErrors tag) s = .next (replied (s.onLink fun l => { l with errors := {} }) 0x06 tag
      (byte Status.ok.code :: flagBytes s.link.errors.bits)) := exec_ok h rfl rfl
  exact ⟨link, stage⟩

/-- A node's period that runs, in RUN: it starts again and its command is queued once (R117, R120, R123). -/
theorem period_queues (s : State) (i : Nat) (c : StageCmd) (f : Node → Node) :
    (s.onNode (i + 1) f).queueNormal c (i + 1) =
      { s with
        stage :=
          { s.stage with
            nodes := s.stage.nodes.modify i f
            normal := if (⟨c, i + 1⟩ : StageEntry) ∈ s.stage.normal then s.stage.normal
              else s.stage.normal ++ [⟨c, i + 1⟩] } } := by
  by_cases hm : (⟨c, i + 1⟩ : StageEntry) ∈ s.stage.normal <;>
    simp [State.queueNormal, State.onNode, State.onStage, hm]

/-- Settles O48: whether the period runs decides, and a period that runs queues its command. -/
theorem nodePeriodsQueue : Obligations.NodePeriodsQueue := by
  intro s i hr n add
  have run : s.inRun = true := by simp [State.inRun, hr]
  have poll : exec (.pollTimeExpiry (i + 1)) s = .next (s.pollEvent (i + 1)) :=
    congrArg _ (s.whenRun_of_inRun _ run)
  have refresh : exec (.refreshTimeExpiry (i + 1)) s = .next (s.refreshEvent (i + 1)) :=
    congrArg _ (s.whenRun_of_inRun _ run)
  have row : s.node (i + 1) = n := rfl
  rw [poll, refresh, State.pollEvent, State.refreshEvent, row]
  have none_runs {o : Option Nat} (h : n.st ≠ .active ∨ o = none) : (n.st == .active && o.isSome) = false := by
    rcases h with h | h <;> simp [h]
  have one_runs {o : Option Nat} (h : n.st = .active) (h' : o ≠ none) : (n.st == .active && o.isSome) = true := by
    simp [h, Option.isSome_iff_ne_none, h']
  refine ⟨fun h => ?_, fun h h' => ?_, fun h => ?_, fun h h' => ?_⟩
  · rw [none_runs h]; rfl
  · rw [one_runs h h']; exact congrArg _ (period_queues ..)
  · rw [none_runs h]; rfl
  · rw [one_runs h h']; exact congrArg _ (period_queues ..)

end Sys2Proof.Proofs
end

section
/-! The session (chapter 1): what its shared operations make of a state, case by case, and the end of a stop. -/

-- One declaration at a time: each thread the elaborator opens takes its whole stack from the memory limit.
set_option Elab.async false

namespace Sys2Proof.Machine

open Safety

/-! ### What a raise of one notice twice leaves -/

@[simp] theorem noticed_session (ks : List NoticeKind) (s : State) : (noticed ks s).session = s.session := rfl
@[simp] theorem noticed_pins (ks : List NoticeKind) (s : State) : (noticed ks s).pins = s.pins := rfl

namespace State

/-! ### Contactors -/

theorem settled_commandedOpen (k : KState) : k.commandedOpen.settled false = .opened := by
  cases k <;> rfl

/-- R21, R22: the contactors are commanded open, as one equation. -/
theorem commandOpen_eq (s : State) :
    s.commandOpen =
      { s with
        session :=
          { s.session with
            acK := s.session.acK.commandedOpen, dcK := s.session.dcK.commandedOpen
            rampTimer := none, closeTimer := none, energiseTimer := none, openTimer := some s.now }
        pins := { s.pins with kacDrive := false, kdcpDrive := false, kdcnDrive := false } } := rfl

/-! ### The lock (R7, R23) -/

/-- R23: the feedback ends an unlocking in FINISHED with a plug and in IDLE without one. -/
theorem unlockDone_eq (s : State) :
    s.unlockDone =
      (let st : SessState := if s.session.prox.present then .finished else .idle
       { noticed [.session] s with
         session := { s.session with st := st, lock := .notEngaged, lockTimer := none, plugLossSeen := false }
         pins := { s.pins with lockDrive := .released, cpLoad := false }
         heating := { s.heating with sess := st }
         budgetIn := s.budgetIn ++ [.session st s.session.mode] }) := by
  cases hp : s.session.prox.present <;>
    simp [unlockDone, hp, enter_eq, noticed, onSession, onPins, SessState.clearsPlugLoss, Session.loadFor]

/-- R23: an unlocking that the lock has yet to make. -/
theorem goUnlocking_driven {s : State} (h : s.pins.lockFb = true) :
    s.goUnlocking =
      { noticed [.session] s with
        session := { s.session with st := .unlocking, lock := .unlockTravel, lockTimer := some s.now }
        pins := { s.pins with lockDrive := .towardReleased, cpLoad := false }
        heating := { s.heating with sess := .unlocking }
        budgetIn := s.budgetIn ++ [.session .unlocking s.session.mode] } := by
  simp [goUnlocking, h, enter_eq, noticed, onSession, onPins, SessState.clearsPlugLoss, Session.loadFor]

/-- R23, log 8: an unlocking of a lock that reports not engaged ends in the same step. -/
theorem goUnlocking_reached {s : State} (h : s.pins.lockFb = false) :
    s.goUnlocking =
      (let st : SessState := if s.session.prox.present then .finished else .idle
       { noticed [.session] s with
         session := { s.session with st := st, lock := .notEngaged, lockTimer := none, plugLossSeen := false }
         pins := { s.pins with lockDrive := .released, cpLoad := false }
         heating := { s.heating with sess := st }
         budgetIn := s.budgetIn ++ [.session .unlocking s.session.mode, .session st s.session.mode] }) := by
  simp [goUnlocking, h, enter_eq, noticed, onSession, onPins, unlockDone_eq]

/-- R7: the feedback ends a locking in AUTHORISING. -/
theorem lockDone_stays {s : State} (hp : s.session.stopPending = false) (hl : s.session.lockingLost = false) :
    s.lockDone =
      { noticed [.session] s with
        session :=
          { s.session with
            st := .authorising, lock := .engaged, lockTimer := none, stopPending := false, lockingLost := false }
        pins := { s.pins with lockDrive := .released, cpLoad := false }
        heating := { s.heating with sess := .authorising }
        budgetIn := s.budgetIn ++ [.session .authorising s.session.mode] } := by
  simp [lockDone, hp, hl, enter_eq, noticed, onSession, onPins, SessState.clearsPlugLoss, Session.loadFor]

/-- R7: a locking with a stop pending or after a CABLE_LOST goes on to UNLOCKING. -/
theorem lockDone_away {s : State} (h : s.session.stopPending = true ∨ s.session.lockingLost = true) :
    s.lockDone =
      ((s.onSession fun x =>
        { x with lock := .engaged, lockTimer := none, stopPending := false, lockingLost := false }).onPins
          fun p => { p with lockDrive := .released }).goUnlocking := by
  have away : (s.session.stopPending || s.session.lockingLost) = true := by simpa using h
  simp [lockDone, away]

/-- R7: a locking that the lock has yet to make. -/
theorem goLocking_driven {s : State} (h : s.pins.lockFb = false) :
    s.goLocking =
      { noticed [.session] s with
        session :=
          { s.session with
            st := .locking, lock := .lockTravel, lockTimer := some s.now, stopPending := false, lockingLost := false }
        pins := { s.pins with lockDrive := .towardEngaged, cpLoad := false }
        heating := { s.heating with sess := .locking }
        budgetIn := s.budgetIn ++ [.session .locking s.session.mode] } := by
  simp [goLocking, h, enter_eq, noticed, onSession, onPins, SessState.clearsPlugLoss, Session.loadFor]

/-- R7, log 8: a locking of a lock that reports engaged ends in the same step. -/
theorem goLocking_reached {s : State} (h : s.pins.lockFb = true) :
    s.goLocking =
      { noticed [.session] s with
        session :=
          { s.session with
            st := .authorising, lock := .engaged, lockTimer := none, stopPending := false, lockingLost := false }
        pins := { s.pins with lockDrive := .released, cpLoad := false }
        heating := { s.heating with sess := .authorising }
        budgetIn := s.budgetIn ++ [.session .locking s.session.mode, .session .authorising s.session.mode] } := by
  simp [goLocking, h, enter_eq, noticed, onSession, onPins, SessState.clearsPlugLoss, lockDone_stays]

/-- R25: the entry to FAULTED. -/
theorem goFaulted_eq (s : State) (k : FaultKind) :
    s.goFaulted k =
      { noticed [.session] s with
        session :=
          { s.session with
            st := .faulted, fault := some k, stopPending := false, lockingLost := false, lockTimer := none
            energiseTimer := none, closeTimer := none, openTimer := none, rampTimer := none }
        pins :=
          { s.pins with
            lockDrive := .released, kacDrive := false, kdcpDrive := false, kdcnDrive := false, cpLoad := false }
        heating := { s.heating with sess := .faulted }
        budgetIn := s.budgetIn ++ [.session .faulted s.session.mode] } := by
  simp [goFaulted, enter_eq, noticed, onSession, onPins, SessState.clearsPlugLoss, Session.loadFor]

/-! ### The close of the record (R159) -/

/-- A row changed in place is the row set. -/
theorem modify_eq_set {α : Type} (l : List α) (i : Nat) (f : α → α) (d : α) : l.modify i f = l.set i (f (l.getD i d)) := by
  by_cases h : i < l.length
  · simp [List.modify_eq_set_getElem?, h]
  · simp [List.modify_eq_set_getElem?, h, List.set_eq_of_length_le (Nat.le_of_not_lt h)]

/-- R150: a pricing point with a record open. -/
theorem pricingPoint_open {s : State} {i : Nat} (h : s.billing.openSlot = some i) :
    s.pricingPoint =
      { s with
        billing := { s.billing with slots := s.billing.slots.set i { s.billing.slot i with record := priced s i } }
        meter :=
          { s.meter with
            channel := { s.meter.channel with gridMark := s.meter.channel.grid, heatMark := s.meter.channel.heatGrid } } } := by
  simp only [pricingPoint, h, onSlot, onBilling, moveMarks, onMeter, modify_eq_set _ _ _ ({} : Slot)]
  rfl

@[simp] theorem queueTotals_billing (s : State) (b : Bool) : (s.queueTotals b).billing = s.billing := rfl
theorem queueTotals_meter (s : State) (b : Bool) :
    (s.queueTotals b).meter =
      { s.meter with lastWrite := if s.meter.lastWrite = .failed then .failed else .pending } := rfl
theorem swap_billing (s : State) :
    s.swap.billing =
      { s.billing with
        tariff := { s.billing.tariff with selector := !s.billing.tariff.selector }
        commitPending := false
        cursor := { s.billing with tariff := { s.billing.tariff with selector := !s.billing.tariff.selector } }.located } :=
  rfl
@[simp] theorem swap_meter (s : State) : s.swap.meter = s.meter := rfl
theorem swap_waits_tariff (s : State) :
    waits s.swap (.tariff { s.billing.tariff with selector := !s.billing.tariff.selector }) :=
  queueNv_waits (s.onBilling fun b =>
    { b with tariff := { b.tariff with selector := !b.tariff.selector }, commitPending := false }).relocate _ false
theorem swap_waits {s : State} {c : NvContent} (h : waits s c) (hc : c.area ≠ .tariff) : waits s.swap c :=
  queueNv_waits_other (s.onBilling fun b =>
    { b with tariff := { b.tariff with selector := !b.tariff.selector }, commitPending := false }).relocate _ _ false h hc

/-- The last steps of a close (R159 steps 3 to 6), from the state that the last pricing point and a commit have left. -/
def shutSlot (s : State) (i : Nat) (k : StopCause) : State :=
  let s := s.onSlot i fun x =>
    { st := .closed, record := x.record.settle.closed s.meter.channel s.billing.clock.time? (.stop k) }
  let s := s.onMeter fun m => { m with channel := { m.channel with isOpen := false } }
  let s := s.onBilling fun b => { b with checkpoint := none, lastClosed := some (b.slot i).record.number }
  (s.queueSlot i false).raise .record

theorem shutSlot_meter (s : State) (i : Nat) (k : StopCause) :
    (s.shutSlot i k).meter = { s.meter with channel := { s.meter.channel with isOpen := false } } := rfl

section
variable {s : State} {i : Nat} (hl : i < s.billing.slots.length) (k : StopCause)
include hl

theorem shutSlot_billing :
    (s.shutSlot i k).billing =
      { s.billing with
        slots := s.billing.slots.set i
          { st := .closed
            record := (s.billing.slot i).record.settle.closed s.meter.channel s.billing.clock.time? (.stop k) }
        checkpoint := none, lastClosed := some (s.billing.slot i).record.number } := by
  simp only [shutSlot, onSlot, modify_eq_set _ _ _ ({} : Slot), queueSlot]
  simp [queueNv, onBilling, onMeter, onNv, raise_eq, noticed, Billing.slot, hl, Record.settle, Record.addEnergy, Record.closed]

theorem shutSlot_waits :
    waits (s.shutSlot i k) (.slot i
      { st := .closed
        record := (s.billing.slot i).record.settle.closed s.meter.channel s.billing.clock.time? (.stop k) }) := by
  have image := congrArg (fun b => b.slot i) (shutSlot_billing hl k)
  simp only [Billing.slot, List.getD_eq_getElem?_getD, List.getElem?_set_self hl, Option.getD_some] at image
  rw [Billing.slot, List.getD_eq_getElem?_getD, ← image]
  exact queueNv_waits _ _ false

end

theorem shutSlot_waits_other {s : State} {c : NvContent} (i : Nat) (k : StopCause) (h : waits s c) (hc : c.area ≠ .slot i) :
    waits (s.shutSlot i k) c :=
  queueNv_waits_other _ _ _ false h hc

theorem shutSlot_record (s : State) (i : Nat) (k : StopCause) : NoticeKind.record ∈ (s.shutSlot i k).link.notices := by
  simp only [shutSlot, raise_notices]
  split <;> simp_all

theorem closeRecord_eq {s : State} {i : Nat} (h : s.billing.openSlot = some i) (k : StopCause) :
    s.closeRecord k false =
      ((s.pricingPoint.queueTotals false).doIf s.pricingPoint.billing.commitPending swap).shutSlot i k := by
  simp only [closeRecord, h]
  rfl

/-- The last steps of a close leave, after the last pricing point, the closed image of the slot. -/
theorem shutSlot_closes {s u : State} {i : Nat} (hi : s.billing.openSlot = some i) (k : StopCause)
    (slots : u.billing.slots = s.billing.slots.set i { s.billing.slot i with record := priced s i })
    (clock : u.billing.clock = s.billing.clock) (meter : u.meter = marksMoved s.meter) :
    (u.shutSlot i k).billing =
        { u.billing with
          slots := s.billing.slots.set i (closedImage s i k)
          checkpoint := none, lastClosed := some (s.billing.slot i).record.number } ∧
      waits (u.shutSlot i k) (.slot i (closedImage s i k)) := by
  have hl : i < s.billing.slots.length := openSlot_lt s i hi
  have hl' : i < u.billing.slots.length := by simpa [slots] using hl
  have row : u.billing.slot i = { s.billing.slot i with record := priced s i } := by
    simp [Billing.slot, slots, hl]
  have image : ({ st := .closed
                  record := (u.billing.slot i).record.settle.closed u.meter.channel u.billing.clock.time? (.stop k) } :
      Slot) = closedImage s i k := by
    rw [row, meter, clock]
    rfl
  have number : (u.billing.slot i).record.number = (s.billing.slot i).record.number := by
    rw [row]
    simp only [priced, Record.pricePoint]
    split
    · rfl
    · simp only [Record.addEnergy, Record.chooseSegment]
      split
      · rfl
      · split_ifs <;> rfl
  have shut := shutSlot_billing hl' k
  have wait := shutSlot_waits hl' k
  rw [image] at shut wait
  refine ⟨?_, wait⟩
  rw [shut, number, slots, List.set_set]

/-- R136, R159: the close of the open record. -/
theorem closeRecord_closes (s : State) (k : StopCause) : recordClosed k s (s.closeRecord k false) := by
  intro i hi b swapped
  rw [closeRecord_eq hi]
  set q := s.pricingPoint.queueTotals false with hq
  have billing : q.billing =
      { s.billing with slots := s.billing.slots.set i { s.billing.slot i with record := priced s i } } := by
    simp [hq, pricingPoint_open hi]
  have meter : q.meter = marksMoved s.meter := by simp [hq, pricingPoint_open hi, queueTotals_meter, marksMoved]
  have totals : waits q (.totals s.meter.totals) := by
    have h := queueNv_waits s.pricingPoint (.totals s.pricingPoint.meter.totals) false
    have kept : s.pricingPoint.meter.totals = s.meter.totals := by rw [pricingPoint_open hi]
    simpa only [hq, queueTotals, kept] using h
  have pending : s.pricingPoint.billing.commitPending = s.billing.commitPending := by simp [pricingPoint_open hi]
  rw [pending]
  cases hc : s.billing.commitPending with
  | false =>
    obtain ⟨shut, wait⟩ := shutSlot_closes hi k (u := q) (by rw [billing]) (by rw [billing]) meter
    rw [billing] at shut
    refine ⟨fun _ => shut, fun h => by simp at h, ?_, wait, shutSlot_waits_other i k totals (by simp [NvContent.area]), shutSlot_record _ _ _⟩
    rw [doIf_false, shutSlot_meter, meter]
  | true =>
    obtain ⟨shut, wait⟩ := shutSlot_closes hi k (u := q.swap) (by rw [swap_billing, billing]) (by rw [swap_billing, billing]) meter
    have tariff := swap_waits_tariff q
    rw [swap_billing, billing] at shut
    rw [billing] at tariff
    refine ⟨fun h => by simp at h, fun _ => ⟨shut, shutSlot_waits_other i k tariff (by simp [NvContent.area])⟩, ?_, wait,
      shutSlot_waits_other i k (swap_waits totals (by simp [NvContent.area])) (by simp [NvContent.area]), shutSlot_record _ _ _⟩
    rw [doIf_true, shutSlot_meter, swap_meter, meter]

/-- What a close reads is billing and the meter, and what it leaves stands in billing, the meter, the store and the notices. -/
theorem recordClosed_of {s u v t : State} {k : StopCause} (h : recordClosed k u v) (billing : u.billing = s.billing)
    (meter : u.meter = s.meter) (billing' : t.billing = v.billing) (meter' : t.meter = v.meter) (nv : t.nv = v.nv)
    (notices : ∀ n ∈ v.link.notices, n ∈ t.link.notices) : recordClosed k s t := by
  intro i hi
  rw [← billing] at hi
  have h' := h i hi
  simp only [closedBilling, closedImage, priced, waits, billing, meter, billing', meter', nv] at h' ⊢
  obtain ⟨plain, swapped, channel, slot, totals, record⟩ := h'
  exact ⟨plain, swapped, channel, slot, totals, notices _ record⟩

/-! ### The end of a stop (R21, R23) -/

/-- R12, R33: a station record is cleared and posted ABSENT. -/
theorem clearStation_eq (s : State) :
    s.clearStation =
      { s with
        session := { s.session with station := none }
        budgetIn := s.budgetIn ++ if s.session.station = none then [] else [.stationAbsent] } := by
  unfold clearStation
  cases h : s.session.station with
  | none => simp [← h]
  | some r => simp [onSession, postBudget]

section
variable {s : State}

theorem afterStop_faulted {k : FaultKind} (h : s.session.fault = some k) : s.afterStop false = s.goFaulted k := by
  simp [afterStop, h]

theorem afterStop_keeps (h : s.session.fault = none)
    (keeps : s.power.hostReset = true ∨
      (s.session.unlockOnStop = false ∧ s.session.stopCause ≠ some .cableLost ∧ s.session.plugLossSeen = false)) :
    s.afterStop false = s.enter .finished := by
  rcases keeps with k | ⟨k, k', k''⟩
  · simp [afterStop, h, k]
  · simp [afterStop, h, k, k', k'']

theorem afterStop_releases (h : s.session.fault = none)
    (keeps : ¬ (s.power.hostReset = true ∨
      (s.session.unlockOnStop = false ∧ s.session.stopCause ≠ some .cableLost ∧ s.session.plugLossSeen = false))) :
    s.afterStop false = s.goUnlocking := by
  obtain ⟨host, calls⟩ := not_or.1 keeps
  have calls' : (s.session.unlockOnStop || s.session.stopCause == some .cableLost || s.session.plugLossSeen) = true := by
    by_contra hn
    simp only [Bool.not_eq_true, Bool.or_eq_false_iff, beq_eq_false_iff_ne] at hn
    obtain ⟨⟨hu, hc⟩, hp⟩ := hn
    exact calls ⟨hu, hc, hp⟩
  simp [afterStop, h, Bool.not_eq_true _ ▸ host, calls']

/-- R23: wherever the session goes after a stop, the drives of the contactors stay off and no ramp begins. -/
theorem afterStop_resting (drives : s.pins.kacDrive = false ∧ s.pins.kdcpDrive = false ∧ s.pins.kdcnDrive = false)
    (ramp : s.session.rampTimer = none) :
    (s.afterStop false).pins.kacDrive = false ∧ (s.afterStop false).pins.kdcpDrive = false ∧
      (s.afterStop false).pins.kdcnDrive = false ∧ (s.afterStop false).session.rampTimer = none := by
  obtain ⟨ac, pos, neg⟩ := drives
  cases hf : s.session.fault with
  | some k => simp [afterStop_faulted hf, goFaulted_eq]
  | none =>
    by_cases keeps : s.power.hostReset = true ∨
      (s.session.unlockOnStop = false ∧ s.session.stopCause ≠ some .cableLost ∧ s.session.plugLossSeen = false)
    · simp [afterStop_keeps hf keeps, enter_eq, ac, pos, neg, ramp]
    · rw [afterStop_releases hf keeps]
      cases hl : s.pins.lockFb
      · simp [goUnlocking_reached hl, ac, pos, neg, ramp]
      · simp [goUnlocking_driven hl, ac, pos, neg, ramp]

end

/-- A change that the end of a stop does not tell from none: what it reads besides the cause and the fault stands. -/
structure SameStop (s u : State) : Prop where
  frame : onlyChanges [.session, .pins, .heating, .link, .budgetIn] s u
  mode : u.session.mode = s.session.mode
  station : u.session.station = s.session.station
  lock : u.session.lock = s.session.lock
  unlockOnStop : u.session.unlockOnStop = s.session.unlockOnStop
  plugLossSeen : u.session.plugLossSeen = s.session.plugLossSeen
  prox : u.session.prox = s.session.prox
  lockFb : u.pins.lockFb = s.pins.lockFb

/-- The state `s` with a stop under way in it and every contact open. -/
structure StopOpen (s u : State) : Prop extends SameStop s u where
  st : u.session.st = .stopping
  opened : contactsOpen u

/-- What a stop that has ended leaves can be told from the state before such a change too. -/
theorem stopDone_of {cause : Option StopCause} {fault : Option FaultKind} {s u t : State} (same : SameStop s u)
    (h : stopDone cause fault u t) : stopDone cause fault s t := by
  have power := onlyChanges_power same.frame
  have iso := onlyChanges_iso same.frame
  have now := onlyChanges_now same.frame
  simp only [stopDone, power, iso, now, same.mode, same.station, same.lock, same.unlockOnStop, same.plugLossSeen, same.prox,
    same.lockFb] at h ⊢
  obtain ⟨kept, driven, reached, faulted, acK, dcK, openTimer, ramp, station, phases, absent, cause', load, kac, kdcp, kdcn, iso',
    closed, frame⟩ := h
  exact ⟨kept, driven, reached, faulted, acK, dcK, openTimer, ramp, station, phases, absent, cause', load, kac, kdcp, kdcn, iso',
    recordClosed_of closed (onlyChanges_billing same.frame) (onlyChanges_meter same.frame) rfl rfl rfl fun _ h => h,
    onlyChanges_trans same.frame frame⟩

/-- R21, R22, log 8: in RUN, with every contact open, commanding the contactors open ends the stop. -/
theorem openContactors_ended {u : State} (run : u.power.part = .run) (st : u.session.st = .stopping) (opened : contactsOpen u) :
    u.openContactors = u.commandOpen.stopEnd false := by
  obtain ⟨ac, pos, neg⟩ := opened
  simp [openContactors, openingCheck, commandOpen_eq, doIf, inRun, run, st, Pins.allOpen, ac, pos, neg]

/-- The contactors settled, the load released: the first step of a stop's end after the contactors were commanded open. -/
def settledOpen (u : State) : State :=
  { u with
    session :=
      { u.session with
        acK := .opened, dcK := .opened
        rampTimer := none, closeTimer := none, energiseTimer := none, openTimer := none }
    pins := { u.pins with kacDrive := false, kdcpDrive := false, kdcnDrive := false, cpLoad := false } }

/-- What a stop's end does after the contactors have settled. -/
def stopRest (s : State) (timedOut : Bool) : State :=
  let s := s.doIf (s.session.mode == some .dc) fun s => s.tellDcOpen
  let s := s.closeRecord (s.session.stopCause.getD .hostStop) false
  ((s.afterStop timedOut).postBudget (.phases 0)).clearStation

theorem stopEnd_commandOpen {u : State} (opened : contactsOpen u) : u.commandOpen.stopEnd false = u.settledOpen.stopRest false := by
  obtain ⟨ac, pos, neg⟩ := opened
  have settled : ((u.commandOpen.settleContactors.onSession fun x => { x with openTimer := none }).onPins
      fun p => { p with cpLoad := false }) = u.settledOpen := by
    simp [commandOpen_eq, settleContactors, onSession, onPins, settledOpen, ac, pos, neg, settled_commandedOpen]
  rw [← settled]
  rfl

/-- R16, R90: a report of the monitor leaves HOST_PAUSE in the set as it was. -/
theorem isoChange_hostPause (s : State) (f : Insulation → Insulation) :
    (s.isoChange f).session.causes.hostPause = s.session.causes.hostPause := by
  unfold isoChange
  dsimp only
  split
  · rfl
  · rw [raise_session, postBudget_session, (setCauses_session _ _).1]
    rfl

/-- What the close in a stop's end leaves before the session goes on (R21, R93, R159). -/
structure Shut (w x : State) : Prop where
  session : ∃ c : PauseSet, x.session = { w.session with causes := c } ∧ c.hostPause = w.session.causes.hostPause
  pins : x.pins = w.pins
  iso : x.iso = if w.session.mode = some .dc then w.iso.dcOpened w.now else w.iso
  closed : recordClosed (w.session.stopCause.getD .hostStop) w x
  frame : onlyChanges [.session, .iso, .pins, .link, .budgetIn, .meter, .billing, .nv] w x

/-- The steps of a stop's end before the session goes on: the monitor is told and the record closed. -/
def shut (w : State) : State :=
  let s := w.doIf (w.session.mode == some .dc) fun s => s.tellDcOpen
  s.closeRecord (s.session.stopCause.getD .hostStop) false

theorem stopRest_eq (w : State) (b : Bool) : w.stopRest b = ((w.shut.afterStop b).postBudget (.phases 0)).clearStation := rfl

theorem shut_facts {w : State} (st : w.session.st = .stopping) (load : w.pins.cpLoad = false) : Shut w w.shut := by
  obtain ⟨v, hv⟩ : ∃ v, v = w.doIf (w.session.mode == some .dc) fun s => s.tellDcOpen := ⟨_, rfl⟩
  have told : (∃ c : PauseSet, v.session = { w.session with causes := c } ∧ c.hostPause = w.session.causes.hostPause) ∧
      v.pins = w.pins ∧ v.iso = (if w.session.mode = some .dc then w.iso.dcOpened w.now else w.iso) ∧
      onlyChanges [.iso, .session, .pins, .link, .budgetIn] w v := by
    by_cases dc : w.session.mode = some .dc
    · obtain ⟨iso, ⟨c, session⟩, pins, frame⟩ := isoChange_stopping w (fun x => x.dcOpened w.now) st load
      have pause := isoChange_hostPause w (fun x => x.dcOpened w.now)
      have told : v = w.isoChange fun x => x.dcOpened w.now := by simp [hv, dc, tellDcOpen]
      rw [← told] at iso session pins frame pause
      rw [session] at pause
      exact ⟨⟨c, session, pause⟩, pins, by simp [iso, dc], frame⟩
    · have same : v = w := by rw [hv, beq_false_of_ne dc, doIf_false]
      subst same
      exact ⟨⟨_, rfl, rfl⟩, rfl, by simp [dc], onlyChanges_refl _ _⟩
  obtain ⟨⟨c, session, pause⟩, pins, iso, frame⟩ := told
  have cause : v.session.stopCause = w.session.stopCause := by rw [session]
  have close : w.shut = v.closeRecord (w.session.stopCause.getD .hostStop) false := by rw [shut, ← hv, ← cause]
  obtain ⟨session', pins', iso', frame', power⟩ := v.closeRecord_keeps (w.session.stopCause.getD .hostStop) false
  rw [← close] at session' pins' iso' frame' power
  refine ⟨⟨c, session'.trans session, pause⟩, pins'.trans pins, iso'.trans iso, ?_, ?_⟩
  · rw [close]
    exact recordClosed_of (closeRecord_closes v _) (onlyChanges_billing frame) (onlyChanges_meter frame) rfl rfl rfl
      fun _ h => h
  · have kept : onlyChanges [.meter, .billing, .nv, .link, .budgetIn] v w.shut := by
      simp only [onlyChanges] at frame' ⊢
      simp_all
    exact onlyChanges_trans frame kept

/-- R12, R21 to R23, R159: a stop that commands its contactors open with every contact open has come to its end. -/
theorem StopOpen.done {s u : State} (h : StopOpen s u) (run : s.power.part = .run) :
    stopDone u.session.stopCause u.session.fault s u.openContactors := by
  have run' : u.power.part = .run := by rw [onlyChanges_power h.frame, run]
  rw [openContactors_ended run' h.st h.opened, stopEnd_commandOpen h.opened, stopRest_eq]
  have shut := shut_facts (w := u.settledOpen) h.st rfl
  obtain ⟨x, hx⟩ : ∃ x, x = u.settledOpen.shut := ⟨_, rfl⟩
  rw [← hx] at shut ⊢
  obtain ⟨⟨c, session, _⟩, pins, iso, closed, frame⟩ := shut
  have frame' : onlyChanges [.session, .pins, .heating, .link, .budgetIn] s u.settledOpen :=
    onlyChanges_trans h.frame (by simp [settledOpen, onlyChanges] :
      onlyChanges [.session, .pins, .heating, .link, .budgetIn] u u.settledOpen)
  have power : x.power = s.power := (onlyChanges_power frame).trans (onlyChanges_power frame')
  have lockFb : x.pins.lockFb = s.pins.lockFb := by rw [pins, ← h.lockFb]; rfl
  have fault : x.session.fault = u.session.fault := by rw [session]; rfl
  have prox : x.session.prox = s.session.prox := by rw [session, ← h.prox]; rfl
  have lock : x.session.lock = s.session.lock := by rw [session, ← h.lock]; rfl
  have station : x.session.station = s.session.station := by rw [session, ← h.station]; rfl
  have keeps : (x.power.hostReset = true ∨ (x.session.unlockOnStop = false ∧ x.session.stopCause ≠ some .cableLost ∧
      x.session.plugLossSeen = false)) ↔ (s.power.hostReset = true ∨ (s.session.unlockOnStop = false ∧
      u.session.stopCause ≠ some .cableLost ∧ s.session.plugLossSeen = false)) := by
    rw [power, session, ← h.unlockOnStop, ← h.plugLossSeen]
    rfl
  rw [clearStation_eq]
  refine ⟨fun hf hk => ?kept, fun hf hk hl => ?driven, fun hf hk hl => ?reached, fun f hf => ?faulted, ?rest⟩
  case kept =>
    rw [afterStop_keeps (fault.trans hf) (keeps.2 hk)]
    simp [enter_eq, lock]
  case driven =>
    rw [afterStop_releases (fault.trans hf) (mt keeps.1 hk), goUnlocking_driven (lockFb.trans hl)]
    simp
  case reached =>
    rw [afterStop_releases (fault.trans hf) (mt keeps.1 hk), goUnlocking_reached (lockFb.trans hl)]
    simp [prox]
  case faulted =>
    rw [afterStop_faulted (fault.trans hf)]
    simp [goFaulted_eq]
  case rest =>
    obtain ⟨-, -, -, -, openTimer, acK, dcK, stopCause, load, station', notices, after⟩ := x.afterStop_facts false
    obtain ⟨ac, pos, neg, ramp⟩ := afterStop_resting (s := x) (by rw [pins]; exact ⟨rfl, rfl, rfl⟩) (by rw [session]; rfl)
    refine ⟨?acK, ?dcK, ?openTimer, ?rampTimer, rfl, ?phases, ?absent, ?cause, ?load, ?kac, ?kdcp, ?kdcn, ?iso, ?closed, ?frame⟩
    case acK => simp [acK, session, settledOpen]
    case dcK => simp [dcK, session, settledOpen]
    case openTimer => exact openTimer (by rw [session]; rfl)
    case rampTimer => exact ramp
    case phases => simp
    case absent =>
      intro hs
      simp [station', station, hs]
    case cause => simp [stopCause, session, settledOpen]
    case load => exact load (by rw [pins]; rfl)
    case kac => exact ac
    case kdcp => exact pos
    case kdcn => exact neg
    case iso =>
      have mode : u.settledOpen.session.mode = s.session.mode := h.mode
      simp [onlyChanges_iso after, iso, mode, onlyChanges_iso frame', onlyChanges_now frame']
    case closed =>
      have billing := onlyChanges_billing after
      have meter := onlyChanges_meter after
      have nv := onlyChanges_nv after
      exact recordClosed_of closed (onlyChanges_billing frame') (onlyChanges_meter frame') billing meter nv notices
    case frame =>
      exact onlyChanges_trans (onlyChanges_trans (onlyChanges_trans frame' frame
        (rs := [.session, .pins, .heating, .link, .budgetIn, .iso, .meter, .billing, .nv])) after
        (rs := [.session, .pins, .heating, .link, .budgetIn, .iso, .meter, .billing, .nv]))
        (by simp [onlyChanges, postBudget] : onlyChanges [.session, .budgetIn] _ _)

/-- What the session's moves leave of a state: HOST_PAUSE, the inlet temperatures and the replies as they stood, and every
posting and notice that was on its way. -/
structure Onward (s t : State) : Prop where
  hostPause : t.session.causes.hostPause = s.session.causes.hostPause
  temp1 : t.session.temp1 = s.session.temp1
  temp2 : t.session.temp2 = s.session.temp2
  replies : t.link.replies = s.link.replies
  budgetIn : s.budgetIn <+: t.budgetIn
  notices : ∀ n ∈ s.link.notices, n ∈ t.link.notices

theorem mem_withNotices_one {n : NoticeKind} {l : List NoticeKind} (k : NoticeKind) (h : n ∈ l) : n ∈ withNotices [k] l := by
  rw [withNotices_one]
  split <;> simp [h]

namespace Onward

theorem refl (s : State) : Onward s s := ⟨rfl, rfl, rfl, rfl, List.prefix_rfl, fun _ h => h⟩

theorem trans {s t u : State} (h : Onward s t) (h' : Onward t u) : Onward s u where
  hostPause := h'.hostPause.trans h.hostPause
  temp1 := h'.temp1.trans h.temp1
  temp2 := h'.temp2.trans h.temp2
  replies := h'.replies.trans h.replies
  budgetIn := h.budgetIn.trans h'.budgetIn
  notices n hn := h'.notices n (h.notices n hn)

/-- A change that moves neither the session, the host link nor the postings. -/
theorem of_frame {ps : List Piece} {s t : State} (h : onlyChanges ps s t)
    (hp : Piece.session ∉ ps ∧ Piece.link ∉ ps ∧ Piece.budgetIn ∉ ps := by decide) : Onward s t := by
  obtain ⟨hs, hl, hb⟩ := hp
  have session := onlyChanges_session h hs
  have link := onlyChanges_link h hl
  have budgetIn := onlyChanges_budgetIn h hb
  exact ⟨by rw [session], by rw [session], by rw [session], by rw [link], by rw [budgetIn],
    by rw [link]; exact fun _ h => h⟩

theorem onSession (s : State) (f : Session → Session) (hp : (f s.session).causes.hostPause = s.session.causes.hostPause)
    (h1 : (f s.session).temp1 = s.session.temp1) (h2 : (f s.session).temp2 = s.session.temp2) :
    Onward s (s.onSession f) := ⟨hp, h1, h2, rfl, List.prefix_rfl, fun _ h => h⟩

theorem postBudget (s : State) (p : BudgetPosting) : Onward s (s.postBudget p) :=
  ⟨rfl, rfl, rfl, rfl, List.prefix_append _ _, fun _ h => h⟩

theorem raise (s : State) (k : NoticeKind) : Onward s (s.raise k) := by
  rw [raise_eq]
  exact ⟨rfl, rfl, rfl, rfl, List.prefix_rfl, fun _ h => mem_withNotices_one k h⟩

theorem doIf {s t : State} (h : Onward s t) (c : Bool) (f : State → State) (hf : ∀ t, Onward t (f t)) : Onward s (t.doIf c f) := by
  cases c
  · exact h
  · exact h.trans (hf t)

theorem enter (s : State) (st : SessState) : Onward s (s.enter st) := by
  rw [enter_eq]
  exact ⟨rfl, rfl, rfl, rfl, List.prefix_append _ _, fun _ h => mem_withNotices_one .session h⟩

theorem setCauses (s : State) {c : PauseSet} (h : c.hostPause = s.session.causes.hostPause) : Onward s (s.setCauses c) := by
  have set : Onward s ((s.onSession fun x => { x with causes := c }).raise .session) :=
    (onSession s _ h rfl rfl).trans (raise _ _)
  unfold State.setCauses
  split
  · exact refl s
  · dsimp only
    split
    · exact set.trans (enter _ _)
    · split
      · exact set.trans (enter _ _)
      · exact set.trans (of_frame (onPins_frame _ _))

theorem isoChange (s : State) (f : Insulation → Insulation) : Onward s (s.isoChange f) := by
  unfold State.isoChange
  dsimp only
  split
  · exact of_frame (onIso_frame s f)
  · have moved := (of_frame (onIso_frame s f)).trans
      (setCauses (s.onIso f) (c := { (s.onIso f).session.causes with searchHold := (s.onIso f).iso.hold }) rfl)
    exact (moved.trans (postBudget _ _)).trans (raise _ _)

theorem unlockDone (s : State) : Onward s s.unlockDone := by
  rw [unlockDone_eq]
  exact ⟨rfl, rfl, rfl, rfl, List.prefix_append _ _, fun _ h => mem_withNotices_one .session h⟩

theorem goUnlocking (s : State) : Onward s s.goUnlocking := by
  cases h : s.pins.lockFb
  · rw [goUnlocking_reached h]
    exact ⟨rfl, rfl, rfl, rfl, List.prefix_append _ _, fun _ h => mem_withNotices_one .session h⟩
  · rw [goUnlocking_driven h]
    exact ⟨rfl, rfl, rfl, rfl, List.prefix_append _ _, fun _ h => mem_withNotices_one .session h⟩

theorem goFaulted (s : State) (k : FaultKind) : Onward s (s.goFaulted k) := by
  rw [goFaulted_eq]
  exact ⟨rfl, rfl, rfl, rfl, List.prefix_append _ _, fun _ h => mem_withNotices_one .session h⟩

theorem clearStation (s : State) : Onward s s.clearStation := by
  rw [clearStation_eq]
  exact ⟨rfl, rfl, rfl, rfl, List.prefix_append _ _, fun _ h => h⟩

theorem afterStop (s : State) (b : Bool) : Onward s (s.afterStop b) := by
  unfold State.afterStop
  split
  · exact goFaulted s _
  · split
    · exact goFaulted s _
    · split
      · exact enter s _
      · split
        · exact goUnlocking s
        · exact enter s _

theorem swap (s : State) : Onward s s.swap := by
  unfold State.swap
  dsimp only
  refine trans ?_ (raise _ _)
  exact ⟨rfl, rfl, rfl, rfl, List.prefix_append _ _, fun _ h => h⟩

theorem shutSlot (s : State) (i : Nat) (k : StopCause) : Onward s (s.shutSlot i k) := by
  unfold State.shutSlot
  dsimp only
  refine trans ?_ (raise _ _)
  exact ⟨rfl, rfl, rfl, rfl, List.prefix_rfl, fun _ h => h⟩

theorem closeRecord (s : State) (k : StopCause) : Onward s (s.closeRecord k false) := by
  cases hi : s.billing.openSlot with
  | none =>
    rw [State.closeRecord, hi]
    exact refl s
  | some i =>
    rw [closeRecord_eq hi]
    have priced : Onward s (s.pricingPoint.queueTotals false) :=
      (of_frame (pricingPoint_frame s)).trans (of_frame (queueNv_frame _ _ _))
    exact (priced.doIf _ _ swap).trans (shutSlot _ _ _)

theorem stopRest (s : State) (b : Bool) : Onward s (s.stopRest b) := by
  have told : Onward s (s.doIf (s.session.mode == some .dc) fun s => s.tellDcOpen) :=
    (refl s).doIf _ _ fun t => isoChange t _
  exact (((told.trans (closeRecord _ _)).trans (afterStop _ _)).trans (postBudget _ _)).trans (clearStation _)

theorem stopEnd (s : State) (b : Bool) : Onward s (s.stopEnd b) := by
  have settled : Onward s ((s.settleContactors.onSession fun x => { x with openTimer := none }).onPins
      fun p => { p with cpLoad := false }) :=
    ⟨rfl, rfl, rfl, rfl, List.prefix_rfl, fun _ h => h⟩
  exact settled.trans (stopRest _ b)

theorem openContactors (s : State) : Onward s s.openContactors := by
  have commanded : Onward s s.commandOpen := ⟨rfl, rfl, rfl, rfl, List.prefix_rfl, fun _ h => h⟩
  exact commanded.doIf _ _ fun t => stopEnd t false

end Onward

/-! ### The beginning of a stop (R20 to R22) -/

/-- R15, R20: the entry to STOPPING with a cause. -/
def stopBegun (s : State) (k : StopCause) : State :=
  { noticed [.session] s with
    session :=
      { s.session with
        st := .stopping, stopCause := some k, causes := { s.session.causes with hostPause := false }, dcRequest := 0
        energiseTimer := none }
    heating := { s.heating with sess := .stopping }
    budgetIn := s.budgetIn ++ [.session .stopping s.session.mode] }

theorem beginStop_eq (s : State) (k : StopCause) :
    s.beginStop k =
      if k.emergency = true ∨ s.session.st = .energising ∨ s.inletCurrent < 10 then (s.stopBegun k).openContactors
      else (s.stopBegun k).onSession fun x => { x with rampTimer := some s.now } := by
  have begun : (s.onSession fun x =>
      { x with
        stopCause := some k, causes := { x.causes with hostPause := false }, energiseTimer := none
        dcRequest := 0 }).enter .stopping = s.stopBegun k := by
    simp [enter_eq, onSession, noticed, stopBegun, SessState.clearsPlugLoss, Session.loadFor]
  simp only [beginStop, begun, Bool.or_eq_true, beq_iff_eq, decide_eq_true_eq, or_assoc]
  rfl

/-- R21: a stop by its ramp. -/
theorem beginStop_ramp {s : State} {k : StopCause} (hk : k.emergency = false) (hs : s.session.st ≠ .energising)
    (hi : 10 ≤ s.inletCurrent) :
    s.beginStop k = (s.stopBegun k).onSession fun x => { x with rampTimer := some s.now } := by
  rw [beginStop_eq, if_neg]
  simp [hk, hs, hi]

/-- R21, R22: a stop that opens its contactors at once. -/
theorem beginStop_atOnce {s : State} {k : StopCause}
    (h : k.emergency = true ∨ s.session.st = .energising ∨ s.inletCurrent < 10) :
    s.beginStop k = (s.stopBegun k).openContactors := by
  rw [beginStop_eq, if_pos h]

/-- With a contact closed, commanding the contactors open leaves the stop to their feedback. -/
theorem openContactors_waiting {s : State} (closed : ¬ contactsOpen s) : s.openContactors = s.commandOpen := by
  have open' : s.commandOpen.pins.allOpen = false := (allOpen_eq_false _).2 closed
  simp [openContactors, openingCheck, open']

/-- R21, R22: a stop that opens its contactors at once, with a contact closed. -/
theorem beginStop_waiting {s : State} {k : StopCause}
    (h : k.emergency = true ∨ s.session.st = .energising ∨ s.inletCurrent < 10) (closed : ¬ contactsOpen s) :
    s.beginStop k = (s.stopBegun k).commandOpen := by
  rw [beginStop_atOnce h, openContactors_waiting (s := s.stopBegun k) closed]

theorem stopBegun_open {s : State} (k : StopCause) (opened : contactsOpen s) : StopOpen s (s.stopBegun k) where
  frame := by simp [stopBegun, onlyChanges, noticed]
  st := rfl
  mode := rfl
  station := rfl
  lock := rfl
  unlockOnStop := rfl
  plugLossSeen := rfl
  prox := rfl
  lockFb := rfl
  opened := opened

/-- A stop that begins with every contact open ends in the same step (log 8). -/
theorem beginStop_done {s : State} {k : StopCause} (run : s.power.part = .run)
    (h : k.emergency = true ∨ s.session.st = .energising ∨ s.inletCurrent < 10) (opened : contactsOpen s) :
    stopDone (some k) s.session.fault s (s.beginStop k) ∧ Onward (s.stopBegun k) (s.beginStop k) := by
  rw [beginStop_atOnce h]
  exact ⟨(stopBegun_open k opened).done run, Onward.openContactors _⟩

end State

end Sys2Proof.Machine
end

section
/-! The session's requests (R8, R9, R13, R20 to R26). -/

-- One declaration at a time: each thread the elaborator opens takes its whole stack from the memory limit.
set_option Elab.async false

namespace Sys2Proof.Machine

open Safety

namespace State

/-- A stop that has ended has ended with its reply placed as well. -/
theorem stopDone_replied {cause : Option StopCause} {fault : Option FaultKind} {s t : State} (h : stopDone cause fault s t)
    (code tag : Byte) (p : List Byte) : stopDone cause fault s (replied t code tag p) := by
  simp only [stopDone] at h ⊢
  obtain ⟨kept, driven, reached, faulted, acK, dcK, openTimer, ramp, station, phases, absent, cause', load, kac, kdcp, kdcn, iso,
    closed, frame⟩ := h
  exact ⟨kept, driven, reached, faulted, acK, dcK, openTimer, ramp, station, phases, absent, cause', load, kac, kdcp, kdcn, iso,
    recordClosed_of closed rfl rfl rfl rfl rfl fun _ h => h, onlyChanges_replied frame ..⟩

/-- R20: in a state that draws or energises, a stop cause begins a stop. -/
theorem takeStop_charging {s : State} (hs : s.session.st = .energising ∨ s.session.st = .active ∨ s.session.st = .paused)
    (k : StopCause) : s.takeStop k = s.beginStop k := by
  rcases hs with h | h | h <;> simp [takeStop, h]

/-- R25: the fault kind is cleared; with every contact open the contactors are settled. -/
def faultCleared (s : State) : State :=
  { s with
    session :=
      { s.session with
        fault := none, acK := s.session.acK.settled s.pins.kacFb
        dcK := s.session.dcK.settled (s.pins.kdcpFb || s.pins.kdcnFb) } }

end State

/-- A request its owner answers OK without contents: the reply, and what the owner did. -/
theorem exec_done {s t : State} {c : Instr} {code tag : Byte} (h : mayServe s) (hc : requestHead c = some (code, tag))
    (own : State.owner c s = okWith t []) {ks : List NoticeKind} (hn : notices ks s t) :
    exec c s = .next (replied t code tag [byte Status.ok.code]) ∧
      answers code tag .ok [] ks s (replied t code tag [byte Status.ok.code]) :=
  ⟨exec_ok h hc own, answers_replied hn ..⟩

end Sys2Proof.Machine

namespace Sys2Proof.Proofs

open Machine Safety

theorem mode?_of_le {n : Nat} (h : n ≤ 1) : mode? n = some (if n = 0 then .ac else .dc) := by
  obtain rfl | rfl : n = 0 ∨ n = 1 := by omega
  · rfl
  · rfl
theorem mode?_none {n : Nat} (h : ¬ n ≤ 1) : mode? n = none := by
  obtain ⟨k, rfl⟩ : ∃ k, n = k + 2 := ⟨n - 2, by omega⟩
  rfl
theorem yesNo?_of_le {n : Nat} (h : n ≤ 1) : yesNo? n = some (decide (n = 1)) := by
  obtain rfl | rfl : n = 0 ∨ n = 1 := by omega
  · rfl
  · rfl
theorem yesNo?_none {n : Nat} (h : ¬ n ≤ 1) : yesNo? n = none := by
  obtain ⟨k, rfl⟩ : ∃ k, n = k + 2 := ⟨n - 2, by omega⟩
  rfl

section
variable {s : State} {mode phases unlock : Nat} {ref : List Byte} (hs : s.session.st = .authorising)
include hs

/-- R8: fields outside their sets. -/
theorem ownAuthorise_illegal (h : ¬ authoriseLegal mode phases unlock ref) :
    s.ownAuthorise mode phases unlock ref = refuse s .badValue := by
  by_cases hm : mode ≤ 1
  · by_cases hu : unlock ≤ 1
    · have hpr : (phases ≠ 1 ∧ phases ≠ 3) ∨ 16 < ref.length := by
        simp only [authoriseLegal, not_and, hm, hu, true_imp_iff] at h
        by_contra hn
        simp only [not_or, not_and_or, not_not, not_lt] at hn
        exact h hn.1 hn.2
      simp [State.ownAuthorise, hs, mode?_of_le hm, yesNo?_of_le hu, hpr]
    · simp [State.ownAuthorise, hs, yesNo?_none hu]
  · simp [State.ownAuthorise, hs, mode?_none hm]

/-- R8: fields within their sets, and the checks that follow. -/
theorem ownAuthorise_legal (h : authoriseLegal mode phases unlock ref) :
    s.ownAuthorise mode phases unlock ref =
      if s.iso.assess = .fault ∨ s.iso.assess = .critical then refuse s .state
      else if ¬ s.inletReady then refuse s .state
      else
        match s.billing.offer with
        | none => refuse s .logFull
        | some slot => okWith (s.authorised slot (if mode = 0 then .ac else .dc) phases (decide (unlock = 1)) ref) [] := by
  obtain ⟨hm, hp, hu, hr⟩ := h
  have hpr : ¬ ((phases ≠ 1 ∧ phases ≠ 3) ∨ 16 < ref.length) := by omega
  simp [State.ownAuthorise, hs, mode?_of_le hm, yesNo?_of_le hu, hpr] <;> rfl

end

/-- Settles O13: the checks of the owner, one after the other. -/
theorem authoriseRefusedInOrder : Obligations.AuthoriseRefusedInOrder := by
  intro s tag mode phases unlock ref h c
  refine ⟨fun hs => exec_refused h rfl ?state, fun hs => ⟨fun hl => exec_refused h rfl (ownAuthorise_illegal hs hl),
    fun hl => ⟨fun hg => exec_refused h rfl ?grade, fun hg hi => exec_refused h rfl ?inlet,
      fun hg hi ho => exec_refused h rfl ?full⟩⟩⟩
  case state => exact if_pos hs
  case grade => exact (ownAuthorise_legal hs hl).trans (if_pos hg)
  case inlet =>
    have bars : ¬ s.inletReady = true := fun hr => (inletReady_eq_true s).1 hr hi
    exact (ownAuthorise_legal hs hl).trans ((if_neg hg).trans (if_pos bars))
  case full =>
    have ready : ¬ ¬ s.inletReady = true := not_not.2 ((inletReady_eq_true s).2 hi)
    refine (ownAuthorise_legal hs hl).trans ((if_neg hg).trans ((if_neg ready).trans ?_))
    rw [ho]

/-- Settles O15: the conditions of each request, denied. -/
theorem sessionRequestsRefused : Obligations.SessionRequestsRefused := by
  intro s tag h
  refine ⟨fun hs hf => exec_refused h rfl ?deny, fun ha hp => ⟨exec_refused h rfl ?pause, exec_refused h rfl ?resume⟩,
    fun hs => exec_refused h rfl ?stop, fun hr => exec_refused h rfl ?restart, fun hc => exec_refused h rfl ?clear,
    fun v i p f => ⟨fun ha hm => exec_refused h rfl ?wrong, fun hm hv => exec_refused h rfl ?range⟩,
    fun hd => exec_refused h rfl ?connect⟩
  case deny => exact if_neg (not_or.2 ⟨hs, hf⟩)
  case pause => exact if_neg (mt (State.drawing_eq_true s).1 (not_or.2 ⟨ha, hp⟩))
  case resume => exact if_neg (mt (State.drawing_eq_true s).1 (not_or.2 ⟨ha, hp⟩))
  case stop =>
    simp only [List.mem_cons, List.not_mem_nil, or_false] at hs
    show s.ownStop = _
    rcases hs with hs | hs | hs | hs | hs | hs <;> simp [State.ownStop, hs]
  case restart =>
    refine if_neg fun hr' => ?_
    rcases hr with hr | hr
    · exact hr hr'.1
    · exact (inletReady_eq_true s).1 hr'.2 hr
  case clear =>
    refine if_neg fun hc' => ?_
    rcases hc with hc | hc
    · exact hc hc'.1
    · exact hc ((allOpen_eq_true s).1 hc'.2)
  case wrong =>
    have not_taken : s.takesStation = false := by
      cases hs : s.session.st <;> simp_all [State.takesStation]
    show s.ownDcStation v i p f = _
    simp [State.ownDcStation, not_taken]
  case range =>
    have taken : s.takesStation = true := by
      rcases hm with hs | ⟨hm, hs⟩
      · simp [State.takesStation, hs]
      · simp only [List.mem_cons, List.not_mem_nil, or_false] at hs
        rcases hs with hs | hs | hs | hs <;> simp [State.takesStation, hs, hm]
    show s.ownDcStation v i p f = _
    simp [State.ownDcStation, taken, hv]
  case connect =>
    refine if_neg fun hd' => ?_
    obtain ⟨hm, hs, hk, hl, hr⟩ := hd'
    rcases hd with hd | hd | hd | hd | hd | hd | ⟨v, r, hv, hr', hd⟩
    · exact hd hm
    · exact hd hs
    · exact hd hk
    · exact hl hd
    · simp [State.dcReady, hd] at hr
    · simp [State.dcReady, hd] at hr
    · simp only [State.dcReady, hv, hr', Bool.and_eq_true, Bool.not_eq_true', decide_eq_true_eq] at hr
      obtain ⟨⟨fresh, below⟩, near⟩ := hr
      rcases hd with hd | hd | hd
      · simp [hd] at fresh
      · omega
      · omega

/-- Settles O16: each request drives the lock, and the lock that already reports what it is driven to ends the travel. -/
theorem lockDrivingRequests : Obligations.LockDrivingRequests := by
  intro s tag h
  refine ⟨fun hl hs => ?deny, fun hl hs => ?stop, fun hs ho hl => ?clearDriven, fun hs ho hl hp => ?clearIdle,
    fun hs ho hl hp => ?clearFinished, fun hs hb hl => ?restart, fun hs hb hl => ?restartReached⟩
  case deny =>
    have own : State.owner (.deny tag) s = okWith s.goUnlocking [] := if_pos hs
    rw [State.goUnlocking_driven hl] at own
    obtain ⟨run, answer⟩ := exec_done h rfl own (ks := [.session]) rfl
    refine ⟨_, run, answer, ?_⟩
    simp [entered, replied, noticed, onlyChanges]
  case stop =>
    have own : State.owner (.stop tag) s = okWith s.goUnlocking [] := by
      show s.ownStop = _
      simp [State.ownStop, hs]
    rw [State.goUnlocking_driven hl] at own
    obtain ⟨run, answer⟩ := exec_done h rfl own (ks := [.session]) rfl
    refine ⟨_, run, answer, ?_⟩
    simp [entered, replied, noticed, onlyChanges]
  case clearDriven =>
    have own : State.owner (.clearFault tag) s = okWith (State.faultCleared s).goUnlocking [] := by
      show s.ownClearFault = _
      simp [State.ownClearFault, hs, (allOpen_eq_true s).2 ho, State.settleContactors, hl, State.faultCleared, State.onSession]
    rw [State.goUnlocking_driven (s := State.faultCleared s) hl] at own
    obtain ⟨run, answer⟩ := exec_done h rfl own (ks := [.session]) rfl
    refine ⟨_, run, answer, ?_⟩
    simp [entered, replied, noticed, onlyChanges, State.faultCleared]
  case clearIdle =>
    have own : State.owner (.clearFault tag) s =
        okWith (((State.faultCleared s).onSession fun x => { x with lock := .notEngaged }).enter .idle) [] := by
      show s.ownClearFault = _
      simp [State.ownClearFault, hs, (allOpen_eq_true s).2 ho, State.settleContactors, hl, hp, State.faultCleared,
        State.onSession]
    rw [State.enter_eq] at own
    obtain ⟨run, answer⟩ := exec_done h rfl own (ks := [.session]) rfl
    refine ⟨_, run, answer, ?_⟩
    simp [entered, replied, noticed, onlyChanges, State.faultCleared, State.onSession, Session.loadFor]
  case clearFinished =>
    have own : State.owner (.clearFault tag) s = okWith (State.faultCleared s).goUnlocking [] := by
      show s.ownClearFault = _
      simp [State.ownClearFault, hs, (allOpen_eq_true s).2 ho, State.settleContactors, hp, State.faultCleared,
        State.onSession]
    have plug : (State.faultCleared s).session.prox.present = true := hp
    rw [State.goUnlocking_reached (s := State.faultCleared s) hl, plug] at own
    obtain ⟨run, answer⟩ := exec_done h rfl own (ks := [.session]) rfl
    obtain ⟨ac, pos, neg⟩ := ho
    refine ⟨_, run, answer, ?_⟩
    simp [entered, replied, noticed, onlyChanges, State.faultCleared, ac, pos, neg]
  case restart =>
    have ready : s.session.st = .finished ∧ s.inletReady = true := ⟨hs, (inletReady_eq_true s).2 hb⟩
    have own : State.owner (.restart tag) s = okWith s.goLocking [] := if_pos ready
    rw [State.goLocking_driven hl] at own
    obtain ⟨run, answer⟩ := exec_done h rfl own (ks := [.session]) rfl
    refine ⟨_, run, answer, ?_⟩
    simp [entered, replied, noticed, onlyChanges]
  case restartReached =>
    have ready : s.session.st = .finished ∧ s.inletReady = true := ⟨hs, (inletReady_eq_true s).2 hb⟩
    have own : State.owner (.restart tag) s = okWith s.goLocking [] := if_pos ready
    rw [State.goLocking_reached hl] at own
    obtain ⟨run, answer⟩ := exec_done h rfl own (ks := [.session]) rfl
    refine ⟨_, run, answer, ?_⟩
    simp [entered, replied, noticed, onlyChanges]

/-- Settles O18: STOP in LOCKING is noted, and elsewhere begins the stop its inlet current calls for. -/
theorem stopBeginsTheStop : Obligations.StopBeginsTheStop := by
  intro s tag h
  have taken (hs : s.session.st = .energising ∨ s.session.st = .active ∨ s.session.st = .paused) :
      State.owner (.stop tag) s = okWith (s.beginStop .hostStop) [] := by
    show s.ownStop = _
    rw [← State.takeStop_charging hs]
    rcases hs with hs | hs | hs <;> simp [State.ownStop, hs]
  have charging (hs : s.session.st = .energising ∨
      ((s.session.st = .active ∨ s.session.st = .paused) ∧ s.inletCurrent < 10)) :
      (s.session.st = .energising ∨ s.session.st = .active ∨ s.session.st = .paused) ∧
        (StopCause.hostStop.emergency = true ∨ s.session.st = .energising ∨ s.inletCurrent < 10) := by
    rcases hs with hs | ⟨hs, hi⟩
    · exact ⟨.inl hs, .inr (.inl hs)⟩
    · exact ⟨.inr hs, .inr (.inr hi)⟩
  refine ⟨fun hs => ?locking, fun hs hi => ?ramp, fun hs ho => ?opening, fun hs ho => ?ended⟩
  case locking =>
    have own : State.owner (.stop tag) s = okWith (s.onSession fun x => { x with stopPending := true }) [] := by
      show s.ownStop = _
      simp [State.ownStop, hs]
    exact exec_ok h rfl own
  case ramp =>
    have not_energising : s.session.st ≠ .energising := by rcases hs with hs | hs <;> simp [hs]
    have own := taken (.inr hs)
    rw [State.beginStop_ramp rfl not_energising hi] at own
    obtain ⟨run, answer⟩ := exec_done h rfl own (ks := [.session]) rfl
    refine ⟨_, run, answer, ?_⟩
    simp [entered, replied, noticed, onlyChanges, State.stopBegun, State.onSession]
  case opening =>
    obtain ⟨hc, atOnce⟩ := charging hs
    have own := taken hc
    rw [State.beginStop_waiting atOnce ho, State.commandOpen_eq] at own
    obtain ⟨run, answer⟩ := exec_done h rfl own (ks := [.session]) rfl
    refine ⟨_, run, answer, ?_⟩
    simp [entered, replied, noticed, onlyChanges, State.stopBegun]
  case ended =>
    obtain ⟨hc, atOnce⟩ := charging hs
    obtain ⟨done, onward⟩ := State.beginStop_done (k := .hostStop) h.1 atOnce ho
    refine ⟨_, exec_ok h rfl (taken hc), State.stopDone_replied done .., onward.hostPause, ?_⟩
    have replies := onward.replies
    simp [replied, replies, State.stopBegun, noticed]

end Sys2Proof.Proofs
end

section
/-! The events of the session (R1 to R7, R10 to R14, R19 to R23). -/

-- One declaration at a time: each thread the elaborator opens takes its whole stack from the memory limit.
set_option Elab.async false

namespace Sys2Proof.Machine

open Safety

namespace State

/-- In RUN an event that acts in RUN acts. -/
theorem whenRun_run {s : State} (h : s.power.part = .run) (f : State → State) : s.whenRun f = f s :=
  s.whenRun_of_inRun f (by simp [inRun, h])

/-- R14: the pause causes that stand when a contactor reports CLOSED. -/
def closedCauses (s : State) : PauseSet :=
  { s.session.causes with noOffer := false, nothingToDo := false, noStages := false, searchHold := s.iso.hold }

/-- R14: ACTIVE with no cause, else PAUSED. -/
def closedState (s : State) : SessState := if s.closedCauses = {} then .active else .paused

theorem closedState_ne (s : State) : s.closedState ≠ .energising := by
  unfold closedState
  split <;> simp

/-- R14, R17: the draw starts, as one equation. -/
theorem enterActive_closed (s : State) :
    s.enterActive =
      { noticed [.session] s with
        session := { s.session with causes := s.closedCauses, st := s.closedState }
        pins := { s.pins with cpLoad := decide (s.session.mode = some .ac ∧ s.session.causes.hostPause = false) }
        heating := { s.heating with sess := s.closedState }
        budgetIn := s.budgetIn ++ [.session s.closedState s.session.mode] } :=
  enterActive_eq s _ _ rfl rfl

theorem acClosedCheck_closes {s : State} (hs : s.session.st = .energising) (hk : s.session.acK = .closing)
    (hf : s.pins.kacFb = true) :
    s.acClosedCheck = (s.onSession fun x => { x with acK := .closed, closeTimer := none }).enterActive := by
  simp [acClosedCheck, hs, hk, hf]

theorem acClosedCheck_stays {s : State}
    (h : s.session.st ≠ .energising ∨ ¬ (s.session.acK = .closing ∧ s.pins.kacFb = true)) : s.acClosedCheck = s := by
  have no : (s.session.st == .energising && s.session.acK == .closing && s.pins.kacFb) = false := by
    rcases h with h | h
    · simp [h]
    · simpa using fun _ hk => by simpa [hk] using h
  rw [acClosedCheck, no, doIf_false]

theorem dcClosedCheck_closes {s : State} (hs : s.session.st = .energising) (hk : s.session.dcK = .closing)
    (hp : s.pins.kdcpFb = true) (hn : s.pins.kdcnFb = true) :
    s.dcClosedCheck =
      ((s.onSession fun x => { x with dcK := .closed, closeTimer := none }).onIso
        fun x => { x with dcClosed := true }).enterActive := by
  simp [dcClosedCheck, hs, hk, hp, hn]

theorem dcClosedCheck_stays {s : State}
    (h : s.session.st ≠ .energising ∨
      ¬ (s.session.dcK = .closing ∧ s.pins.kdcpFb = true ∧ s.pins.kdcnFb = true)) : s.dcClosedCheck = s := by
  have no : (s.session.st == .energising && s.session.dcK == .closing && s.pins.kdcpFb && s.pins.kdcnFb) = false := by
    rcases h with h | h
    · simp [h]
    · simpa using fun _ hk hp => by simpa [hk, hp] using h
  rw [dcClosedCheck, no, doIf_false]

/-- Both contacts of the DC pair report closed. -/
def pairClosed (s : State) : State := s.onPins fun p => { p with kdcpFb := true, kdcnFb := true }

end State

end Sys2Proof.Machine

namespace Sys2Proof.Proofs

open Machine Safety

/-- Settles O24: which contactor the contact completes decides. -/
theorem contactorClosesAndSessionStarts : Obligations.ContactorClosesAndSessionStarts := by
  intro s h c st load
  have run (k : Contact) : exec (.contactorClosed k) s =
      .next (s.onPins fun p => p.setFb k true).acClosedCheck.dcClosedCheck :=
    congrArg _ (State.whenRun_run (s := s.onPins fun p => p.setFb k true) h _)
  refine ⟨fun hs hk => ?ac, fun k hs hk hk' hf => ?dc, fun k => ?other⟩
  case ac =>
    rw [run, State.acClosedCheck_closes (s := s.onPins fun p => p.setFb .ac true) hs hk rfl, State.enterActive_closed,
      State.dcClosedCheck_stays (.inl (State.closedState_ne _))]
    rfl
  case dc =>
    have pair : (s.onPins fun p => p.setFb k true) = s.pairClosed := by
      rcases hf with ⟨rfl, hf⟩ | ⟨rfl, hf⟩ <;> simp [Pins.setFb, hf, State.onPins, State.pairClosed]
    rw [run, pair, State.acClosedCheck_stays (s := s.pairClosed) (.inr fun hc => hk' hc.1),
      State.dcClosedCheck_closes (s := s.pairClosed) hs hk rfl rfl,
      State.enterActive_closed]
    rfl
  case other =>
    intro p hs
    have ac : (s.onPins fun p => p.setFb k true).acClosedCheck = s.onPins fun p => p.setFb k true :=
      State.acClosedCheck_stays (hs.imp id And.left)
    have dc : (s.onPins fun p => p.setFb k true).dcClosedCheck = s.onPins fun p => p.setFb k true :=
      State.dcClosedCheck_stays (hs.imp id And.right)
    rw [run, ac, dc]
    rfl

section
variable {s : State} (run : s.power.part = .run)
include run

/-- The energising wait's expiry stops the session (R10, R11). -/
theorem energising_expires (ht : s.session.energiseTimer ≠ none) (hs : s.session.st = .energising) :
    exec .energisingWaitExpiry s = .next (s.beginStop .stationTimeout) := by
  have fires : (s.session.energiseTimer.isSome && s.session.st == .energising) = true := by
    simp [hs, Option.isSome_iff_ne_none, ht]
  show Host.Outcome.next (s.whenRun _) = _
  rw [State.whenRun_run run, fires, State.doIf_true, State.takeStop_charging (.inl hs)]

/-- The fault of a contactor that did not close (R10, R13). -/
def closingFailed (s : State) : State := s.onSession fun x => { x with fault := some .contactor, closeTimer := none }

/-- The closing feedback timeout stops the session (R10, R13). -/
theorem closing_expires (ht : s.session.closeTimer ≠ none) (hs : s.session.st = .energising) :
    exec .closingFeedbackTimeout s = .next ((closingFailed s).beginStop .contactor) := by
  have fires : (s.session.closeTimer.isSome && s.session.st == .energising) = true := by
    simp [hs, Option.isSome_iff_ne_none, ht]
  show Host.Outcome.next (s.whenRun _) = _
  rw [State.whenRun_run run, State.closingTimeout, fires, State.doIf_true]
  exact congrArg _ (State.takeStop_charging (s := closingFailed s) (.inl hs) _)

/-- The ramp wait's expiry opens the contactors (R21). -/
theorem ramp_expires (ht : s.session.rampTimer ≠ none) (hs : s.session.st = .stopping) :
    exec .stopRampWaitExpiry s = .next s.openContactors := by
  have fires : (s.session.rampTimer.isSome && s.session.st == .stopping) = true := by
    simp [hs, Option.isSome_iff_ne_none, ht]
  show Host.Outcome.next (s.whenRun _) = _
  rw [State.whenRun_run run, fires, State.doIf_true]

end

/-- Settles O25: each expiry runs its one operation, with a contact closed or with every contact open. -/
theorem sessionTimeoutsAct : Obligations.SessionTimeoutsAct := by
  intro s
  refine ⟨fun r hr hf => ?stale, fun hr => ?stands, fun run => ⟨fun ht hs ho => ?energise, fun ht hs ho => ?energiseEnded,
    fun ht hs ho => ?closing, fun ht hs ho => ?closingEnded, fun ht hs ho => ?rampEnded, fun ht hs ho => ?ramp⟩⟩
  case stale =>
    show Host.Outcome.next s.stationStaleEvent = _
    simp [State.stationStaleEvent, hr, hf, State.onSession, State.postBudget]
  case stands =>
    show Host.Outcome.next s.stationStaleEvent = _
    cases hs : s.session.station with
    | none => simp [State.stationStaleEvent, hs]
    | some r => simp [State.stationStaleEvent, hs, hr r hs]
  case energise =>
    rw [energising_expires run ht hs, State.beginStop_waiting (.inr (.inl hs)) ho]
    rfl
  case energiseEnded =>
    obtain ⟨done, onward⟩ := State.beginStop_done (k := .stationTimeout) run (.inr (.inl hs)) ho
    exact ⟨_, energising_expires run ht hs, done, onward.hostPause⟩
  case closing =>
    rw [closing_expires run ht hs, State.beginStop_waiting (s := closingFailed s) (.inr (.inl hs)) ho]
    rfl
  case closingEnded =>
    obtain ⟨done, onward⟩ := State.beginStop_done (s := closingFailed s) (k := .contactor) run (.inr (.inl hs)) ho
    have same : State.SameStop s (closingFailed s) :=
      ⟨onlyChanges_mono (State.onSession_frame _ _), rfl, rfl, rfl, rfl, rfl, rfl, rfl⟩
    exact ⟨_, closing_expires run ht hs, State.stopDone_of same done, onward.hostPause⟩
  case rampEnded =>
    have ended : State.StopOpen s s :=
      { frame := onlyChanges_refl _ s, mode := rfl, station := rfl, lock := rfl, unlockOnStop := rfl, plugLossSeen := rfl
        prox := rfl, lockFb := rfl, st := hs, opened := ho }
    exact ⟨_, ramp_expires run ht hs, ended.done run⟩
  case ramp =>
    rw [ramp_expires run ht hs, State.openContactors_waiting ho]
    rfl

end Sys2Proof.Proofs
end

section
/-! The inlet temperature and the lock (R5, R7, R19 to R23). -/

-- One declaration at a time: each thread the elaborator opens takes its whole stack from the memory limit.
set_option Elab.async false

namespace Sys2Proof.Machine

open Safety

namespace State

/-! ### A stop cause in STOPPING (R20) -/

/-- R20: a later cause takes the place of the stop cause. -/
def overtaken (s : State) (k : StopCause) : State := s.onSession fun x => { x with stopCause := some k }

section
variable {s : State} {k : StopCause} (hs : s.session.st = .stopping)
include hs

theorem takeStop_kept (h : (s.session.stopCause.getD .hostStop).emergency = true) : s.takeStop k = s := by
  simp [takeStop, hs, h]

variable (hk : k.emergency = true) (h : (s.session.stopCause.getD .hostStop).emergency = false)
include hk h

theorem takeStop_noted (ramp : s.session.rampTimer = none) : s.takeStop k = s.overtaken k := by
  simp [takeStop, hs, hk, h, ramp, overtaken]

theorem takeStop_cut (ramp : s.session.rampTimer ≠ none) : s.takeStop k = (s.overtaken k).openContactors := by
  have runs : s.session.rampTimer.isSome = true := Option.isSome_iff_ne_none.2 ramp
  simp [takeStop, hs, hk, h, runs, overtaken]

theorem takeStop_waiting (ramp : s.session.rampTimer ≠ none) (closed : ¬ contactsOpen s) :
    s.takeStop k = (s.overtaken k).commandOpen := by
  rw [takeStop_cut hs hk h ramp, openContactors_waiting (s := s.overtaken k) closed]

theorem takeStop_done (run : s.power.part = .run) (ramp : s.session.rampTimer ≠ none) (opened : contactsOpen s) :
    stopDone (some k) s.session.fault s (s.takeStop k) := by
  have ended : StopOpen s (s.overtaken k) :=
    { frame := onlyChanges_mono (onSession_frame _ _), mode := rfl, station := rfl, lock := rfl, unlockOnStop := rfl
      plugLossSeen := rfl, prox := rfl, lockFb := rfl, st := hs, opened := opened }
  rw [takeStop_cut hs hk h ramp]
  exact ended.done run

end

/-! ### The inlet temperature (R5) -/

/-- R5: the temperatures taken, a derate that changed posted and a SESSION notice raised. -/
def temperaturesTaken (s : State) : State :=
  let old := inletTemp s.session.temp1 s.session.temp2
  let new := inletTemp s.pins.sensor1 s.pins.sensor2
  { noticed (if overheated new = overheated old ∧ (old = none ∨ new ≠ none) then [] else [.session]) s with
    session := { s.session with temp1 := s.pins.sensor1, temp2 := s.pins.sensor2 }
    budgetIn :=
      s.budgetIn ++ if inletDerate new = inletDerate old then [] else [BudgetPosting.inletDerate (inletDerate new)] }

theorem takeTemperatures_eq (s : State) :
    s.takeTemperatures =
      s.temperaturesTaken.doIf
        (overheated (inletTemp s.pins.sensor1 s.pins.sensor2) &&
            !overheated (inletTemp s.session.temp1 s.session.temp2) && (s.drawing || s.session.st == .energising))
          fun s => s.takeStop .inletOverheat := by
  have base (old new : Option HalfDeg) (hd : old = inletTemp s.session.temp1 s.session.temp2)
      (hn : new = inletTemp s.pins.sensor1 s.pins.sensor2) :
      ((s.onSession fun x => { x with temp1 := s.pins.sensor1, temp2 := s.pins.sensor2 }).doIf
          (inletDerate new != inletDerate old) fun s => s.postBudget (.inletDerate (inletDerate new))).doIf
        (overheated new != overheated old || (old.isSome && new.isNone)) (fun s => s.raise .session) =
      s.temperaturesTaken := by
    have told : (overheated new != overheated old || (old.isSome && new.isNone)) =
        !decide (overheated new = overheated old ∧ (old = none ∨ new ≠ none)) := by
      rw [Bool.eq_iff_iff]
      cases old <;> cases new <;> simp
    rw [told, temperaturesTaken, ← hd, ← hn]
    by_cases h : inletDerate new = inletDerate old <;>
      by_cases h' : overheated new = overheated old ∧ (old = none ∨ new ≠ none) <;>
        simp [h, h', doIf_eq, onSession, postBudget, raise_eq, noticed]
  unfold takeTemperatures
  dsimp only
  rw [base _ _ rfl rfl]
  rfl

end State

end Sys2Proof.Machine

namespace Sys2Proof.Proofs

open Machine Safety

/-- R5, R200: what a temperature event makes of the inputs. -/
def temperatureRead (s : State) (a b : Option HalfDeg) : State := s.onPins fun p => { p with sensor1 := a, sensor2 := b }

/-- Settles O22: the derate row by row, and a change of the inlet temperature by whether it begins a stop. -/
theorem inletTemperatureDeratesAndStops : Obligations.InletTemperatureDeratesAndStops := by
  refine ⟨⟨rfl, fun t h => ?cold, fun t h => ?hot, fun t h h' => ?between⟩, ?_⟩
  case cold => simp [inletDerate, h]
  case hot =>
    have h1 : ¬ t ≤ 140 := by omega
    have h2 : ¬ t < 180 := by omega
    simp [inletDerate, h1, h2]
  case between =>
    simp only [inletDerate]
    split_ifs
    · next low =>
      obtain rfl : t = 140 := le_antisymm low h
      rfl
    · omega
    · next high =>
      obtain rfl : t = 180 := le_antisymm h' (not_lt.1 high)
      rfl
  intro s t1 t2 a b read old new posts
  have outside (h : s.power.part ≠ .run) :
      exec (.inletTemperatureChange t1 t2) s = .next (temperatureRead s a b) := by
    show Host.Outcome.next (s.temperatureEvent t1 t2) = _
    rw [State.temperatureEvent, State.whenRun_of_not_inRun _ _ (by simp [State.inRun, h])]
    rfl
  have inside (h : s.power.part = .run) :
      exec (.inletTemperatureChange t1 t2) s = .next ((temperatureRead s a b).temperaturesTaken.doIf
        (overheated new && !overheated old && (s.drawing || s.session.st == .energising))
        fun s => s.takeStop .inletOverheat) := by
    show Host.Outcome.next (s.temperatureEvent t1 t2) = _
    rw [State.temperatureEvent, State.whenRun_run (s := s.onPins _) h, State.takeTemperatures_eq]
    rfl
  have stops (h : s.power.part = .run) (hn : overheated new = true) (ho : overheated old = false)
      (hs : s.session.st = .energising ∨ s.session.st = .active ∨ s.session.st = .paused) :
      exec (.inletTemperatureChange t1 t2) s =
        .next ((temperatureRead s a b).temperaturesTaken.beginStop .inletOverheat) := by
    have draws : (s.drawing || s.session.st == .energising) = true := by
      rcases hs with hs | hs | hs <;> simp [State.drawing, hs]
    rw [inside h, hn, ho, draws, ← State.takeStop_charging (s := (temperatureRead s a b).temperaturesTaken) hs]
    rfl
  have taken : (temperatureRead s a b).temperaturesTaken =
      { noticed (if overheated new = overheated old ∧ (old = none ∨ new ≠ none) then [] else [.session]) s with
        pins := read
        session := { s.session with temp1 := a, temp2 := b }
        budgetIn := s.budgetIn ++ posts } := rfl
  have told (hn : overheated new = true) (ho : overheated old = false) :
      ¬ (overheated new = overheated old ∧ (old = none ∨ new ≠ none)) := by simp [hn, ho]
  refine ⟨outside, fun h hk => ?quiet, fun h hn ho hs hi => ?ramp, fun h hn ho hs => ⟨fun hc => ?opening, fun hc => ?ended⟩⟩
  case quiet =>
    have none_begins : (overheated new && !overheated old && (s.drawing || s.session.st == .energising)) = false := by
      rcases hk with hk | hk | hk
      · simp [hk]
      · simp [hk]
      · simp only [List.mem_cons, List.not_mem_nil, or_false, not_or] at hk
        obtain ⟨he, ha, hp⟩ := hk
        simp [State.drawing, he, ha, hp]
    rw [inside h, none_begins, State.doIf_false, taken]
  case ramp =>
    have not_energising : s.session.st ≠ .energising := by rcases hs with hs | hs <;> simp [hs]
    rw [stops h hn ho (.inr hs), State.beginStop_ramp (s := (temperatureRead s a b).temperaturesTaken) rfl not_energising hi,
      taken, if_neg (told hn ho)]
    simp [State.stopBegun, State.onSession, noticed]
  case opening =>
    have charging : s.session.st = .energising ∨ s.session.st = .active ∨ s.session.st = .paused := hs.imp id And.left
    have atOnce : StopCause.inletOverheat.emergency = true ∨ s.session.st = .energising ∨ s.inletCurrent < 10 :=
      .inr (hs.imp id And.right)
    rw [stops h hn ho charging, State.beginStop_waiting (s := (temperatureRead s a b).temperaturesTaken) atOnce hc, taken,
      if_neg (told hn ho)]
    simp [State.stopBegun, State.commandOpen_eq, noticed]
  case ended =>
    have charging : s.session.st = .energising ∨ s.session.st = .active ∨ s.session.st = .paused := hs.imp id And.left
    have atOnce : StopCause.inletOverheat.emergency = true ∨ s.session.st = .energising ∨ s.inletCurrent < 10 :=
      .inr (hs.imp id And.right)
    obtain ⟨done, onward⟩ := State.beginStop_done (s := (temperatureRead s a b).temperaturesTaken) (k := .inletOverheat) h atOnce hc
    have same : State.SameStop { s with pins := read, session := { s.session with temp1 := a, temp2 := b } }
        (temperatureRead s a b).temperaturesTaken :=
      ⟨by rw [taken]; simp [onlyChanges, noticed], rfl, rfl, rfl, rfl, rfl, rfl, rfl⟩
    refine ⟨_, stops h hn ho charging, State.stopDone_of same done, onward.hostPause, onward.temp1, onward.temp2,
      fun q hq => onward.budgetIn.subset ?_⟩
    exact List.mem_append_left _ (List.mem_append_right _ hq)

/-- The lock feedback as the event found it. -/
def lockReads (s : State) (engaged : Bool) : State := s.onPins fun p => { p with lockFb := engaged }

/-- R19: what the loss of the lock feedback makes of the lock and the fault kind. -/
def lockGone (s : State) : State :=
  { s with
    session := { s.session with lock := .notEngaged, fault := some .lockFail }
    pins := { s.pins with lockFb := false } }

section
variable {s : State} (run : s.power.part = .run)
include run

/-- R7: the feedback ends a locking. -/
theorem lockEngaged_ends (hs : s.session.st = .locking) (hl : s.session.lock = .lockTravel) :
    exec .lockEngaged s = .next (lockReads s true).lockDone := by
  have ends : (s.inRun && s.session.st == .locking && s.session.lock == .lockTravel) = true := by
    simp [State.inRun, run, hs, hl]
  show Host.Outcome.next (State.doIf _ (s.inRun && s.session.st == .locking && s.session.lock == .lockTravel) _) = _
  rw [ends, State.doIf_true]
  rfl

/-- R23: the feedback ends an unlocking. -/
theorem lockReleased_ends (hs : s.session.st = .unlocking) (hl : s.session.lock = .unlockTravel) :
    exec .lockReleased s = .next (lockReads s false).unlockDone := by
  show Host.Outcome.next s.lockReleasedEvent = _
  simp [State.lockReleasedEvent, State.inRun, run, hs, hl, lockReads]

/-- R19: the feedback lost while it is watched. -/
theorem lockReleased_lost (hs : s.session.st ∈ [.authorising, .finished, .energising, .active, .paused, .stopping])
    (hl : s.session.lock = .engaged) :
    exec .lockReleased s = .next (lockReads s false).lockLost := by
  simp only [List.mem_cons, List.not_mem_nil, or_false] at hs
  have watched : (lockReads s false).watchesLock = true := by
    rcases hs with hs | hs | hs | hs | hs | hs <;> simp [State.watchesLock, lockReads, hs, hl]
  have travels : ¬ (s.session.st = .unlocking ∧ s.session.lock = .unlockTravel) := by simp [hl]
  show Host.Outcome.next s.lockReleasedEvent = _
  simp only [lockReads] at watched
  simp [State.lockReleasedEvent, State.inRun, run, travels, State.lockCheck, watched, lockReads]

/-- R19, R20: lost while energised or stopping, it is a CABLE_LOST. -/
theorem lockReleased_cableLost (hs : s.session.st ∈ [.energising, .active, .paused, .stopping])
    (hl : s.session.lock = .engaged) :
    exec .lockReleased s = .next ((noticed [.session] (lockGone s)).takeStop .cableLost) := by
  have watched : s.session.st ∈ [.authorising, .finished, .energising, .active, .paused, .stopping] := by
    simp only [List.mem_cons, List.not_mem_nil, or_false] at hs ⊢
    tauto
  rw [lockReleased_lost run watched hl, ← State.raise_eq]
  simp only [List.mem_cons, List.not_mem_nil, or_false] at hs
  rcases hs with hs | hs | hs | hs <;> simp [State.lockLost, hs, lockGone, lockReads, State.onSession, State.onPins]

/-- R7, R23: an expired travel. -/
theorem lockTravelTimeout_faults (ht : s.session.lockTimer ≠ none) {k : FaultKind}
    (hk : (s.session.st = .locking ∧ k = .lockFail) ∨ (s.session.st = .unlocking ∧ k = .lockStuck)) :
    exec .lockTravelTimeout s = .next (s.goFaulted k) := by
  have runs : s.session.lockTimer.isSome = true := Option.isSome_iff_ne_none.2 ht
  show Host.Outcome.next (s.whenRun _) = _
  rw [State.whenRun_run run]
  rcases hk with ⟨hs, rfl⟩ | ⟨hs, rfl⟩ <;> simp [State.lockTimeout, runs, hs]

end

/-- Settles O23: a feedback that ends a travel, one that is lost by the session's state, and a travel that expires. -/
theorem lockTravelEnds : Obligations.LockTravelEnds := by
  intro s run engaged faulted
  refine ⟨fun h => ?apart, fun hs hl hp hc => ?authorises, fun hs hl ha => ?unlocks, fun hs hl => ?released,
    fun hs hl => ?fails, fun hs hl hc => ?opening, ⟨fun hs hl hc => ?ended, fun hs hl => ⟨fun he => ?kept, fun he hr => ?noted,
      fun he hr hc => ?cut, fun he hr hc => ?cutEnded⟩⟩, fun ht hs => ?stuckLocking, fun ht hs => ?stuckUnlocking⟩
  case apart =>
    have no : (s.inRun && s.session.st == .locking && s.session.lock == .lockTravel) = false := by
      rcases h with h | h <;> simp [h]
    show Host.Outcome.next (State.doIf _ (s.inRun && s.session.st == .locking && s.session.lock == .lockTravel) _) = _
    rw [no, State.doIf_false]
    rfl
  case authorises =>
    rw [lockEngaged_ends run hs hl, State.lockDone_stays (s := lockReads s true) hp hc]
    rfl
  case unlocks =>
    rw [lockEngaged_ends run hs hl, State.lockDone_away (s := lockReads s true) ha, State.goUnlocking_driven rfl]
    rfl
  case released =>
    intro st
    rw [lockReleased_ends run hs hl, State.unlockDone_eq]
    rfl
  case fails =>
    have watched : s.session.st ∈ [.authorising, .finished, .energising, .active, .paused, .stopping] := by
      rcases hs with hs | hs <;> simp [hs]
    have lost : (lockReads s false).lockLost = (lockGone s).goFaulted .lockFail := by
      rcases hs with hs | hs <;> simp [State.lockLost, hs, lockGone, lockReads, State.onSession, State.onPins]
    rw [lockReleased_lost run watched hl, lost, State.goFaulted_eq]
    rfl
  case opening =>
    simp only [List.mem_cons, List.not_mem_nil, or_false] at hs
    have charging : s.session.st ∈ [.energising, .active, .paused, .stopping] := by
      rcases hs with hs | hs | hs <;> simp [hs]
    rw [lockReleased_cableLost run charging hl, State.takeStop_charging (s := noticed [.session] (lockGone s)) hs,
      State.beginStop_waiting (s := noticed [.session] (lockGone s)) (.inl rfl) hc]
    simp [State.stopBegun, State.commandOpen_eq, noticed, lockGone]
  case ended =>
    simp only [List.mem_cons, List.not_mem_nil, or_false] at hs
    have charging : s.session.st ∈ [.energising, .active, .paused, .stopping] := by
      rcases hs with hs | hs | hs <;> simp [hs]
    obtain ⟨done, onward⟩ := State.beginStop_done (s := noticed [.session] (lockGone s)) (k := .cableLost) run (.inl rfl) hc
    refine ⟨_, lockReleased_cableLost run charging hl, ?_⟩
    rw [State.takeStop_charging (s := noticed [.session] (lockGone s)) hs]
    exact ⟨done, onward.hostPause⟩
  case kept =>
    rw [lockReleased_cableLost run (by simp [hs]) hl, State.takeStop_kept (s := noticed [.session] (lockGone s)) hs he]
    rfl
  case noted =>
    rw [lockReleased_cableLost run (by simp [hs]) hl, State.takeStop_noted (s := noticed [.session] (lockGone s)) hs rfl he hr]
    rfl
  case cut =>
    rw [lockReleased_cableLost run (by simp [hs]) hl,
      State.takeStop_waiting (s := noticed [.session] (lockGone s)) hs rfl he hr hc]
    rfl
  case cutEnded =>
    exact ⟨_, lockReleased_cableLost run (by simp [hs]) hl,
      State.takeStop_done (s := noticed [.session] (lockGone s)) hs rfl he run hr hc⟩
  case stuckLocking =>
    rw [lockTravelTimeout_faults run ht (.inl ⟨hs, rfl⟩), State.goFaulted_eq]
  case stuckUnlocking =>
    rw [lockTravelTimeout_faults run ht (.inr ⟨hs, rfl⟩), State.goFaulted_eq]

end Sys2Proof.Proofs
end

section
/-! The plug and the pilot (R1 to R4, R7, R20 to R24). -/

-- One declaration at a time: each thread the elaborator opens takes its whole stack from the memory limit.
set_option Elab.async false

namespace Sys2Proof.Machine

open Safety

namespace State

/-! ### A CABLE_LOST where no stop is under way (R7, R20, R24) -/

theorem takeStop_locking {s : State} (hs : s.session.st = .locking) :
    s.takeStop .cableLost = s.onSession fun x => { x with lockingLost := true } := by
  simp [takeStop, hs]

theorem takeStop_unlocks {s : State}
    (hs : s.session.st = .authorising ∨ (s.session.st = .finished ∧ s.session.lock = .engaged)) :
    s.takeStop .cableLost = s.goUnlocking := by
  rcases hs with hs | ⟨hs, hl⟩
  · simp [takeStop, hs]
  · simp [takeStop, hs, hl]

theorem takeStop_idle {s : State} (hs : s.session.st ∈ [.idle, .connected, .unlocking, .faulted] ∨
    (s.session.st = .finished ∧ s.session.lock ≠ .engaged)) (k : StopCause) : s.takeStop k = s := by
  simp only [List.mem_cons, List.not_mem_nil, or_false] at hs
  rcases hs with (hs | hs | hs | hs) | ⟨hs, hl⟩
  · simp [takeStop, hs]
  · simp [takeStop, hs]
  · simp [takeStop, hs]
  · simp [takeStop, hs]
  · simp [takeStop, doIf_eq, hs, hl]

/-! ### CONNECTED (R2) -/

theorem connectedCheck_locks {s : State} (hs : s.session.st = .connected) (hp : s.session.pilot ≠ .absent) :
    s.connectedCheck = s.goLocking := by
  simp [connectedCheck, doIf_eq, hs, hp]

theorem connectedCheck_stays {s : State} (h : s.session.st ≠ .connected ∨ s.session.pilot = .absent) :
    s.connectedCheck = s := by
  rcases h with h | h <;> simp [connectedCheck, doIf_eq, h]

/-! ### A plug loss (R2, R12, R24, R25) -/

section
variable {s u : State} (hu : s.clearStation = u)
include hu

theorem plugLoss_idle (hs : u.session.st = .idle) : s.plugLoss = u := by
  simp [plugLoss, hu, hs]

theorem plugLoss_leaves (hs : u.session.st = .connected ∨ (u.session.st = .finished ∧ u.session.lock ≠ .engaged)) :
    s.plugLoss = u.enter .idle := by
  rcases hs with hs | ⟨hs, hl⟩
  · simp [plugLoss, hu, hs]
  · simp [plugLoss, hu, hs, hl]

theorem plugLoss_stops (hs : u.session.st ∈ [.locking, .authorising, .energising, .active, .paused] ∨
    (u.session.st = .finished ∧ u.session.lock = .engaged)) : s.plugLoss = u.takeStop .cableLost := by
  simp only [List.mem_cons, List.not_mem_nil, or_false] at hs
  rcases hs with (hs | hs | hs | hs | hs) | ⟨hs, hl⟩
  · simp [plugLoss, hu, hs]
  · simp [plugLoss, hu, hs]
  · simp [plugLoss, hu, hs]
  · simp [plugLoss, hu, hs]
  · simp [plugLoss, hu, hs]
  · simp [plugLoss, hu, hs, hl]

theorem plugLoss_seen (hs : u.session.st = .unlocking ∨ u.session.st = .faulted) :
    s.plugLoss = u.onSession fun x => { x with plugLossSeen := true } := by
  rcases hs with hs | hs <;> simp [plugLoss, hu, hs]

theorem plugLoss_stopping (hs : u.session.st = .stopping) :
    s.plugLoss = (u.onSession fun x => { x with plugLossSeen := true }).takeStop .cableLost := by
  simp [plugLoss, hu, hs]

end

/-! ### The class taken (R1) -/

/-- R1, R2, R28: a class held that the session follows, with the notices it raises. -/
def proxHeld (s : State) (c : PlugClass) (ks : List NoticeKind) : State :=
  { noticed ks s with
    session := { s.session with watchProx := c, proxTaken := true, prox := c }
    budgetIn := s.budgetIn ++ [.cable c.rating] }

/-- R12, R33: and a station record cleared. -/
def plugGone (s : State) (c : PlugClass) : State :=
  { noticed [.session] s with
    session := { s.session with watchProx := c, proxTaken := true, prox := c, station := none }
    budgetIn := s.budgetIn ++ [.cable 130] ++ (if s.session.station.isSome then [.stationAbsent] else []) }

theorem proxHeld_clearStation (s : State) {c : PlugClass} (h : c.present = false) :
    (s.proxHeld c [.session]).clearStation = s.plugGone c := by
  have rating : c.rating = 130 := by cases c <;> simp_all [PlugClass.rating, PlugClass.present]
  rw [clearStation_eq]
  cases hst : s.session.station <;> simp [proxHeld, plugGone, rating, hst]

/-- R25: a loss that is noted for the end of the stop. -/
def plugSeen (s : State) (c : PlugClass) : State := (s.plugGone c).onSession fun x => { x with plugLossSeen := true }

/-- R200: the class as the watch holds it. -/
def proxWatched (s : State) (c : PlugClass) : State := s.onSession fun x => { x with watchProx := c, proxTaken := true }

theorem holdProx_eq (s : State) (c : PlugClass) (h : c ≠ s.session.prox) :
    (s.proxWatched c).holdProx c =
      s.proxHeld c (if c = .invalid ∨ c.present = true ∨ s.session.prox.present = true then [.session] else []) := by
  by_cases hn : c = .invalid ∨ c.present = true ∨ s.session.prox.present = true
  · have raised : (c != s.session.prox && (c == .invalid || c.present || s.session.prox.present)) = true := by
      simpa [h, or_assoc] using hn
    simp only [holdProx, proxWatched, onSession_session, raised]
    simp [hn, raise_eq, proxHeld, noticed, onSession, postBudget]
  · have quiet : (c != s.session.prox && (c == .invalid || c.present || s.session.prox.present)) = false := by
      simpa [h, and_assoc] using hn
    simp only [holdProx, proxWatched, onSession_session, quiet]
    simp [hn, proxHeld, noticed, onSession, postBudget]

/-- R1, R2: a class that has changed is held, and an arrival or a loss acts. -/
theorem takeProx_changed (s : State) (c : PlugClass) (h : c ≠ s.session.prox) :
    (s.proxWatched c).takeProx c =
      (let u := s.proxHeld c (if c = .invalid ∨ c.present = true ∨ s.session.prox.present = true then [.session] else [])
       if c.present && !s.session.prox.present then u.plugArrival
       else if !c.present && s.session.prox.present then u.plugLoss
       else u) := by
  have h' : ¬ c = (s.proxWatched c).session.prox := h
  rw [takeProx, if_neg h', holdProx_eq s c h]
  rfl

end State

end Sys2Proof.Machine

namespace Sys2Proof.Proofs

open Machine Safety

section
variable {s : State} (run : s.power.part = .run) (following : s.session.following = true) (ohms : Option Nat)
include run following

/-- R1, R200: in RUN a class that has held its dwell is taken. -/
theorem prox_taken :
    exec (.proximityClassChange ohms) s =
      .next ((s.proxWatched (plugClassOf ohms)).takeProx (plugClassOf ohms)) := by
  have watched : s.watching = true := by simp [State.watching, run]
  show Host.Outcome.next (s.doIf s.watching fun s => s.proxEvent (plugClassOf ohms)) = _
  simp [watched, State.proxEvent, run, State.actOnProx, following, State.proxWatched]

theorem prox_moved (h : plugClassOf ohms ≠ s.session.prox)
    (hc : (plugClassOf ohms).present = s.session.prox.present ∨
      ((plugClassOf ohms).present = true ∧ s.session.prox.present = false ∧ s.session.st ≠ .idle)) :
    exec (.proximityClassChange ohms) s =
      .next (s.proxHeld (plugClassOf ohms) (if plugClassOf ohms = .noPlug then [] else [.session])) := by
  have told : (if plugClassOf ohms = .invalid ∨ (plugClassOf ohms).present = true ∨ s.session.prox.present = true then
      [NoticeKind.session] else []) = if plugClassOf ohms = .noPlug then [] else [.session] := by
    rcases hc with hc | ⟨hc, -, -⟩
    · rw [← hc]
      cases plugClassOf ohms <;> simp [PlugClass.present]
    · cases hp : plugClassOf ohms <;> simp_all [PlugClass.present]
  rw [prox_taken run following, State.takeProx_changed _ _ h, told]
  rcases hc with hc | ⟨hc, hp, hs⟩
  · simp [hc]
  · have stays : (s.proxHeld (plugClassOf ohms) (if plugClassOf ohms = .noPlug then [] else [.session])).plugArrival =
        s.proxHeld (plugClassOf ohms) (if plugClassOf ohms = .noPlug then [] else [.session]) := if_neg hs
    simp [hc, hp, stays]

theorem prox_arrived (hs : s.session.st = .idle) (hc : (plugClassOf ohms).present = true) (hp : s.session.prox.present = false) :
    exec (.proximityClassChange ohms) s =
      .next ((s.proxHeld (plugClassOf ohms) [.session]).enter .connected).connectedCheck := by
  have changed : plugClassOf ohms ≠ s.session.prox := fun h => by simp [h, hp] at hc
  have arrives : (s.proxHeld (plugClassOf ohms) [.session]).plugArrival =
      ((s.proxHeld (plugClassOf ohms) [.session]).enter .connected).connectedCheck := if_pos hs
  rw [prox_taken run following, State.takeProx_changed _ _ changed]
  simp [hc, hp, arrives]

theorem prox_lost (hc : (plugClassOf ohms).present = false) (hp : s.session.prox.present = true) :
    exec (.proximityClassChange ohms) s = .next (s.proxHeld (plugClassOf ohms) [.session]).plugLoss := by
  have changed : plugClassOf ohms ≠ s.session.prox := fun h => by simp [h, hp] at hc
  rw [prox_taken run following, State.takeProx_changed _ _ changed]
  simp [hc, hp]

end

/-- Settles O20: the windows, and a change of class by whether it is an arrival or a loss and by the session's state. -/
theorem plugChangesMoveTheSession : Obligations.PlugChangesMoveTheSession := by
  refine ⟨⟨rfl, fun r h => ?_, fun r h h' => ?_, fun r h h' => ?_, fun r h h' => ?_, fun r h h' => ?_, fun r h => ?_⟩, ?_⟩
  case refine_7 =>
    intro s ohms run following c x gone posts lost
    refine ⟨fun h => ?same, fun h hc => ?moved, fun ⟨hc, hp⟩ hs => ?idle, fun ⟨hc, hp⟩ hs => ?locking,
      fun ⟨hc, hp⟩ hs => ?noted, fun ⟨hc, hp⟩ hs hl => ?driven, fun ⟨hc, hp⟩ hs hl => ?reached, fun ⟨hc, hp⟩ hs => ?stopping,
      fun ⟨hc, hp⟩ hs ho => ?ended, fun hs hc hp hpl => ?connected, fun hs hc hp hpl hl => ?locks, fun hs hc hp hpl hl => ?locked,
      fun hc hp hs => ?leaves, fun hc hp hs ho => ?opening⟩
    case same =>
      have unchanged : (s.proxWatched c).takeProx c = s.proxWatched c := if_pos h
      rw [prox_taken run following, unchanged]
      rfl
    case moved => exact prox_moved run following ohms h hc
    case idle =>
      rw [prox_lost run following ohms hc hp, State.plugLoss_idle (s.proxHeld_clearStation hc) hs]
      rfl
    case locking =>
      rw [prox_lost run following ohms hc hp, State.plugLoss_stops (s.proxHeld_clearStation hc) (.inl (by simp [State.plugGone, hs])),
        State.takeStop_locking (s := s.plugGone _) hs]
      rfl
    case noted =>
      rw [prox_lost run following ohms hc hp, State.plugLoss_seen (s.proxHeld_clearStation hc) hs]
      rfl
    case driven =>
      have stops : (s.plugGone c).session.st ∈ [.locking, .authorising, .energising, .active, .paused] ∨
          ((s.plugGone c).session.st = .finished ∧ (s.plugGone c).session.lock = .engaged) :=
        hs.imp (fun h => by simp [State.plugGone, h]) id
      rw [prox_lost run following ohms hc hp, State.plugLoss_stops (s.proxHeld_clearStation hc) stops,
        State.takeStop_unlocks (s := s.plugGone c) hs, State.goUnlocking_driven (s := s.plugGone c) hl]
      simp [State.plugGone, noticed, gone, posts, x, c]
    case reached =>
      have stops : (s.plugGone c).session.st ∈ [.locking, .authorising, .energising, .active, .paused] ∨
          ((s.plugGone c).session.st = .finished ∧ (s.plugGone c).session.lock = .engaged) :=
        hs.imp (fun h => by simp [State.plugGone, h]) id
      rw [prox_lost run following ohms hc hp, State.plugLoss_stops (s.proxHeld_clearStation hc) stops,
        State.takeStop_unlocks (s := s.plugGone c) hs, State.goUnlocking_reached (s := s.plugGone c) hl]
      simp [State.plugGone, noticed, gone, posts, x, c, hc]
    case stopping =>
      intro seen emergency
      have lost := prox_lost run following ohms hc hp
      rw [State.plugLoss_stopping (s.proxHeld_clearStation hc) hs] at lost
      have begun : exec (.proximityClassChange ohms) s = .next ((s.plugSeen c).takeStop .cableLost) := lost
      refine ⟨fun he => ?kept, fun he hr => ?noted, fun he hr ho => ?cut, fun he hr ho => ?cutEnded⟩
      case kept =>
        rw [begun, State.takeStop_kept (s := s.plugSeen c) hs he]
        rfl
      case noted =>
        rw [begun, State.takeStop_noted (s := s.plugSeen c) hs rfl he hr]
        rfl
      case cut =>
        rw [begun, State.takeStop_waiting (s := s.plugSeen c) hs rfl he hr ho]
        rfl
      case cutEnded =>
        have same : State.SameStop { s with session := seen } (s.plugSeen c) :=
          ⟨by simp [onlyChanges, State.plugSeen, State.plugGone, State.onSession, noticed], rfl, rfl, rfl, rfl, rfl, rfl, rfl⟩
        exact ⟨_, begun, State.stopDone_of same (State.takeStop_done (s := s.plugSeen c) hs rfl he run hr ho)⟩
    case ended =>
      simp only [List.mem_cons, List.not_mem_nil, or_false] at hs
      obtain ⟨done, onward⟩ := State.beginStop_done (s := s.plugGone c) (k := .cableLost) run (.inl rfl) ho
      have same : State.SameStop { s with session := gone } (s.plugGone c) :=
        ⟨by simp [onlyChanges, State.plugGone, noticed], rfl, rfl, rfl, rfl, rfl, rfl, rfl⟩
      refine ⟨_, prox_lost run following ohms hc hp, ?_⟩
      rw [State.plugLoss_stops (s.proxHeld_clearStation hc) (.inl (by simpa [State.plugGone] using .inr (.inr hs))),
        State.takeStop_charging (s := s.plugGone c) hs]
      exact ⟨State.stopDone_of same done, onward.hostPause⟩
    case connected =>
      rw [prox_arrived run following ohms hs hc hp, State.connectedCheck_stays (s := (s.proxHeld c [.session]).enter .connected) (.inr hpl),
        State.enter_eq]
      simp [State.proxHeld, noticed, SessState.clearsPlugLoss, Session.loadFor, x, c]
    case locks =>
      rw [prox_arrived run following ohms hs hc hp, State.connectedCheck_locks (s := (s.proxHeld c [.session]).enter .connected) rfl hpl,
        State.goLocking_driven (s := (s.proxHeld c [.session]).enter .connected) hl, State.enter_eq]
      simp [State.proxHeld, noticed, SessState.clearsPlugLoss, x, c]
    case locked =>
      rw [prox_arrived run following ohms hs hc hp, State.connectedCheck_locks (s := (s.proxHeld c [.session]).enter .connected) rfl hpl,
        State.goLocking_reached (s := (s.proxHeld c [.session]).enter .connected) hl, State.enter_eq]
      simp [State.proxHeld, noticed, SessState.clearsPlugLoss, x, c]
    case leaves =>
      rw [prox_lost run following ohms hc hp, State.plugLoss_leaves (s.proxHeld_clearStation hc) hs, State.enter_eq]
      simp [State.plugGone, noticed, SessState.clearsPlugLoss, Session.loadFor, gone, posts, x, c]
    case opening =>
      simp only [List.mem_cons, List.not_mem_nil, or_false] at hs
      rw [prox_lost run following ohms hc hp,
        State.plugLoss_stops (s.proxHeld_clearStation hc) (.inl (by simpa [State.plugGone] using .inr (.inr hs))),
        State.takeStop_charging (s := s.plugGone c) hs, State.beginStop_waiting (s := s.plugGone c) (.inl rfl) ho]
      simp [State.stopBegun, State.commandOpen_eq, State.plugGone, noticed, gone, posts, x, c]
  all_goals grind [plugClassOf]

end Sys2Proof.Proofs
end

section
/-! The pilot (R2 to R4, R7, R20 to R23). -/

-- One declaration at a time: each thread the elaborator opens takes its whole stack from the memory limit.
set_option Elab.async false

namespace Sys2Proof.Machine

open Safety

namespace State

/-- R200: the pilot class and duty as the watch holds them. -/
def pilotWatched (s : State) (c : PilotClass) (d : Nat) : State :=
  s.onSession fun x => { x with watchPilot := c, watchDuty := d, pilotTaken := true }

/-- R3, R4, R28: a changed class held that the session follows, its offer posted and a SESSION notice raised. -/
def pilotHeld (s : State) (c : PilotClass) (d : Nat) : State :=
  { noticed [.session] s with
    session := { s.session with watchPilot := c, watchDuty := d, pilotTaken := true, pilot := c, duty := d }
    budgetIn := s.budgetIn ++ [.offer (offerOf c d)] }

/-- The end of a stop does not tell the held pilot's notice and posting from the session's change alone. -/
theorem pilotHeld_same (s : State) (c : PilotClass) (d : Nat) :
    SameStop { s with session := { s.session with watchPilot := c, watchDuty := d, pilotTaken := true, pilot := c, duty := d } }
      (s.pilotHeld c d) :=
  ⟨by simp [onlyChanges, pilotHeld, noticed], rfl, rfl, rfl, rfl, rfl, rfl, rfl⟩

theorem holdPilot_changed (s : State) {c : PilotClass} (d : Nat) (h : c ≠ s.session.pilot) :
    (s.pilotWatched c d).holdPilot c d = s.pilotHeld c d := by
  have raised : (c != s.session.pilot) = true := by simpa using h
  simp only [holdPilot, pilotWatched, onSession_session, raised]
  simp [raise_eq, pilotHeld, noticed, onSession, postBudget]

section
variable (s : State) (d : Nat)

theorem takePilot_absent (h : .absent ≠ s.session.pilot) :
    (s.pilotWatched .absent d).takePilot .absent d = (s.pilotHeld .absent d).takeStop .cableLost := by
  have h' : ¬ PilotClass.absent = (s.pilotWatched .absent d).session.pilot := h
  rw [takePilot, if_neg h', holdPilot_changed s d h]

theorem takePilot_present {c : PilotClass} (h : c ≠ s.session.pilot) (hc : c = .steady ∨ c = .offering) :
    (s.pilotWatched c d).takePilot c d = (s.pilotHeld c d).connectedCheck := by
  have h' : ¬ c = (s.pilotWatched c d).session.pilot := h
  rw [takePilot, if_neg h', holdPilot_changed s d h]
  rcases hc with rfl | rfl <;> rfl

/-- R3: ERROR stops a charging session. -/
theorem takePilot_error (h : .error ≠ s.session.pilot)
    (hs : s.session.st = .energising ∨ s.session.st = .active ∨ s.session.st = .paused) :
    (s.pilotWatched .error d).takePilot .error d = (s.pilotHeld .error d).beginStop .stationFault := by
  have h' : ¬ PilotClass.error = (s.pilotWatched .error d).session.pilot := h
  rw [takePilot, if_neg h', holdPilot_changed s d h, ← takeStop_charging (s := s.pilotHeld .error d) hs]
  rcases hs with hs | hs | hs <;> simp [pilotHeld, hs]

/-- R3, log 10: ERROR moves no other session. -/
theorem takePilot_error_stays (h : .error ≠ s.session.pilot) (hs : s.session.st ∉ [.energising, .active, .paused]) :
    (s.pilotWatched .error d).takePilot .error d = s.pilotHeld .error d := by
  have h' : ¬ PilotClass.error = (s.pilotWatched .error d).session.pilot := h
  rw [takePilot, if_neg h', holdPilot_changed s d h]
  simp only [List.mem_cons, List.not_mem_nil, or_false, not_or] at hs
  obtain ⟨he, ha, hp⟩ := hs
  cases hst : s.session.st <;> simp_all [pilotHeld, takeStop, StopCause.emergency]

end

end State

end Sys2Proof.Machine

namespace Sys2Proof.Proofs

open Machine Safety

section
variable {s : State} (run : s.power.part = .run) (following : s.session.following = true)
include run following

/-- R3, R200: in RUN a pilot that has held its dwell is taken. -/
theorem pilot_taken {sig : PilotSignal} {c : PilotClass} {d : Nat} (h : pilotClassOf sig = some (c, d)) :
    exec (.pilotClassChange sig) s = .next ((s.pilotWatched c d).takePilot c d) := by
  have watched : s.watching = true := by simp [State.watching, run]
  show Host.Outcome.next (match pilotClassOf sig with
    | none => s
    | some (c, duty) => s.doIf s.watching fun s => s.pilotEvent c duty) = _
  simp [h, watched, State.pilotEvent, run, State.actOnPilot, following, State.pilotWatched]

end

/-- Of the moves a pilot change does not make, none with a pilot present leaves CONNECTED to be seen. -/
theorem leaves_connected {s : State} {c : PilotClass} (he : c ≠ .error) (ha : c ≠ .absent)
    (hs : s.session.st ∈ [.idle, .unlocking, .faulted] ∨ (s.session.st = .finished ∧ s.session.lock ≠ .engaged) ∨
      (c = .error ∧ s.session.st ∉ [.energising, .active, .paused]) ∨ (c = .absent ∧ s.session.st = .connected) ∨
      ((c = .steady ∨ c = .offering) ∧ s.session.st ≠ .connected)) : s.session.st ≠ .connected := by
  rcases hs with h | ⟨h, -⟩ | ⟨h, -⟩ | ⟨h, -⟩ | ⟨-, h⟩
  · intro h'
    simp [h'] at h
  · simp [h]
  · exact absurd h he
  · exact absurd h ha
  · exact h

/-- Settles O21: a class that changed by what it is and by the session's state, a duty alone, and the windows. -/
theorem pilotChangesMoveTheSession : Obligations.PilotChangesMoveTheSession := by
  intro s run following
  refine ⟨fun sig h => ?outside, fun sig c d h => ?classes, fun high period hw hp hd => ?duty, fun v => ?level,
    fun hz v high period => rfl⟩
  case outside =>
    show Host.Outcome.next (match pilotClassOf sig with
      | none => s
      | some (c, duty) => s.doIf s.watching fun s => s.pilotEvent c duty) = _
    rw [h]
  case level => rfl
  case duty =>
    have watched : s.watching = true := by simp [State.watching, run]
    show Host.Outcome.next (s.doIf (s.watching && s.session.watchPilot == .offering) _) = _
    simp [watched, hw, State.pilotEvent, run, State.actOnPilot, following, State.takePilot, hp, hd, State.holdPilot,
      State.onSession, State.postBudget, offerOf]
  case classes =>
    intro x held posts
    have taken := pilot_taken run following h
    refine ⟨fun hc hd => ?same, fun hc hs => ?moved, fun hc hs ho hl => ?locks, fun hc hs ho hl => ?locked,
      fun hc ha hs => ?noted, fun hc ha hs => ⟨fun hl => ?driven, fun hl => ?reached⟩, fun hc ha hs => ?stopping,
      fun hc he hs hi => ?ramp, fun k hc hs hk => ⟨fun ho => ?opening, fun ho => ?ended⟩⟩
    case same =>
      have unchanged : (s.pilotWatched c d).takePilot c d = s.pilotWatched c d := by
        rw [State.takePilot, if_pos (show c = (s.pilotWatched c d).session.pilot from hc),
          if_pos (show d = (s.pilotWatched c d).session.duty from hd)]
      rw [taken, unchanged]
      rfl
    case moved =>
      rw [taken]
      cases c with
      | absent =>
        have resting : s.session.st ∈ [.idle, .connected, .unlocking, .faulted] ∨
            (s.session.st = .finished ∧ s.session.lock ≠ .engaged) := by
          simp at hs ⊢
          tauto
        rw [State.takePilot_absent s d hc, State.takeStop_idle (s := s.pilotHeld .absent d) resting]
        rfl
      | error =>
        have resting : s.session.st ∉ [.energising, .active, .paused] := by
          simp at hs ⊢
          rcases hs with (h | h | h) | h | h
          · simp [h]
          · simp [h]
          · simp [h]
          · simp [h.1]
          · exact h
        rw [State.takePilot_error_stays s d hc resting]
        rfl
      | steady =>
        have apart := leaves_connected (by simp) (by simp) hs
        rw [State.takePilot_present s d hc (.inl rfl), State.connectedCheck_stays (s := s.pilotHeld .steady d) (.inl apart)]
        rfl
      | offering =>
        have apart := leaves_connected (by simp) (by simp) hs
        rw [State.takePilot_present s d hc (.inr rfl), State.connectedCheck_stays (s := s.pilotHeld .offering d) (.inl apart)]
        rfl
    case locks =>
      have present : c ≠ .absent := by rcases ho with rfl | rfl <;> simp
      rw [taken, State.takePilot_present s d hc ho, State.connectedCheck_locks (s := s.pilotHeld c d) hs present,
        State.goLocking_driven (s := s.pilotHeld c d) hl]
      simp [State.pilotHeld, noticed, held, posts, x]
    case locked =>
      have present : c ≠ .absent := by rcases ho with rfl | rfl <;> simp
      rw [taken, State.takePilot_present s d hc ho, State.connectedCheck_locks (s := s.pilotHeld c d) hs present,
        State.goLocking_reached (s := s.pilotHeld c d) hl]
      simp [State.pilotHeld, noticed, held, posts, x]
    case noted =>
      subst ha
      rw [taken, State.takePilot_absent s d hc, State.takeStop_locking (s := s.pilotHeld .absent d) hs]
      rfl
    case driven =>
      subst ha
      rw [taken, State.takePilot_absent s d hc, State.takeStop_unlocks (s := s.pilotHeld .absent d) hs,
        State.goUnlocking_driven (s := s.pilotHeld .absent d) hl]
      simp [State.pilotHeld, noticed, held, posts, x]
    case reached =>
      subst ha
      intro ends
      rw [taken, State.takePilot_absent s d hc, State.takeStop_unlocks (s := s.pilotHeld .absent d) hs,
        State.goUnlocking_reached (s := s.pilotHeld .absent d) hl]
      cases hp : s.session.prox.present <;> simp [State.pilotHeld, noticed, held, posts, x, ends, hp]
    case stopping =>
      subst ha
      intro emergency
      have begun := taken.trans (congrArg _ (State.takePilot_absent s d hc))
      refine ⟨fun he => ?kept, fun he hr => ?later, fun he hr ho => ?cut, fun he hr ho => ?cutEnded⟩
      case kept =>
        rw [begun, State.takeStop_kept (s := s.pilotHeld .absent d) hs he]
        rfl
      case later =>
        rw [begun, State.takeStop_noted (s := s.pilotHeld .absent d) hs rfl he hr]
        rfl
      case cut =>
        rw [begun, State.takeStop_waiting (s := s.pilotHeld .absent d) hs rfl he hr ho]
        rfl
      case cutEnded =>
        exact ⟨_, begun, State.stopDone_of (s.pilotHeld_same .absent d)
          (State.takeStop_done (s := s.pilotHeld .absent d) hs rfl he run hr ho)⟩
    case ramp =>
      subst he
      have not_energising : s.session.st ≠ .energising := by rcases hs with hs | hs <;> simp [hs]
      rw [taken, State.takePilot_error s d hc (.inr hs),
        State.beginStop_ramp (s := s.pilotHeld .error d) rfl not_energising hi]
      simp [State.stopBegun, State.onSession, State.pilotHeld, noticed, held, posts, x]
    all_goals
      simp only [List.mem_cons, List.not_mem_nil, or_false] at hs
      have atOnce : k.emergency = true ∨ s.session.st = .energising ∨ s.inletCurrent < 10 := by
        rcases hk with ⟨-, rfl⟩ | ⟨-, -, h⟩
        · exact .inl rfl
        · exact .inr h
      have begun : exec (.pilotClassChange sig) s = .next ((s.pilotHeld c d).beginStop k) := by
        rcases hk with ⟨rfl, rfl⟩ | ⟨rfl, rfl, -⟩
        · rw [taken, State.takePilot_absent s d hc, State.takeStop_charging (s := s.pilotHeld .absent d) hs]
        · rw [taken, State.takePilot_error s d hc hs]
    case opening =>
      rw [begun, State.beginStop_waiting (s := s.pilotHeld c d) atOnce ho]
      simp [State.stopBegun, State.commandOpen_eq, State.pilotHeld, noticed, held, posts, x]
    case ended =>
      obtain ⟨done, onward⟩ := State.beginStop_done (s := s.pilotHeld c d) (k := k) run atOnce ho
      exact ⟨_, begun, State.stopDone_of (s.pilotHeld_same c d) done, onward.hostPause⟩

end Sys2Proof.Proofs
end

section
/-! The contactors open, and the stop ends (R19, R21 to R23, R159). -/

-- One declaration at a time: each thread the elaborator opens takes its whole stack from the memory limit.
set_option Elab.async false

namespace Sys2Proof.Machine

open Safety

namespace State

/-- The first step of a stop's end: the contactors settled by their feedback, the timeout off, the load released. -/
def settledEnd (s : State) : State :=
  (s.settleContactors.onSession fun x => { x with openTimer := none }).onPins fun p => { p with cpLoad := false }

/-- R12, R136, R159: the end of a stop closes the record, and posts the phases and a station record gone. -/
theorem stopEnd_posts {s : State} (hs : s.session.st = .stopping) (b : Bool) :
    recordClosed (s.session.stopCause.getD .hostStop) s (s.stopEnd b) ∧ BudgetPosting.phases 0 ∈ (s.stopEnd b).budgetIn ∧
      (s.session.station ≠ none → BudgetPosting.stationAbsent ∈ (s.stopEnd b).budgetIn) := by
  have rest : s.stopEnd b = ((s.settledEnd.shut.afterStop b).postBudget (.phases 0)).clearStation := rfl
  have shut := shut_facts (w := s.settledEnd) hs rfl
  obtain ⟨x, hx⟩ : ∃ x, x = s.settledEnd.shut := ⟨_, rfl⟩
  rw [rest, ← hx, clearStation_eq]
  rw [← hx] at shut
  obtain ⟨⟨c, session, _⟩, -, -, closed, -⟩ := shut
  obtain ⟨-, -, -, -, -, -, -, -, -, station, notices, after⟩ := x.afterStop_facts b
  have billing := onlyChanges_billing after
  have meter := onlyChanges_meter after
  have nv := onlyChanges_nv after
  have station' : x.session.station = s.session.station := by rw [session]; rfl
  refine ⟨recordClosed_of (u := s.settledEnd) closed rfl rfl billing meter nv notices, ?_, fun h => ?_⟩
  · simp
  · simp [station, station', h]

/-- A contact reports open. -/
def contactReads (s : State) (p : Pins) : State := { s with pins := p }

end State

end Sys2Proof.Machine

namespace Sys2Proof.Proofs

open Machine Safety

section
variable {s : State} (run : s.power.part = .run) {k : Contact} {p : Pins} (hp : p = s.pins.setFb k false)
include run hp

/-- R21: a contact that opens while the contactors were commanded open. -/
theorem contactorOpened_checks (hac : s.session.acK ≠ .closed) (hdc : s.session.dcK ≠ .closed) :
    exec (.contactorOpened k) s = .next (s.contactReads p).openingCheck := by
  have sound : (s.inRun && s.contactFault k) = false := by
    cases k <;> simp [State.contactFault, hac, hdc]
  subst hp
  show Host.Outcome.next (s.contactOpenedEvent k) = _
  simp only [State.contactOpenedEvent, sound]
  simp [run, State.contactReads, State.onPins]

/-- The fault of a contactor that opened by itself (R19). -/
def contactorFailed (s : State) (p : Pins) : State :=
  { noticed [.session] s with session := { s.session with fault := some .contactor }, pins := p }

/-- R19: a contact of a CLOSED contactor that opens in ACTIVE or PAUSED. -/
theorem contactorOpened_stops (hs : s.session.st = .active ∨ s.session.st = .paused)
    (hk : (if k = .ac then s.session.acK else s.session.dcK) = .closed) :
    exec (.contactorOpened k) s = .next ((contactorFailed s p).beginStop .contactor) := by
  have fails : (s.inRun && s.contactFault k) = true := by
    have drawing : s.drawing = true := (State.drawing_eq_true s).2 hs
    cases k <;> simp_all [State.contactFault, State.inRun]
  subst hp
  show Host.Outcome.next (s.contactOpenedEvent k) = _
  simp only [State.contactOpenedEvent, fails]
  rw [← State.takeStop_charging (s := contactorFailed s _) (.inr hs)]
  simp [State.raise_eq, contactorFailed, State.onPins, State.onSession, noticed]

end

/-- Settles O26: the last contact, the timeout, and the contact of a closed contactor. -/
theorem stopEndsWhenContactorsOpen : Obligations.StopEndsWhenContactorsOpen := by
  intro s run
  refine ⟨fun k p hp hs ht hac hdc ho => ?last, fun ht hs => ?timeout, fun k p hp hs hk => ⟨fun ho => ?opening, fun ho => ?ended⟩⟩
  case last =>
    have stopping : (s.contactReads p).session.st = .stopping := hs
    have ends : exec (.contactorOpened k) s = .next ((s.contactReads p).stopEnd false) := by
      rw [contactorOpened_checks run hp hac hdc]
      simp [State.openingCheck, State.contactReads, State.inRun, run, hs, Option.isSome_iff_ne_none, ht, ho, State.doIf_eq]
    obtain ⟨kept, driven, faulted, -, openTimer, acK, dcK, cause, load, station, iso, -, frame⟩ :=
      State.stopEnd_facts (s.contactReads p) stopping false
    obtain ⟨closed, phases, absent⟩ := State.stopEnd_posts (s := s.contactReads p) stopping false
    refine ⟨_, ends, kept rfl, driven rfl, faulted rfl, openTimer, acK, dcK, station, phases, absent, cause, load, iso,
      State.recordClosed_of closed rfl rfl rfl rfl rfl fun _ h => h, ?_⟩
    exact onlyChanges_trans (by simp [State.contactReads, onlyChanges] : onlyChanges [.pins] s (s.contactReads p)) frame
  case timeout =>
    have ends : exec .openingFeedbackTimeout s = .next (s.stopEnd true) := by
      show Host.Outcome.next s.openingTimeout = _
      simp [State.openingTimeout, State.doIf_eq, hs, Option.isSome_iff_ne_none, ht, run]
    obtain ⟨-, -, -, faulted, openTimer, -, -, -, load, station, -, -, frame⟩ := State.stopEnd_facts s hs true
    obtain ⟨closed, phases, absent⟩ := State.stopEnd_posts hs true
    obtain ⟨st, fault, ac, pos, neg⟩ := faulted rfl
    exact ⟨_, ends, st, fault, openTimer, station, phases, absent, ac, pos, neg, load, closed, frame⟩
  case opening =>
    have closed : ¬ contactsOpen (contactorFailed s p) := (allOpen_eq_false (contactorFailed s p)).1 ho
    rw [contactorOpened_stops run hp hs hk, State.beginStop_waiting (s := contactorFailed s p) (.inl rfl) closed]
    simp [State.stopBegun, State.commandOpen_eq, contactorFailed, noticed]
  case ended =>
    have opened : contactsOpen (contactorFailed s p) := (allOpen_eq_true (contactorFailed s p)).1 ho
    obtain ⟨done, onward⟩ := State.beginStop_done (s := contactorFailed s p) (k := .contactor) run (.inl rfl) opened
    have same : State.SameStop { s with pins := p } (contactorFailed s p) :=
      ⟨by simp [onlyChanges, contactorFailed, noticed], rfl, rfl, rfl, rfl, rfl, rfl, rfl⟩
    exact ⟨_, contactorOpened_stops run hp hs hk, State.stopDone_of same done, onward.hostPause⟩

end Sys2Proof.Proofs
end

section
/-! AUTHORISE (R8, R10, R11, R91, R135, R157). -/

-- One declaration at a time: each thread the elaborator opens takes its whole stack from the memory limit.
set_option Elab.async false

namespace Sys2Proof.Machine

open Safety

theorem lowestCollected_lt {l : List Slot} {i : Nat} {p : Nat × Nat} (h : lowestCollected l i = some p) : p.1 < i + l.length := by
  induction l generalizing i p with
  | nil => simp [lowestCollected] at h
  | cons x r ih =>
    simp only [lowestCollected] at h
    cases hr : lowestCollected r (i + 1) with
    | none =>
      simp only [hr] at h
      split at h
      · obtain rfl := Option.some.inj h
        simp
      · simp at h
    | some q =>
      have hq := ih hr
      simp only [hr] at h
      split at h
      · obtain rfl := Option.some.inj h
        simp
      · obtain rfl := Option.some.inj h
        simp only [List.length_cons]
        omega

/-- R156: the slot offered is one of the slots. -/
theorem Billing.offer_lt {b : Billing} {i : Nat} (h : b.offer = some i) : i < b.slots.length := by
  simp only [Billing.offer] at h
  split at h
  · split at h
    · next j hj =>
      obtain rfl := Option.some.inj h
      exact (List.findIdx?_eq_some_iff_getElem.1 hj).1
    · obtain ⟨p, hp, rfl⟩ := Option.map_eq_some_iff.1 h
      simpa using lowestCollected_lt hp
  · simp at h

namespace State

/-- R157: the image of a record as it is opened. -/
def openedImage (s : State) (m : Mode) (ref : Option (List Byte)) : Slot :=
  { st := .opened
    record :=
      { number := s.billing.nextNumber, mode := m, ref := ref
        startTime := s.billing.clock.time?
        segments :=
          [{ page := s.billing.cursor.page, band := s.billing.cursor.band
             price := (s.billing.tariff.bandOf s.billing.cursor).price }]
        flags := { clockUnset := !s.billing.clock.valid } } }

/-- R8, R157: the fields stored, the record opened and ENERGISING entered. -/
def recordOpened (s : State) (slot : Nat) (m : Mode) (phases : Nat) (unlock : Bool) (ref : List Byte) : State :=
  { noticed [.session, .record] s with
    session :=
      { s.session with
        st := .energising, mode := some m, phases := some phases, unlockOnStop := unlock, stopCause := none
        ref := if ref = [] then none else some ref, plugLossSeen := false
        station := if m = .ac then none else s.session.station }
    pins := { s.pins with cpLoad := decide (m = .ac) }
    heating := { s.heating with sess := .energising, zones := s.heating.zones.map fun z => { z with onTime := 0 } }
    meter := { s.meter with channel := { isOpen := true }, mode := some m }
    billing :=
      { s.billing with
        slots := s.billing.slots.set slot (s.openedImage m (if ref = [] then none else some ref)), nextNumber := s.billing.nextNumber + 1
        reservation := none, checkpoint := some s.now }
    nv := (s.queueNv (.slot slot (s.openedImage m (if ref = [] then none else some ref))) false).nv
    budgetIn :=
      s.budgetIn ++ (if m = .ac ∧ s.session.station ≠ none then [.stationAbsent] else []) ++
        [.phases phases, .session .energising (some m)] }

/-- R135, R157: a record opened in a slot, as one equation. -/
theorem openRecord_eq (s : State) {slot : Nat} (hl : slot < s.billing.slots.length) (m : Mode) (ref : Option (List Byte)) :
    s.openRecord slot m ref =
      { noticed [.record] s with
        meter := { s.meter with channel := { isOpen := true } }
        billing :=
          { s.billing with
            slots := s.billing.slots.set slot (s.openedImage m ref), nextNumber := s.billing.nextNumber + 1
            reservation := none, checkpoint := some s.now }
        nv := (s.queueNv (.slot slot (s.openedImage m ref)) false).nv } := by
  simp only [openRecord, onSlot, onBilling, modify_eq_set _ _ _ ({} : Slot), openChannel, onMeter, queueSlot, raise_eq]
  simp [Billing.slot, hl, openedImage, queueNv, onNv, noticed]

/-- R8: the fields stored and ENERGISING entered, the record yet to open. -/
def authorisationTaken (s : State) (slot : Nat) (m : Mode) (phases : Nat) (unlock : Bool) (ref : List Byte) : State :=
  { noticed [.session] s with
    session := (s.recordOpened slot m phases unlock ref).session
    pins := { s.pins with cpLoad := decide (m = .ac) }
    heating := { s.heating with sess := .energising, zones := s.heating.zones.map fun z => { z with onTime := 0 } }
    meter := { s.meter with mode := some m }
    billing := { s.billing with reservation := some slot }
    budgetIn := (s.recordOpened slot m phases unlock ref).budgetIn }

theorem storeAuthorisation_entered (s : State) (slot : Nat) (m : Mode) (phases : Nat) (unlock : Bool) (ref : List Byte) :
    ((s.onBilling fun b => { b with reservation := some slot }).storeAuthorisation m phases unlock ref).clearOnTimes.enter
      .energising = s.authorisationTaken slot m phases unlock ref := by
  cases m <;> cases hst : s.session.station <;>
    simp [storeAuthorisation, clearOnTimes, enter_eq, clearStation_eq, recordOpened, authorisationTaken, noticed, onBilling,
      onSession, onMeter, onHeating, postBudget, SessState.clearsPlugLoss, Session.loadFor, doIf_eq, hst]

theorem authorised_eq (s : State) {slot : Nat} (hl : slot < s.billing.slots.length) (m : Mode) (phases : Nat) (unlock : Bool)
    (ref : List Byte) :
    s.authorised slot m phases unlock ref = (s.recordOpened slot m phases unlock ref).startEnergising m := by
  unfold authorised
  dsimp only
  rw [storeAuthorisation_entered, openRecord_eq (s.authorisationTaken slot m phases unlock ref) hl]
  rfl

/-! ### ENERGISING in DC (R91) -/

/-- R16, R90: a report of the monitor where no pause set is watched moves the set alone, and the load stays. -/
theorem isoChange_unwatched {s : State} (f : Insulation → Insulation) (ha : s.session.st ≠ .active) (hp : s.session.st ≠ .paused)
    (load : s.session.loadFor s.pins.cpLoad = s.pins.cpLoad) :
    (s.isoChange f).iso = f s.iso ∧ (∃ c : PauseSet, (s.isoChange f).session = { s.session with causes := c }) ∧
      (s.isoChange f).pins = s.pins ∧ onlyChanges [.iso, .session, .link, .budgetIn] s (s.isoChange f) := by
  unfold isoChange
  dsimp only
  split
  · exact ⟨rfl, ⟨s.session.causes, rfl⟩, rfl, onlyChanges_mono (onIso_frame s f)⟩
  · obtain ⟨c, hc⟩ : ∃ c : PauseSet, c = { (s.onIso f).session.causes with searchHold := (s.onIso f).iso.hold } := ⟨_, rfl⟩
    rw [← hc]
    by_cases same : c = s.session.causes
    · have stays : (s.onIso f).setCauses c = s.onIso f := if_pos same
      rw [stays]
      exact ⟨rfl, ⟨_, rfl⟩, rfl, by simp [onlyChanges, raise_eq, noticed, postBudget, onIso]⟩
    · have loaded : ({ s.session with causes := c } : Session).loadFor s.pins.cpLoad = s.pins.cpLoad := by
        rw [← load]
        cases hst : s.session.st <;> simp_all [Session.loadFor]
      have moved : (s.onIso f).setCauses c = { noticed [.session] (s.onIso f) with session := { s.session with causes := c } } := by
        simp [setCauses, same, ha, hp, onIso, onSession, raise_eq, noticed, applyLoad, onPins, loaded]
      rw [moved]
      exact ⟨rfl, ⟨c, rfl⟩, rfl, by simp [onlyChanges, raise_eq, noticed, postBudget, onIso]⟩

/-- R10, R11: ENERGISING in AC without inlet voltage. -/
theorem startEnergising_waits {s : State} (hv : s.meter.live.v1 ≤ 1800) :
    s.startEnergising .ac = s.onSession fun x => { x with energiseTimer := some s.now } := by
  have dead : (s.onSession fun x => { x with energiseTimer := some s.now }).acVoltage = false := by
    exact decide_eq_false (Nat.not_lt.2 hv)
  simp [startEnergising, acVoltageCheck, dead]

/-- R10: ENERGISING in AC with inlet voltage commands the contactor closed. -/
theorem startEnergising_closes {s : State} (hs : s.session.st = .energising) (hm : s.session.mode = some .ac)
    (hv : 1800 < s.meter.live.v1) (hf : s.pins.kacFb = false) :
    s.startEnergising .ac =
      { s with
        session := { s.session with energiseTimer := none, acK := .closing, closeTimer := some s.now }
        pins := { s.pins with kacDrive := true } } := by
  simp [startEnergising, acVoltageCheck, acVoltage, hs, hm, hv, acClosedCheck, hf, doIf_eq, onSession, onPins]

/-- R91: the monitor told to listen at an entry to ENERGISING in DC, from the state `s` before it. -/
structure Listens (s t : State) : Prop where
  session : ∃ c : PauseSet, t.session = { s.session with energiseTimer := some s.now, causes := c }
  pins : t.pins = s.pins
  dcContext : t.iso.dcContext = true
  dcClosed : t.iso.dcClosed = false
  assess : t.iso.assess = s.iso.assess
  st : t.iso.st = if s.iso.st = .off then .off else .listening
  window : s.iso.st ≠ .off → t.iso.listenTimer = some s.now ∧ t.iso.period = none
  frame : onlyChanges [.iso, .session, .link, .budgetIn] s t

/-- The energising wait running and the DC context set, the monitor yet to listen (R11, R91). -/
def dcEntered (s : State) : State :=
  (s.onSession fun x => { x with energiseTimer := some s.now }).onIso fun x => { x with dcContext := true, dcClosed := false }

section
variable {s : State} (hs : s.session.st = .energising) (load : s.pins.cpLoad = false) (hm : s.session.mode = some .dc)
include hs load hm

theorem isoChange_listens {g : Insulation → Insulation} (hg : ∀ x : Insulation, (g x).dcContext = x.dcContext ∧
      (g x).dcClosed = x.dcClosed ∧ (g x).assess = x.assess ∧ (g x).st = .listening ∧ (g x).listenTimer = some s.now ∧
      (g x).period = none) (hi : s.iso.st ≠ .off) : Listens s (s.dcEntered.isoChange g) := by
  obtain ⟨iso, ⟨c, session⟩, pins, after⟩ := isoChange_unwatched (s := s.dcEntered) g (by simp [dcEntered, hs])
    (by simp [dcEntered, hs]) (by simp [dcEntered, Session.loadFor, hs, hm, load])
  obtain ⟨dcContext, dcClosed, assess, st, listenTimer, period⟩ := hg s.dcEntered.iso
  rw [← iso] at dcContext dcClosed assess st listenTimer period
  have entry : onlyChanges [.iso, .session, .link, .budgetIn] s s.dcEntered := by
    simp [dcEntered, onlyChanges, onSession, onIso]
  exact ⟨⟨c, session⟩, pins, dcContext, dcClosed, assess, by rw [st, if_neg hi], fun _ => ⟨listenTimer, period⟩,
    onlyChanges_trans entry after⟩

theorem listenRequest_listens (hi : s.iso.st ≠ .searching) :
    Listens s (s.onSession fun x => { x with energiseTimer := some s.now }).listenRequest := by
  cases hst : s.iso.st with
  | off =>
    have request : (s.onSession fun x => { x with energiseTimer := some s.now }).listenRequest = s.dcEntered := by
      simp [listenRequest, hst, dcEntered]
    rw [request]
    exact ⟨⟨s.session.causes, rfl⟩, rfl, rfl, rfl, rfl, by simp [dcEntered, hst], fun h => absurd hst h,
      by simp [dcEntered, onlyChanges, onSession, onIso]⟩
  | measuring =>
    have request : (s.onSession fun x => { x with energiseTimer := some s.now }).listenRequest =
        s.dcEntered.isoChange fun x => x.listening s.now := by
      simp [listenRequest, hst, dcEntered]
    rw [request]
    exact isoChange_listens hs load hm (fun _ => ⟨rfl, rfl, rfl, rfl, rfl, rfl⟩) (by simp [hst])
  | listening =>
    have request : (s.onSession fun x => { x with energiseTimer := some s.now }).listenRequest =
        s.dcEntered.isoChange fun x => x.listening s.now := by
      simp [listenRequest, hst, dcEntered]
    rw [request]
    exact isoChange_listens hs load hm (fun _ => ⟨rfl, rfl, rfl, rfl, rfl, rfl⟩) (by simp [hst])
  | yielded =>
    have request : (s.onSession fun x => { x with energiseTimer := some s.now }).listenRequest =
        s.dcEntered.isoChange fun x => { x.listening s.now with last := none } := by
      simp [listenRequest, hst, dcEntered]
    rw [request]
    exact isoChange_listens hs load hm (fun _ => ⟨rfl, rfl, rfl, rfl, rfl, rfl⟩) (by simp [hst])
  | searching => exact absurd hst hi

end

/-- R12, R91: without a fault report the flags of a station record change the flags alone. -/
theorem Listens.flags {s t : State} (h : Listens s t) (mon : Bool) :
    Listens s (t.stationFlags mon false) ∧ (t.stationFlags mon false).iso.stationMon = mon := by
  have quiet : t.iso.st ≠ .measuring := by
    rw [h.st]
    split <;> simp
  have flags : t.stationFlags mon false = t.onIso fun x =>
      { x with stationMon := mon, stationFault := false, foreign := x.foreign || (mon && x.st == .listening) } := by
    simp [stationFlags, quiet, doIf_eq]
  rw [flags]
  exact ⟨⟨h.session, h.pins, h.dcContext, h.dcClosed, h.assess, h.st, h.window, onlyChanges_trans h.frame (onIso_frame _ _)⟩, rfl⟩

/-- R11, R91: ENERGISING in DC, without a fault report in the station record. -/
theorem startEnergising_listens {s : State} (hs : s.session.st = .energising) (load : s.pins.cpLoad = false)
    (hm : s.session.mode = some .dc) (hi : s.iso.st ≠ .searching)
    (hf : ∀ r, s.session.station = some r → r.faultReported = false) :
    Listens s (s.startEnergising .dc) ∧
      ∀ r, s.session.station = some r → (s.startEnergising .dc).iso.stationMon = r.monActive := by
  have listens := listenRequest_listens hs load hm hi
  obtain ⟨v, hv⟩ : ∃ v, v = (s.onSession fun x => { x with energiseTimer := some s.now }).listenRequest := ⟨_, rfl⟩
  rw [← hv] at listens
  have kept : v.session.station = s.session.station := by
    obtain ⟨c, session⟩ := listens.session
    rw [session]
  cases hr : s.session.station with
  | none =>
    have start : s.startEnergising .dc = v := by simp [startEnergising, ← hv, kept, hr]
    rw [start]
    exact ⟨listens, fun r h => by simp at h⟩
  | some r =>
    have start : s.startEnergising .dc = v.stationFlags r.monActive false := by
      simp [startEnergising, ← hv, kept, hr, hf r hr]
    obtain ⟨listens', mon⟩ := listens.flags r.monActive
    rw [start]
    exact ⟨listens', fun r' h => by rw [mon, Option.some.inj h]⟩

end State

end Sys2Proof.Machine

namespace Sys2Proof.Proofs

open Machine Safety

/-- Settles O14: the record opened, and the start of ENERGISING by mode. -/
theorem authoriseOpensRecordAndEnergises : Obligations.AuthoriseOpensRecordAndEnergises := by
  intro s tag mode phases unlock ref slot h hs legal grade inlet offer start m image
  have hl := Billing.offer_lt offer
  have own : State.owner (.authorise tag mode phases unlock ref) s =
      okWith ((s.recordOpened slot m phases (decide (unlock = 1)) ref).startEnergising m) [] := by
    have ready : ¬ ¬ s.inletReady = true := not_not.2 ((inletReady_eq_true s).2 inlet)
    refine (ownAuthorise_legal hs legal).trans ((if_neg grade).trans ((if_neg ready).trans ?_))
    rw [offer, ← State.authorised_eq s hl]
  have queued : waits (s.recordOpened slot m phases (decide (unlock = 1)) ref) (.slot slot image) :=
    State.queueNv_waits s (.slot slot image) false
  rcases start with ⟨rfl, hv⟩ | ⟨rfl, hi, hf⟩
  case inl =>
    have own' : State.owner (.authorise tag 0 phases unlock ref) s =
        okWith ((s.recordOpened slot .ac phases (decide (unlock = 1)) ref).startEnergising .ac) [] := own
    have posts : s.budgetIn ++ (if Mode.ac = .ac ∧ s.session.station ≠ none then [.stationAbsent] else []) ++
        [.phases phases, .session .energising (some .ac)] = s.budgetIn ++ (if s.session.station = none then [] else
          [.stationAbsent]) ++ [.phases phases, .session .energising (some .ac)] := by
      cases s.session.station <;> simp
    by_cases dead : s.meter.live.v1 ≤ 1800
    · rw [State.startEnergising_waits (s := s.recordOpened slot .ac phases (decide (unlock = 1)) ref) dead] at own'
      refine ⟨_, exec_ok h rfl own', rfl, rfl, rfl, rfl, rfl, rfl, rfl, rfl, rfl, queued, rfl, ?_,
        fun _ => ⟨rfl, rfl, rfl, posts, rfl, fun _ => ⟨rfl, rfl, rfl⟩, fun hv' => absurd dead (Nat.not_le.2 hv')⟩,
        fun h => absurd h (by decide)⟩
      simp [onlyChanges, replied, State.recordOpened, State.onSession, noticed]
    · have live : 1800 < s.meter.live.v1 := Nat.not_le.1 dead
      rw [State.startEnergising_closes (s := s.recordOpened slot .ac phases (decide (unlock = 1)) ref) rfl rfl live
        (hv.resolve_left dead)] at own'
      refine ⟨_, exec_ok h rfl own', rfl, rfl, rfl, rfl, rfl, rfl, rfl, rfl, rfl, queued, rfl, ?_,
        fun _ => ⟨rfl, rfl, rfl, posts, rfl, fun hv' => absurd hv' dead, fun _ => ⟨rfl, rfl, rfl, rfl⟩⟩,
        fun h => absurd h (by decide)⟩
      simp [onlyChanges, replied, State.recordOpened, noticed]
  case inr =>
    have own' : State.owner (.authorise tag 1 phases unlock ref) s =
        okWith ((s.recordOpened slot .dc phases (decide (unlock = 1)) ref).startEnergising .dc) [] := own
    obtain ⟨listens, flags⟩ := State.startEnergising_listens (s := s.recordOpened slot .dc phases (decide (unlock = 1)) ref)
      rfl rfl rfl hi hf
    obtain ⟨v, hv⟩ : ∃ v, v = (s.recordOpened slot .dc phases (decide (unlock = 1)) ref).startEnergising .dc := ⟨_, rfl⟩
    rw [← hv] at listens flags own'
    obtain ⟨⟨c, session⟩, pins, dcContext, dcClosed, assess, st, window, frame⟩ := listens
    have opened : onlyChanges [.session, .pins, .heating, .meter, .billing, .nv, .link, .budgetIn] s
        (s.recordOpened slot .dc phases (decide (unlock = 1)) ref) := by
      simp [onlyChanges, State.recordOpened, noticed]
    have nv : v.nv = (s.recordOpened slot .dc phases (decide (unlock = 1)) ref).nv := onlyChanges_nv frame
    have lock : v.session.lock = s.session.lock := by rw [session]; rfl
    have station : v.session.station = s.session.station := by rw [session]; rfl
    refine ⟨_, exec_ok h rfl own', congrArg Session.st session, congrArg Session.mode session, congrArg Session.phases session,
      congrArg Session.unlockOnStop session, congrArg Session.ref session, congrArg Session.stopCause session,
      lock, onlyChanges_billing frame, onlyChanges_meter frame, ?queued, onlyChanges_heating frame,
      ?frame, fun h => absurd h (by decide), fun _ => ⟨congrArg Session.energiseTimer session, pins,
        station, dcContext, dcClosed, assess, st, window, flags⟩⟩
    case queued =>
      show waits v _
      rw [waits, nv]
      exact queued
    case frame =>
      have moved : onlyChanges [.session, .pins, .heating, .iso, .meter, .billing, .nv, .link, .budgetIn] s v :=
        onlyChanges_trans opened frame
      exact onlyChanges_replied moved ..

end Sys2Proof.Proofs
end

section
/-! The heating controller's step (R59, R68): what it leaves of its rows, of the stage link and of what is on its way. -/

-- One declaration at a time: each thread the elaborator opens takes its whole stack from the memory limit.
set_option Elab.async false

namespace Sys2Proof.Machine

open Safety

namespace State

/-! ### Setpoints written -/

/-- Of the stage link only commanded setpoints moved, and SETPOINT commands of ACTIVE nodes went to the normal queue's tail. -/
structure Commands (s t : State) : Prop where
  stage : t.stage = { s.stage with nodes := t.stage.nodes, normal := t.stage.normal }
  rows : ∀ a, ∃ w, t.node a = { s.node a with commanded := w }
  normal : ∃ l, t.stage.normal = s.stage.normal ++ l ∧ ∀ e ∈ l, e.cmd = .setpoint ∧ (s.node e.addr).st = .active
  length : t.stage.nodes.length = s.stage.nodes.length
  held : ∀ a, (s.node a).isolated = true → (s.node a).commanded = 0 → (t.node a).commanded = 0

namespace Commands

theorem refl (s : State) : Commands s s := ⟨rfl, fun _ => ⟨_, rfl⟩, ⟨[], by simp, by simp⟩, rfl, fun _ _ h => h⟩

/-- A change that leaves the stage link alone. -/
theorem of_stage {s t : State} (h : t.stage = s.stage) : Commands s t :=
  ⟨by rw [h], fun a => ⟨(s.node a).commanded, node_congr (by rw [h]) a⟩, ⟨[], by simp [h], by simp⟩, by rw [h], fun a _ hc =>
    (congrArg Node.commanded (node_congr (by rw [h]) a)).trans hc⟩

theorem trans {s t u : State} (h : Commands s t) (h' : Commands t u) : Commands s u where
  stage := by rw [h'.stage, h.stage]
  rows a := by
    obtain ⟨w, hw⟩ := h.rows a
    obtain ⟨w', hw'⟩ := h'.rows a
    exact ⟨w', by rw [hw', hw]⟩
  normal := by
    obtain ⟨l, hl, hl'⟩ := h.normal
    obtain ⟨m, hm, hm'⟩ := h'.normal
    refine ⟨l ++ m, by rw [hm, hl, List.append_assoc], fun e he => ?_⟩
    rcases List.mem_append.1 he with he | he
    · exact hl' e he
    · obtain ⟨w, hw⟩ := h.rows e.addr
      have := hm' e he
      rwa [hw] at this
  length := h'.length.trans h.length
  held a hi hc := by
    obtain ⟨w, hw⟩ := h.rows a
    exact h'.held a (by rw [hw]; exact hi) (h.held a hi hc)

theorem urgent {s t : State} (h : Commands s t) : t.stage.urgent = s.stage.urgent := by rw [h.stage]

theorem st {s t : State} (h : Commands s t) (a : Nat) : (t.node a).st = (s.node a).st := by
  obtain ⟨w, hw⟩ := h.rows a
  rw [hw]

theorem onNode (s : State) (a w : Nat) : Commands s (s.onNode a fun n => { n with commanded := if n.isolated then 0 else w }) where
  stage := by cases a <;> rfl
  rows b := by
    by_cases hb : b = a
    · subst hb
      rcases b with _ | i
      · exact ⟨_, rfl⟩
      · by_cases hl : i < s.stage.nodes.length
        · exact ⟨_, node_onNode_self s (i + 1) _ (by omega) (by omega)⟩
        · refine ⟨(s.node (i + 1)).commanded, ?_⟩
          simp [State.onNode, node, onStage, List.getD_eq_getElem?_getD, hl]
    · exact ⟨(s.node b).commanded, by rw [node_onNode_ne s b a _ hb]⟩
  normal := ⟨[], by cases a <;> simp [State.onNode, onStage], by simp⟩
  length := onNode_length s a _
  held b hi hc := by
    by_cases hb : b = a
    · subst hb
      rcases b with _ | i
      · exact hc
      · by_cases hl : i < s.stage.nodes.length
        · rw [node_onNode_self s (i + 1) _ (by omega) (by omega)]
          exact if_pos hi
        · rw [← hc]
          simp [State.onNode, node, onStage, List.getD_eq_getElem?_getD, hl]
    · rw [node_onNode_ne s b a _ hb]
      exact hc

theorem queueSetpoint {s : State} {a : Nat} (h : (s.node a).st = .active) : Commands s (s.queueNormal .setpoint a) where
  stage := by
    simp only [queueNormal, onStage]
    split <;> rfl
  rows b := ⟨(s.node b).commanded, by rw [node_congr (queueNormal_nodes ..)]⟩
  normal := by
    simp only [queueNormal, onStage]
    split
    · exact ⟨[], by simp, by simp⟩
    · exact ⟨[⟨.setpoint, a⟩], rfl, by simp [h]⟩
  length := by rw [queueNormal_nodes]
  held b _ hc := by
    rw [node_congr (queueNormal_nodes ..)]
    exact hc

theorem doIf {s t : State} (h : Commands s t) (c : Bool) {f : State → State} (hf : c = true → Commands t (f t)) :
    Commands s (t.doIf c f) := by
  cases c
  · exact h
  · exact h.trans (hf rfl)

theorem foldl {α : Type} (f : State → α → State) (hf : ∀ s x, Commands s (f s x)) (l : List α) (s : State) :
    Commands s (l.foldl f s) := by
  induction l generalizing s with
  | nil => exact refl s
  | cons x l ih => exact (hf s x).trans (ih (f s x))

theorem writeSetpoint (s : State) (a w : Nat) : Commands s (s.writeSetpoint a w) := by
  unfold State.writeSetpoint compareSetpoint
  exact (onNode s a w).doIf _ (f := fun s => s.queueNormal .setpoint a) fun h => queueSetpoint (by simp_all)

theorem writeOffs (s : State) (old : List Zone) (shed : List Nat) : Commands s (s.writeOffs old shed) :=
  foldl _ (fun t _ => (refl t).doIf _ fun _ => writeSetpoint t _ 0) _ s

theorem writeOns (s : State) (chosen : List Nat) : Commands s (s.writeOns chosen) :=
  foldl _ (fun t _ => writeSetpoint t _ _) _ s

end Commands

/-! ### The step's postings -/

/-- The heating controller's figures last posted are no part of its rows. -/
def SameRows (h h' : Heating) : Prop :=
  h' = { h with postedDemands := h'.postedDemands, postedMin := h'.postedMin, postedHeatOn := h'.postedHeatOn }

/-- What a step of the heating controller leaves, given its rows `h` after the change. -/
structure HeatStepped (s : State) (h : Heating) (t : State) : Prop where
  rows : SameRows { h with zones := h.zones.map Zone.refresh } t.heating
  commands : Commands s t
  frame : onlyChanges [.heating, .stage, .budgetIn, .link] s t
  onward : Onward s t

theorem postHeatOn_rows (s : State) (b : Bool) : SameRows s.heating (s.postHeatOn b).heating ∧ Onward s (s.postHeatOn b) := by
  unfold postHeatOn
  dsimp only
  split
  · exact ⟨rfl, (Onward.of_frame (onHeating_frame s _)).trans (Onward.postBudget _ _)⟩
  · exact ⟨rfl, Onward.refl s⟩

theorem postDemands_rows (s : State) : SameRows s.heating s.postDemands.heating ∧ Onward s s.postDemands := by
  unfold postDemands
  dsimp only
  split
  · exact ⟨rfl, (Onward.of_frame (onHeating_frame s _)).trans (Onward.postBudget _ _)⟩
  · exact ⟨rfl, Onward.refl s⟩

theorem postMinTemp_rows (s : State) : SameRows s.heating s.postMinTemp.heating ∧ Onward s s.postMinTemp := by
  unfold postMinTemp
  dsimp only
  split
  · exact ⟨rfl, (Onward.of_frame (onHeating_frame s _)).trans (Onward.postBudget _ _)⟩
  · exact ⟨rfl, Onward.refl s⟩

theorem SameRows.trans {h h' h'' : Heating} (a : SameRows h h') (b : SameRows h' h'') : SameRows h h'' := by
  unfold SameRows at *
  rw [b, a]

/-- R59, R68, R75: a step of the heating controller. -/
theorem heatStep_stepped (s : State) (shed chosen : List Nat) (ranked : Bool) (f : Heating → Heating) :
    HeatStepped s (f s.heating) (s.heatStep shed chosen ranked f) := by
  obtain ⟨u, hu⟩ : ∃ u, u = s.onHeating fun h => let h := f h; { h with zones := h.zones.map Zone.refresh } := ⟨_, rfl⟩
  obtain ⟨v, hv⟩ : ∃ v, v = (u.writeOffs s.heating.zones shed).writeOns chosen := ⟨_, rfl⟩
  obtain ⟨w, hw⟩ : ∃ w, w = v.postHeatOn (decide (u.heating.source ≠ s.heating.source)) := ⟨_, rfl⟩
  obtain ⟨c, step⟩ : ∃ c, s.heatStep shed chosen ranked f = w.postDemands.postMinTemp.doIf c (fun s => s.raise .heat) := by
    rw [hw, hv, hu]
    exact ⟨_, rfl⟩
  have written : Commands u v := hv ▸ (Commands.writeOffs u _ _).trans (Commands.writeOns _ _)
  have wrote : onlyChanges [.stage] u v := hv ▸ onlyChanges_trans (writeOffs_frame u _ _) (writeOns_frame _ _)
  obtain ⟨on, on'⟩ := v.postHeatOn_rows (decide (u.heating.source ≠ s.heating.source))
  obtain ⟨demands, demands'⟩ := w.postDemands_rows
  obtain ⟨min, min'⟩ := w.postDemands.postMinTemp_rows
  rw [← hw] at on on'
  have rows : SameRows u.heating w.postDemands.postMinTemp.heating := by
    have kept := onlyChanges_heating wrote
    rw [kept] at on
    exact (on.trans demands).trans min
  have stage : w.postDemands.postMinTemp.stage = v.stage := by
    rw [onlyChanges_stage (postMinTemp_frame _), onlyChanges_stage (postDemands_frame _), hw,
      onlyChanges_stage (postHeatOn_frame _ _)]
  have onward : Onward s w.postDemands.postMinTemp := by
    have changed : Onward s u := hu ▸ Onward.of_frame (onHeating_frame s _)
    exact (((changed.trans (Onward.of_frame wrote)).trans on').trans demands').trans min'
  rw [step]
  refine ⟨?_, ?_, ?_, onward.doIf _ _ fun t => Onward.raise t _⟩
  · rw [onlyChanges_heating (onlyChanges_doIf (raise_frame _ _))]
    rw [hu] at rows
    exact rows
  · refine Commands.doIf (Commands.trans ?_ (Commands.of_stage stage)) _ fun _ => Commands.of_stage rfl
    exact Commands.trans (Commands.of_stage (by rw [hu]; rfl)) written
  · rw [← step]
    exact heatStep_frame s shed chosen ranked f

end State

end Sys2Proof.Machine
end

section
/-! The monitor's report to the session, and DC_STATION (R12, R13, R16, R92, R94, R100). -/

-- One declaration at a time: each thread the elaborator opens takes its whole stack from the memory limit.
set_option Elab.async false

namespace Sys2Proof.Machine

open Safety

namespace State

/-! ### A step of the heating controller made for the monitor -/

/-- Only commands to the stage link and rows of the heating controller moved, with what they post. -/
structure Heated (s t : State) : Prop where
  commands : Commands s t
  frame : onlyChanges [.heating, .stage, .budgetIn, .link] s t
  onward : Onward s t

theorem Heated.refl (s : State) : Heated s s := ⟨Commands.refl s, onlyChanges_refl _ s, Onward.refl s⟩

theorem zoneStep_heated (s : State) (n : Nat) (f : Zone → Zone) : Heated s (s.zoneStep n f) := by
  cases n with
  | zero => exact Heated.refl s
  | succ i =>
    obtain ⟨-, commands, frame, onward⟩ := heatStep_stepped s [] [] false fun h => { h with zones := h.zones.modify i f }
    exact ⟨commands, frame, onward⟩

theorem heatRelease_heated (s : State) (a : Nat) : Heated s (s.heatRelease a) := by
  unfold heatRelease atHeater
  split
  · exact zoneStep_heated s _ _
  · exact Heated.refl s

theorem heatIsolate_heated (s : State) (a : Nat) : Heated s (s.heatIsolate a) := by
  unfold heatIsolate atHeater
  split
  · exact zoneStep_heated s _ _
  · exact Heated.refl s

/-- R116: an urgent command for an ACTIVE node stands in the queue. -/
theorem mem_queueUrgent {s : State} (c : StageCmd) {a : Nat} (h : (s.node a).st = .active) :
    (⟨c, a⟩ : StageEntry) ∈ (s.queueUrgent c a).stage.urgent := by
  simp only [queueUrgent, h, if_true, onStage]
  split
  · next standing =>
    obtain ⟨e, he, ha⟩ := List.any_eq_true.1 standing
    have ha' : e.addr = a := by simpa using ha
    exact List.mem_map.2 ⟨e, he, by simp [ha']⟩
  · simp

theorem mem_queueReconnect {s : State} {a : Nat} (h : (s.node a).st = .active) :
    (⟨.reconnect, a⟩ : StageEntry) ∈ (s.queueReconnect a).stage.urgent := by
  rw [queueReconnect, (heatRelease_heated _ a).commands.urgent]
  exact mem_queueUrgent .reconnect h

theorem queueReconnect_kept (s : State) (a : Nat) :
    onlyChanges [.heating, .stage, .budgetIn, .link] s (s.queueReconnect a) ∧ Onward s (s.queueReconnect a) :=
  have released := heatRelease_heated (s.queueUrgent .reconnect a) a
  ⟨onlyChanges_trans (queueUrgent_frame s _ a) released.frame, (Onward.of_frame (queueUrgent_frame s _ a)).trans released.onward⟩

/-! ### The report (R16, R90) -/

/-- What a report of the monitor leaves of the session: SEARCH_HOLD may have moved, ACTIVE and PAUSED with it, and the load. -/
structure Moved (s t : State) : Prop where
  session : ∃ st b, t.session = { s.session with st := st, causes := { s.session.causes with searchHold := b } } ∧
    (st = s.session.st ∨
      ((s.session.st = .active ∨ s.session.st = .paused) ∧ (st = .active ∨ st = .paused)))
  pins : ∃ load, t.pins = { s.pins with cpLoad := load }
  stopping : s.session.st = .stopping → t.pins = s.pins
  frame : onlyChanges [.session, .pins, .heating, .iso, .stage, .link, .budgetIn] s t
  onward : Onward s t

namespace Moved

theorem trans {s t u : State} (h : Moved s t) (h' : Moved t u) : Moved s u where
  session := by
    obtain ⟨st, b, hs, ho⟩ := h.session
    obtain ⟨st', b', hs', ho'⟩ := h'.session
    rw [hs] at hs' ho'
    refine ⟨st', b', hs', ?_⟩
    rcases ho' with rfl | ⟨hd, hd'⟩
    · exact ho
    · rcases ho with rfl | ⟨hd'', -⟩
      · exact .inr ⟨hd, hd'⟩
      · exact .inr ⟨hd'', hd'⟩
  pins := by
    obtain ⟨l, hl⟩ := h.pins
    obtain ⟨l', hl'⟩ := h'.pins
    exact ⟨l', by rw [hl', hl]⟩
  stopping hs := by
    obtain ⟨st, b, hst, ho⟩ := h.session
    have still : st = .stopping := by
      rcases ho with rfl | ⟨hd, -⟩
      · exact hs
      · rcases hd with hd | hd <;> simp [hs] at hd
    rw [h'.stopping (by rw [hst, still]), h.stopping hs]
  frame := onlyChanges_trans h.frame h'.frame
  onward := h.onward.trans h'.onward

/-- A change that leaves the session and the pins alone. -/
theorem of_frame {ps : List Piece} {s t : State} (h : onlyChanges ps s t) (o : Onward s t)
    (hp : Piece.session ∉ ps ∧ Piece.pins ∉ ps := by decide)
    (hq : ∀ x ∈ ps, x ∈ [Piece.session, .pins, .heating, .iso, .stage, .link, .budgetIn] := by decide) : Moved s t where
  session := ⟨s.session.st, s.session.causes.searchHold, onlyChanges_session h hp.1, .inl rfl⟩
  pins := ⟨s.pins.cpLoad, onlyChanges_pins h hp.2⟩
  stopping _ := onlyChanges_pins h hp.2
  frame := onlyChanges_mono h hq
  onward := o

theorem setCauses (s : State) (b : Bool) : Moved s (s.setCauses { s.session.causes with searchHold := b }) where
  session := by
    unfold State.setCauses
    dsimp only
    split
    · next same => exact ⟨s.session.st, s.session.causes.searchHold, rfl, .inl rfl⟩
    · split
      · next h => exact ⟨.paused, b, by simp [enter_eq, onSession, raise_eq, noticed, SessState.clearsPlugLoss], .inr ⟨.inl h.1, .inr rfl⟩⟩
      · split
        · next h => exact ⟨.active, b, by simp [enter_eq, onSession, raise_eq, noticed, SessState.clearsPlugLoss], .inr ⟨.inr h.1, .inl rfl⟩⟩
        · exact ⟨s.session.st, b, by simp [onSession, raise_eq, noticed, applyLoad, onPins], .inl rfl⟩
  pins := by
    unfold State.setCauses
    dsimp only
    split
    · exact ⟨s.pins.cpLoad, rfl⟩
    · split
      · exact ⟨_, by rw [enter_eq]; rfl⟩
      · split
        · exact ⟨_, by rw [enter_eq]; rfl⟩
        · exact ⟨_, rfl⟩
  stopping h := by
    unfold State.setCauses
    dsimp only
    split
    · rfl
    · simp [h, onSession, raise_eq, noticed, applyLoad, onPins, Session.loadFor]
  frame := onlyChanges_mono (setCauses_frame s _)
  onward := Onward.setCauses s rfl

section
variable {s t : State} (h : Moved s t)
include h

theorem session_eq : t.session =
    { s.session with
      st := t.session.st, causes := { s.session.causes with searchHold := t.session.causes.searchHold } } := by
  obtain ⟨st, b, hs, -⟩ := h.session
  rw [hs]

theorem contacts : contactsOpen t ↔ contactsOpen s := by
  obtain ⟨load, pins⟩ := h.pins
  simp [contactsOpen, pins]

theorem draws (hs : s.session.st = .active ∨ s.session.st = .paused) : t.session.st = .active ∨ t.session.st = .paused := by
  obtain ⟨st, b, session, moves⟩ := h.session
  rw [session]
  rcases moves with rfl | ⟨-, h'⟩
  · exact hs
  · exact h'

theorem stays (hs : ¬ (s.session.st = .active ∨ s.session.st = .paused)) : t.session.st = s.session.st := by
  obtain ⟨st, b, session, moves⟩ := h.session
  rw [session]
  exact moves.elim id fun h' => absurd h'.1 hs

theorem current (mode : s.session.mode = some .dc) : t.inletCurrent = s.meter.live.iDc := by
  have session := congrArg Session.mode h.session_eq
  simp [inletCurrent, session, mode, onlyChanges_meter h.frame]

theorem contactors : t.session.acK = s.session.acK ∧ t.session.dcK = s.session.dcK ∧ t.session.fault = s.session.fault := by
  rw [h.session_eq]
  exact ⟨rfl, rfl, rfl⟩

end

end Moved

/-- R16, R35, R90, R106: a report of the monitor. -/
theorem isoChange_moved (s : State) (f : Insulation → Insulation) : Moved s (s.isoChange f) := by
  have changed : Moved s (s.onIso f) := Moved.of_frame (onIso_frame s f) (Onward.of_frame (onIso_frame s f))
  unfold isoChange
  dsimp only
  split
  · exact changed
  · have held := changed.trans (Moved.setCauses (s.onIso f) (s.onIso f).iso.hold)
    refine held.trans (Moved.of_frame (ps := [.budgetIn, .link]) ?_ ((Onward.postBudget _ _).trans (Onward.raise _ _)))
    exact onlyChanges_trans (postBudget_frame _ _) (raise_frame _ _)

/-- R16, R35, R106: a report that tells something new. -/
theorem isoChange_tells {s : State} {f : Insulation → Insulation}
    (h : ¬ ((f s.iso).st = s.iso.st ∧ (f s.iso).assess = s.iso.assess ∧ (f s.iso).source = s.iso.source)) :
    (s.isoChange f).session.causes.searchHold = (f s.iso).hold ∧
      BudgetPosting.searchHold (f s.iso).hold ∈ (s.isoChange f).budgetIn ∧
      NoticeKind.insulation ∈ (s.isoChange f).link.notices := by
  have step : s.isoChange f = (((s.onIso f).setCauses
      { (s.onIso f).session.causes with searchHold := (f s.iso).hold }).postBudget (.searchHold (f s.iso).hold)).raise
        .insulation := by
    unfold isoChange
    dsimp only
    exact if_neg h
  rw [step]
  refine ⟨congrArg PauseSet.searchHold (setCauses_session _ _).1, by simp, ?_⟩
  rw [raise_notices]
  split <;> simp_all

/-! ### A fault reported by the station (R94, R100) -/

/-- R94: the assessment as a station's report leaves it. -/
def externalFault (x : Insulation) : Insulation := { x with assess := .fault, source := .external, streaks := {} }

/-- R94: what a fault report does nothing more to. -/
def Settled (x : Insulation) : Prop := x.assess = .critical ∨ (x.assess = .fault ∧ x.source = .external)

/-- R12, R91, R94: the flags of a DC_STATION at the monitor. -/
def flagged (x : Insulation) (mon fault : Bool) : Insulation :=
  { x with stationMon := mon, stationFault := fault, foreign := x.foreign || (mon && x.st == .listening) }

theorem stationFaultReport_settled {s : State} (h : Settled s.iso) : s.stationFaultReport = s := if_pos h

section
variable {s : State} (h : ¬ Settled s.iso)
include h

theorem stationFaultReport_grades (hs : s.iso.st = .yielded ∨ s.iso.st = .off) :
    s.stationFaultReport = (s.isoChange externalFault).takeStop .isoExternal := by
  refine (if_neg h).trans ?_
  rcases hs with hs | hs <;> simp only [hs] <;> rfl

theorem stationFaultReport_yields (hs : s.iso.st = .listening ∨ s.iso.st = .measuring) :
    s.stationFaultReport = (s.isoChange fun x => (externalFault x).yielded).takeStop .isoExternal := by
  refine (if_neg h).trans ?_
  rcases hs with hs | hs <;> simp only [hs] <;> rfl

theorem stationFaultReport_aborts (hs : s.iso.st = .searching) :
    s.stationFaultReport =
      (s.abortSearch .external fun x => (externalFault x).yielded).takeStop .isoExternal := by
  refine (if_neg h).trans ?_
  simp only [hs]
  rfl

end

/-- A report of the station told: the session moved by it as by every report, with SEARCH_HOLD set, posted and noticed. -/
structure Reported (u w : State) : Prop where
  moved : Moved u w
  hold : w.session.causes.searchHold = true
  posted : BudgetPosting.searchHold true ∈ w.budgetIn
  noticed : NoticeKind.insulation ∈ w.link.notices

theorem isoChange_reported {u v : State} (h : ¬ Settled v.iso) (moved : Moved u v) {g : Insulation → Insulation}
    (hg : (g v.iso).assess = .fault ∧ (g v.iso).source = .external) : Reported u (v.isoChange g) := by
  have new : ¬ ((g v.iso).st = v.iso.st ∧ (g v.iso).assess = v.iso.assess ∧ (g v.iso).source = v.iso.source) := by
    rintro ⟨-, ha, hs⟩
    exact h (.inr ⟨by rw [← ha, hg.1], by rw [← hs, hg.2]⟩)
  obtain ⟨hold, posted, noticed⟩ := isoChange_tells new
  have held : (g v.iso).hold = true := by simp [Insulation.hold, hg.1]
  rw [held] at hold posted
  exact ⟨moved.trans (isoChange_moved v g), hold, posted, noticed⟩

/-- R94: the monitor after a fault report outside SEARCHING. -/
def reportGraded (x : Insulation) (mon : Bool) : Insulation :=
  if x.st = .yielded ∨ x.st = .off then externalFault (flagged x mon true) else (externalFault (flagged x mon true)).yielded

theorem stationFlags_stays {u : State} {mon : Bool} (fault : Bool)
    (h : ¬ (mon = true ∧ u.iso.st = .measuring ∧ u.iso.dcContext = true)) :
    u.stationFlags mon fault = (u.onIso fun x => flagged x mon fault).doIf fault stationFaultReport := by
  have stays : (mon && u.iso.st == .measuring && u.iso.dcContext) = false := by
    simpa [and_assoc] using h
  show ((u.onIso fun x => flagged x mon fault).doIf (mon && u.iso.st == .measuring && u.iso.dcContext) _).doIf fault _ = _
  rw [stays, doIf_false]

theorem stationFlags_reported {u : State} (mon : Bool) (h : ¬ Settled u.iso) (hs : u.iso.st ≠ .searching) :
    ∃ w, u.stationFlags mon true = w.takeStop .isoExternal ∧ w.iso = reportGraded u.iso mon ∧ w.stage = u.stage ∧ Reported u w := by
  have flags : Moved u (u.onIso fun x => flagged x mon true) :=
    Moved.of_frame (onIso_frame u _) (Onward.of_frame (onIso_frame u _))
  have h' : ¬ Settled (u.onIso fun x => flagged x mon true).iso := h
  by_cases yields : mon = true ∧ u.iso.st = .measuring ∧ u.iso.dcContext = true
  · obtain ⟨hm, hst, hd⟩ := yields
    obtain ⟨v, hv⟩ : ∃ v, v = (u.onIso fun x => flagged x mon true).isoChange fun x => x.yielded := ⟨_, rfl⟩
    have iso : v.iso = (flagged u.iso mon true).yielded := hv ▸ isoChange_iso _ _
    have settled : ¬ Settled v.iso := by
      rw [iso]
      exact h
    have step : u.stationFlags mon true = v.stationFaultReport := by
      rw [hv]
      simp [stationFlags, hm, hst, hd, flagged]
    have moved : Moved u v := flags.trans (hv ▸ isoChange_moved _ _)
    refine ⟨v.isoChange externalFault, ?_, ?_, ?_, isoChange_reported settled moved ⟨rfl, rfl⟩⟩
    · rw [step, stationFaultReport_grades settled (.inl (by rw [iso]; rfl))]
    · rw [isoChange_iso, iso, reportGraded, if_neg (by simp [hst])]
      rfl
    · rw [onlyChanges_stage (isoChange_frame v _), hv, onlyChanges_stage (isoChange_frame _ _)]
      rfl
  · have step : u.stationFlags mon true = (u.onIso fun x => flagged x mon true).stationFaultReport := stationFlags_stays true yields
    have told {g : Insulation → Insulation} (hg : ∀ x, (g x).assess = .fault ∧ (g x).source = .external)
        (hr : g (flagged u.iso mon true) = reportGraded u.iso mon) :
        ((u.onIso fun x => flagged x mon true).isoChange g).iso = reportGraded u.iso mon ∧
          ((u.onIso fun x => flagged x mon true).isoChange g).stage = u.stage ∧
          Reported u ((u.onIso fun x => flagged x mon true).isoChange g) :=
      ⟨(isoChange_iso _ _).trans hr, (onlyChanges_stage (isoChange_frame _ g)).trans rfl,
        isoChange_reported h' flags (hg _)⟩
    by_cases stands : u.iso.st = .yielded ∨ u.iso.st = .off
    · exact ⟨_, step.trans (stationFaultReport_grades h' stands), told (fun _ => ⟨rfl, rfl⟩) (if_pos stands).symm⟩
    · have acts : u.iso.st = .listening ∨ u.iso.st = .measuring := by
        cases hst : u.iso.st <;> simp [hst] at hs stands ⊢
      exact ⟨_, step.trans (stationFaultReport_yields h' acts), told (fun _ => ⟨rfl, rfl⟩) (if_neg stands).symm⟩

/-- R94, R100: the monitor after a fault report that ended a search. -/
def reportAborted (x : Insulation) (mon : Bool) : Insulation :=
  (externalFault ((flagged x mon true).searchOver .aborted (some .external) none)).yielded

theorem stationFlags_aborts {u : State} (mon : Bool) (h : ¬ Settled u.iso) (hs : u.iso.st = .searching) :
    ∃ w, u.stationFlags mon true = w.takeStop .isoExternal ∧ w.iso = reportAborted u.iso mon ∧
      (∀ a, u.iso.search.under = some a → (u.node a).st = .active → (⟨.reconnect, a⟩ : StageEntry) ∈ w.stage.urgent) ∧
      Reported u w := by
  obtain ⟨v, hv⟩ : ∃ v, v = u.onIso fun x => flagged x mon true := ⟨_, rfl⟩
  have flags : Moved u v := hv ▸ Moved.of_frame (onIso_frame u _) (Onward.of_frame (onIso_frame u _))
  have iso : v.iso = flagged u.iso mon true := by rw [hv]; rfl
  have step : u.stationFlags mon true = v.stationFaultReport := by
    rw [hv, stationFlags_stays true (by simp [hs]), doIf_true]
  obtain ⟨d, hd⟩ : ∃ d, d = v.dropBranch := ⟨_, rfl⟩
  have drop : onlyChanges [.heating, .stage, .budgetIn, .link] v d ∧ Onward v d ∧
      ∀ a, v.iso.search.under = some a → (v.node a).st = .active → (⟨.reconnect, a⟩ : StageEntry) ∈ d.stage.urgent := by
    rw [hd, dropBranch]
    cases hu : v.iso.search.under with
    | none => exact ⟨onlyChanges_refl _ _, Onward.refl _, fun _ ha => by simp at ha⟩
    | some a =>
      obtain ⟨frame, onward⟩ := queueReconnect_kept v a
      refine ⟨onlyChanges_doIf frame, (Onward.refl v).doIf _ _ fun t => (queueReconnect_kept t a).2, ?_⟩
      rintro b hb hactive
      obtain rfl : a = b := Option.some.inj hb
      simpa [hactive] using mem_queueReconnect hactive
  obtain ⟨dframe, onward, queued⟩ := drop
  have iso' : d.iso = v.iso := onlyChanges_iso dframe
  have unsettled : ¬ Settled d.iso := by
    rw [iso', iso]
    exact h
  have node (a) : v.node a = u.node a := by rw [hv]; rfl
  refine ⟨d.isoChange fun x => (externalFault (x.searchOver .aborted (some .external) none)).yielded, ?_, ?_, ?_, ?_⟩
  · rw [step, stationFaultReport_aborts (by rw [iso]; exact h) (by rw [iso]; exact hs), hd]
    rfl
  · rw [isoChange_iso, iso', iso]
    rfl
  · intro a ha hactive
    rw [onlyChanges_stage (isoChange_frame d _)]
    exact queued a (by rw [iso]; exact ha) (by rw [node]; exact hactive)
  · exact isoChange_reported unsettled (flags.trans (Moved.of_frame dframe onward)) ⟨rfl, rfl⟩

/-! ### DC_STATION (R12) -/

/-- R12: the station record replaced and posted. -/
def stationHeld (s : State) (v i p f : Nat) : State :=
  { s with
    session := { s.session with station := some ⟨v, i, p, f % 2 == 1, f / 2 % 2 == 1, s.now, false⟩ }
    budgetIn := s.budgetIn ++ [.stationFresh v i p] }

/-- What a fault report leaves beside the stop it begins. -/
structure FaultTold (s : State) (mon : Bool) (r : Option Station) (t : State) : Prop where
  graded : s.iso.st ≠ .searching → t.iso = reportGraded s.iso mon ∧ t.stage = s.stage
  aborted : s.iso.st = .searching → t.iso = reportAborted s.iso mon ∧
    ∀ a, s.iso.search.under = some a → (s.node a).st = .active → (⟨.reconnect, a⟩ : StageEntry) ∈ t.stage.urgent
  station : t.session.station = r
  hold : t.session.causes.searchHold = true
  posted : BudgetPosting.searchHold true ∈ t.budgetIn
  noticed : NoticeKind.insulation ∈ t.link.notices
  replies : t.link.replies = s.link.replies
  frame : onlyChanges [.session, .pins, .heating, .iso, .stage, .link, .budgetIn] s t

theorem FaultTold.later {s w t : State} {mon : Bool} {r : Option Station} (told : FaultTold s mon r w)
    (frame : onlyChanges [.session, .pins, .heating, .link, .budgetIn] w t) (station : t.session.station = w.session.station)
    (hold : t.session.causes.searchHold = w.session.causes.searchHold) (budgetIn : ∀ q ∈ w.budgetIn, q ∈ t.budgetIn)
    (notices : ∀ n ∈ w.link.notices, n ∈ t.link.notices) (replies : t.link.replies = w.link.replies) :
    FaultTold s mon r t where
  graded hs := by rw [onlyChanges_iso frame, onlyChanges_stage frame]; exact told.graded hs
  aborted hs := by rw [onlyChanges_iso frame, onlyChanges_stage frame]; exact told.aborted hs
  station := station.trans told.station
  hold := hold.trans told.hold
  posted := budgetIn _ told.posted
  noticed := notices _ told.noticed
  replies := replies.trans told.replies
  frame := onlyChanges_trans told.frame frame

/-- Told from the state with the monitor already graded, the report moved the session's pieces alone. -/
theorem FaultTold.frame_graded {s w : State} {mon : Bool} {r : Option Station} (told : FaultTold s mon r w)
    (hs : s.iso.st ≠ .searching) (x : Session) :
    onlyChanges [.session, .pins, .heating, .link, .budgetIn] { s with session := x, iso := reportGraded s.iso mon } w := by
  obtain ⟨iso, stage⟩ := told.graded hs
  have frame := told.frame
  simp only [onlyChanges] at frame ⊢
  simp_all

theorem stationHeld_told {s : State} (v i p f : Nat) (h : ¬ Settled s.iso) (mon : Bool) :
    ∃ w, (s.stationHeld v i p f).stationFlags mon true = w.takeStop .isoExternal ∧
      FaultTold s mon (s.stationHeld v i p f).session.station w ∧ Moved (s.stationHeld v i p f) w := by
  have held : onlyChanges [.session, .budgetIn] s (s.stationHeld v i p f) := by simp [stationHeld, onlyChanges]
  have told {w : State} (reported : Reported (s.stationHeld v i p f) w)
      (graded : s.iso.st ≠ .searching → w.iso = reportGraded s.iso mon ∧ w.stage = s.stage)
      (aborted : s.iso.st = .searching → w.iso = reportAborted s.iso mon ∧
        ∀ a, s.iso.search.under = some a → (s.node a).st = .active → (⟨.reconnect, a⟩ : StageEntry) ∈ w.stage.urgent) :
      FaultTold s mon (s.stationHeld v i p f).session.station w := by
    obtain ⟨st, b, session, -⟩ := reported.moved.session
    exact ⟨graded, aborted, by rw [session], reported.hold, reported.posted, reported.noticed, reported.moved.onward.replies,
      onlyChanges_trans held reported.moved.frame⟩
  by_cases hs : s.iso.st = .searching
  · obtain ⟨w, step, iso, urgent, reported⟩ := stationFlags_aborts (u := s.stationHeld v i p f) mon h hs
    exact ⟨w, step, told reported (fun hn => absurd hs hn) fun _ => ⟨iso, urgent⟩, reported.moved⟩
  · obtain ⟨w, step, iso, stage, reported⟩ := stationFlags_reported (u := s.stationHeld v i p f) mon h hs
    exact ⟨w, step, told reported (fun _ => ⟨iso, stage⟩) fun hy => absurd hy hs, reported.moved⟩

/-! ### SEARCH_HOLD at the end of a stop -/

theorem afterStop_causes (s : State) (b : Bool) : (s.afterStop b).session.causes = s.session.causes := by
  have unlocking : s.goUnlocking.session.causes = s.session.causes := by
    cases h : s.pins.lockFb
    · rw [goUnlocking_reached h]
    · rw [goUnlocking_driven h]
  unfold afterStop
  split
  · rw [goFaulted_eq]
  · split
    · rw [goFaulted_eq]
    · split
      · rw [enter_eq]
      · split
        · exact unlocking
        · rw [enter_eq]

theorem Insulation.dcOpened_assess (x : Insulation) (now : Nat) : (x.dcOpened now).assess = x.assess := by
  unfold Insulation.dcOpened
  cases x.st <;> rfl

/-- R16: at FAULT, SEARCH_HOLD outlasts the end of a stop. -/
theorem openContactors_holds {s : State} (hf : s.iso.assess = .fault) (hold : s.session.causes.searchHold = true) :
    s.openContactors.session.causes.searchHold = true := by
  have rest (u : State) (hu : u.iso.assess = .fault) (hu' : u.session.causes.searchHold = true) (b : Bool) :
      (u.stopRest b).session.causes.searchHold = true := by
    have told : (u.doIf (u.session.mode == some .dc) fun s => s.tellDcOpen).session.causes.searchHold = true := by
      cases u.session.mode == some .dc
      · exact hu'
      · by_cases same : (u.iso.dcOpened u.now).st = u.iso.st ∧ (u.iso.dcOpened u.now).assess = u.iso.assess ∧
            (u.iso.dcOpened u.now).source = u.iso.source
        · have step : u.tellDcOpen = u.onIso fun x => x.dcOpened u.now := if_pos same
          rw [doIf_true, step]
          exact hu'
        · have hold := (isoChange_tells (f := fun x => x.dcOpened u.now) same).1
          rw [doIf_true, tellDcOpen, hold]
          simp [Insulation.hold, Insulation.dcOpened_assess, hu]
    rw [stopRest_eq, clearStation_eq]
    show (u.shut.afterStop b).session.causes.searchHold = true
    rw [afterStop_causes, shut, (closeRecord_keeps _ _ _).1]
    exact told
  have commanded : s.commandOpen.settledEnd.iso = s.iso ∧ s.commandOpen.settledEnd.session.causes = s.session.causes ∧
      s.commandOpen.session.causes = s.session.causes := by
    rw [commandOpen_eq]
    exact ⟨rfl, rfl, rfl⟩
  obtain ⟨iso, ended, opened⟩ := commanded
  rw [openContactors, openingCheck, doIf_eq]
  split
  · exact rest s.commandOpen.settledEnd (by rw [iso, hf]) (by rw [ended, hold]) false
  · rw [opened, hold]

end State

end Sys2Proof.Machine

namespace Sys2Proof.Proofs

open Machine Safety

theorem exec_dcStation {s : State} (serve : mayServe s) (tag : Byte) {v i p f : Nat} (takes : s.takesStation = true)
    (hv : v ≤ 10000) (hi : i ≤ 5000) (hp : p ≤ 400000) (hf : f < 4) :
    exec (.dcStation tag v i p f) s = .next (replied (if s.session.st = .authorising then s.stationHeld v i p f
      else (s.stationHeld v i p f).stationFlags (f % 2 == 1) (f / 2 % 2 == 1)) 0x17 tag [byte Status.ok.code]) := by
  refine exec_ok serve rfl ?_
  show s.ownDcStation v i p f = _
  have legal : ¬ (10000 < v ∨ 5000 < i ∨ 400000 < p ∨ 4 ≤ f) := by omega
  simp only [State.ownDcStation, takes, not_true_eq_false, if_false, legal]
  rfl

/-- R92: the monitor that measured in a DC context yields. -/
theorem State.isoChange_yields {s : State} (hs : s.iso.st = .measuring) (hold : s.session.causes.searchHold = s.iso.hold) :
    s.isoChange (fun x => x.yielded) =
      { noticed [.insulation] s with iso := s.iso.yielded, budgetIn := s.budgetIn ++ [.searchHold s.iso.hold] } := by
  have new : ¬ (s.iso.yielded.st = s.iso.st ∧ s.iso.yielded.assess = s.iso.assess ∧ s.iso.yielded.source = s.iso.source) :=
    fun h => by simp [hs, Insulation.yielded] at h
  have held : s.iso.yielded.hold = s.iso.hold := by
    simp only [Insulation.hold, Insulation.yielded, hs]
    rfl
  have same : ({ s.session.causes with searchHold := s.iso.hold } : PauseSet) = s.session.causes := by rw [← hold]
  have step : s.isoChange (fun x => x.yielded) = (((s.onIso fun x => x.yielded).setCauses
      { (s.onIso fun x => x.yielded).session.causes with searchHold := s.iso.yielded.hold }).postBudget
        (.searchHold s.iso.yielded.hold)).raise .insulation := if_neg new
  rw [step, held]
  have still : (s.onIso fun x => x.yielded).setCauses { s.session.causes with searchHold := s.iso.hold } =
      s.onIso fun x => x.yielded := if_pos same
  show (((s.onIso fun x => x.yielded).setCauses { s.session.causes with searchHold := s.iso.hold }).postBudget _).raise _ = _
  rw [still, State.raise_eq]
  rfl

/-- Settles O19: DC_STATION by the session state and the flags, and DC_CONNECT. -/
theorem stationRecordAndConnect : Obligations.StationRecordAndConnect := by
  intro s tag serve
  refine ⟨fun v i p f hv hi hp hf => ?station, fun v r mode hs hk hl hpv hr fresh hmax hd hfb => ?connect⟩
  case connect =>
    have ready : s.dcReady = true := by simp [State.dcReady, hpv, hr, fresh, hmax, hd]
    have own : s.ownDcConnect = okWith (((s.onSession fun x =>
        { x with dcK := .closing, energiseTimer := none, closeTimer := some s.now }).onPins
          fun p => { p with kdcpDrive := true, kdcnDrive := true }).dcClosedCheck) [] :=
      if_pos ⟨mode, hs, hk, hl, ready⟩
    rw [State.dcClosedCheck_stays (.inr (by rcases hfb with h | h <;> simp [State.onPins, State.onSession, h]))] at own
    exact exec_ok (c := .dcConnect tag) serve rfl own
  case station =>
    intro x charging settled
    have listens : (f % 2 == 1 && s.iso.st == .listening) = decide (f % 2 = 1 ∧ s.iso.st = .listening) := by
      simp [Bool.beq_eq_decide_eq]
    have fault : (f / 2 % 2 == 1) = decide (2 ≤ f) := by
      rw [beq_eq_decide]
      exact decide_eq_decide.2 (by omega)
    have takes (mode : s.session.mode = some .dc)
        (hs : s.session.st = .energising ∨ s.session.st = .active ∨ s.session.st = .paused ∨ s.session.st = .stopping) :
        exec (.dcStation tag v i p f) s = .next
          (replied ((s.stationHeld v i p f).stationFlags (f % 2 == 1) (f / 2 % 2 == 1)) 0x17 tag [byte Status.ok.code]) := by
      have away : s.session.st ≠ .authorising := by rcases hs with h | h | h | h <;> simp [h]
      rw [exec_dcStation serve tag (by rcases hs with h | h | h | h <;> simp [State.takesStation, h, mode]) hv hi hp hf,
        if_neg away]
    refine ⟨fun hs => ?authorising, fun hc hn hm => ?flags, fun hc hm hs hd hold => ?yields, fun mode hb hn => ?faulted⟩
    case authorising =>
      rw [exec_dcStation serve tag (by simp [State.takesStation, hs]) hv hi hp hf, if_pos hs]
      rfl
    case flags =>
      obtain ⟨mode, st⟩ := hc
      have stays : ¬ ((f % 2 == 1) = true ∧ s.iso.st = .measuring ∧ s.iso.dcContext = true) := by
        rintro ⟨hb, hst, hd⟩
        have : f % 2 = 1 := by simpa using hb
        rcases hm with h | h | h
        · omega
        · exact h hst
        · simp [hd] at h
      have quiet : ((s.stationHeld v i p f).onIso fun x => State.flagged x (f % 2 == 1) (f / 2 % 2 == 1)).doIf (f / 2 % 2 == 1)
          State.stationFaultReport = (s.stationHeld v i p f).onIso fun x => State.flagged x (f % 2 == 1) (f / 2 % 2 == 1) := by
        rcases hn with hn | hn
        · rw [fault, decide_eq_false (by omega), State.doIf_false]
        · rw [State.doIf_eq, State.stationFaultReport_settled (by exact hn), ite_self]
      rw [takes mode (by simpa using st), State.stationFlags_stays (u := s.stationHeld v i p f) _ stays, quiet]
      simp only [← listens, ← fault]
      rfl
    case yields =>
      obtain ⟨mode, st⟩ := hc
      subst hm
      obtain ⟨u, hu⟩ : ∃ u, u = (s.stationHeld v i p 1).onIso fun x => State.flagged x true false := ⟨_, rfl⟩
      have step : (s.stationHeld v i p 1).stationFlags true false = u.isoChange fun x => x.yielded := by
        have both : (true && s.iso.st == .measuring && s.iso.dcContext) = true := by simp [hs, hd]
        rw [hu]
        show ((((s.stationHeld v i p 1).onIso fun x => State.flagged x true false).doIf
          (true && s.iso.st == .measuring && s.iso.dcContext) fun s => s.isoChange fun x => x.yielded)).doIf false _ = _
        rw [both, State.doIf_true, State.doIf_false]
      have foreign : (s.iso.foreign || (true && s.iso.st == .listening)) = s.iso.foreign := by simp [hs]
      rw [takes mode (by simpa using st)]
      show Host.Outcome.next (replied ((s.stationHeld v i p 1).stationFlags true false) _ _ _) = _
      rw [step, State.isoChange_yields (by rw [hu]; exact hs) (by rw [hu]; exact hold), hu]
      simp only [State.onIso, State.stationHeld, State.flagged, foreign, Insulation.yielded, List.append_assoc]
      rfl
    case faulted =>
      intro faulted yielded graded reported early
      have named : f / 2 % 2 == 1 := by rw [fault]; simpa using hb
      obtain ⟨w, step, told, moved⟩ := State.stationHeld_told v i p f hn (f % 2 == 1)
      have does (hs : s.session.st = .energising ∨ s.session.st = .active ∨ s.session.st = .paused ∨ s.session.st = .stopping) :
          exec (.dcStation tag v i p f) s = .next (replied (w.takeStop .isoExternal) 0x17 tag [byte Status.ok.code]) := by
        rw [takes mode hs, named, step]
      have same : graded = State.reportGraded s.iso (f % 2 == 1) := by
        simp only [graded, yielded, faulted, State.reportGraded, ← listens]
        rfl
      have said {t : State} (h : State.FaultTold s (f % 2 == 1) (s.stationHeld v i p f).session.station t) :
          reported (replied t 0x17 tag [byte Status.ok.code]) := by
        obtain ⟨outside, searching, station, hold, posted, noticed, replies, frame⟩ := h
        refine ⟨fun hs => ?_, fun hs => ?_, station, hold, posted, noticed, ?_, onlyChanges_replied frame ..⟩
        · rw [same]
          exact outside hs
        · obtain ⟨iso, urgent⟩ := searching hs
          refine ⟨iso.trans ?_, urgent⟩
          simp only [yielded, faulted, ← listens]
          rfl
        · rw [← replies]
          rfl
      have begins (h : s.session.st = .energising ∨ s.session.st = .active ∨ s.session.st = .paused) :
          w.takeStop .isoExternal = w.beginStop .isoExternal := by
        rcases h with h | h
        · exact State.takeStop_charging (.inl ((moved.stays (by simp [State.stationHeld, h])).trans h)) _
        · exact State.takeStop_charging (.inr (moved.draws h)) _
      have now : w.now = s.now := onlyChanges_now told.frame
      have contactors : w.session.acK = s.session.acK ∧ w.session.dcK = s.session.dcK ∧ w.session.fault = s.session.fault :=
        moved.contactors
      obtain ⟨acK, dcK, fault'⟩ := contactors
      have atOnce (h : early) : w.session.st = .energising ∨ w.inletCurrent < 10 := by
        rcases h with h | ⟨-, h⟩
        · exact .inl ((moved.stays (by simp [State.stationHeld, h])).trans h)
        · exact .inr (by rw [moved.current mode]; exact h)
      have charges (h : early) : s.session.st = .energising ∨ s.session.st = .active ∨ s.session.st = .paused :=
        h.imp id And.left
      have notices : ∀ n ∈ w.link.notices, n ∈ (w.stopBegun .isoExternal).link.notices :=
        fun _ h => State.mem_withNotices_one .session h
      have postings : ∀ q ∈ w.budgetIn, q ∈ (w.stopBegun .isoExternal).budgetIn := fun _ h => List.mem_append_left _ h
      have begun : onlyChanges [.session, .pins, .heating, .link, .budgetIn] w (w.stopBegun .isoExternal) := by
        simp [State.stopBegun, onlyChanges, noticed]
      refine ⟨fun hs hc => ?ramp, fun he closed => ?opening, fun he opened hns => ?ended, fun hs => ?stopping⟩
      case ramp =>
        have away : w.session.st ≠ .energising := by rcases moved.draws hs with h | h <;> simp [h]
        have ramps := State.beginStop_ramp (s := w) (k := .isoExternal) rfl away (by rw [moved.current mode]; exact hc)
        rw [does (hs.elim (fun h => .inr (.inl h)) fun h => .inr (.inr (.inl h))), begins (.inr hs), ramps]
        refine ⟨_, rfl, said (told.later (onlyChanges_trans begun (State.onSession_frame _ _)) rfl rfl postings notices rfl),
          rfl, rfl, ?_, acK, dcK⟩
        show some w.now = _
        rw [now]
      case opening =>
        have waits := State.beginStop_waiting (s := w) (k := .isoExternal) (.inr (atOnce he)) (mt moved.contacts.1 closed)
        rw [does ((charges he).imp id fun h => h.imp id .inl), begins (charges he), waits]
        have later : State.FaultTold s (f % 2 == 1) (s.stationHeld v i p f).session.station (w.stopBegun .isoExternal).commandOpen := by
          rw [State.commandOpen_eq]
          exact told.later (onlyChanges_trans begun (by simp [onlyChanges] : onlyChanges [.session, .pins] _ _)) rfl rfl postings
            notices rfl
        refine ⟨_, rfl, said later, ?_⟩
        rw [State.commandOpen_eq]
        refine ⟨rfl, rfl, rfl, ?_, rfl, rfl, ?_, ?_, rfl, rfl, rfl⟩
        · show some w.now = _
          rw [now]
        · show w.session.acK.commandedOpen = _
          rw [acK]
        · show w.session.dcK.commandedOpen = _
          rw [dcK]
      case ended =>
        have run : w.power.part = .run := by
          rw [onlyChanges_power told.frame]
          obtain ⟨running, -, -⟩ := serve
          exact running
        obtain ⟨done, onward⟩ := State.beginStop_done (s := w) (k := .isoExternal) run (.inr (atOnce he)) (moved.contacts.2 opened)
        have held : (w.beginStop .isoExternal).session.causes.searchHold = true := by
          rw [State.beginStop_atOnce (.inr (atOnce he))]
          refine State.openContactors_holds ?_ told.hold
          show w.iso.assess = .fault
          rw [(told.graded hns).1, State.reportGraded]
          split <;> rfl
        rw [does ((charges he).imp id fun h => h.imp id .inl), begins (charges he)]
        refine ⟨_, rfl, State.stopDone_replied ?_ .., held, onward.notices _ (notices _ told.noticed), ?_⟩
        · obtain ⟨load, pins⟩ := moved.pins
          rw [fault'] at done
          have session := moved.session_eq
          rw [same]
          exact State.stopDone_of ⟨told.frame_graded hns x, by rw [session]; rfl, by rw [session]; rfl, by rw [session]; rfl,
            by rw [session]; rfl, by rw [session]; rfl, by rw [session]; rfl, by rw [pins]; rfl⟩ done
        · show (w.beginStop .isoExternal).link.replies ++ _ = _
          rw [onward.replies]
          show w.link.replies ++ _ = _
          rw [told.replies]
          rfl
      case stopping =>
        have still : w.session.st = s.session.st := moved.stays (by simp [State.stationHeld, hs])
        have stays : w.takeStop .isoExternal = w := by simp [State.takeStop, still, hs, StopCause.emergency]
        rw [does (.inr (.inr (.inr hs))), stays]
        refine ⟨_, rfl, said told, moved.stopping hs, ?_⟩
        show w.session = _
        rw [moved.session_eq, told.hold, still]
        rfl

end Sys2Proof.Proofs
end

section
/-! The budget unit's requests and what is followed by an evaluation (R30, R32, R37 to R41). -/

-- One declaration at a time: each thread the elaborator opens takes its whole stack from the memory limit.
set_option Elab.async false

namespace Sys2Proof.Machine

open Safety

namespace State

theorem queueIsolate_kept (s : State) (a : Nat) :
    onlyChanges [.heating, .stage, .budgetIn, .link] s (s.queueIsolate a) ∧ Onward s (s.queueIsolate a) := by
  have queued (t : State) : onlyChanges [.heating, .stage, .budgetIn, .link] t ((t.queueUrgent .isolate a).heatIsolate a) ∧
      Onward t ((t.queueUrgent .isolate a).heatIsolate a) :=
    have isolated := heatIsolate_heated (t.queueUrgent .isolate a) a
    ⟨onlyChanges_trans (queueUrgent_frame t _ a) isolated.frame, (Onward.of_frame (queueUrgent_frame t _ a)).trans isolated.onward⟩
  exact ⟨onlyChanges_doIf (queued s).1, (Onward.refl s).doIf _ _ fun t => (queued t).2⟩

theorem isolateNow_onward (s : State) (a : Nat) : Onward s (s.isolateNow a) :=
  (queueIsolate_kept s a).2.trans (Onward.of_frame (onIso_frame _ _))

theorem setpointWaitCheck_onward (s : State) : Onward s s.setpointWaitCheck := by
  unfold setpointWaitCheck
  split
  · exact Onward.refl s
  · exact (Onward.refl s).doIf _ _ fun t => isolateNow_onward t _

theorem takeDraw_onward (s : State) (e : EvalRecord) : Onward s (s.takeDraw e) := by
  unfold takeDraw
  split
  · exact (Onward.onSession s _ rfl rfl rfl).trans (Onward.setCauses _ rfl)
  · exact Onward.onSession s _ rfl rfl rfl

/-- R41: an evaluation answers nothing, and its postings are the last. -/
theorem evalBudget_onward (s : State) : Onward s s.evalBudget := by
  unfold evalBudget postOutputs
  dsimp only
  refine Onward.trans ?_ (setpointWaitCheck_onward _)
  refine Onward.trans ?_ (takeDraw_onward _ _)
  have written (t : State) (a w : Nat) : Onward t (t.writeSetpoint a w) := Onward.of_frame (writeSetpoint_frame t a w)
  refine Onward.trans (Onward.trans (Onward.trans ?_ (written _ 1 _)) (written _ 2 _)) (written _ 3 _)
  exact (Onward.of_frame (onBudget_frame s _)).trans (Onward.of_frame (postHeat_frame _ _))

/-- An evaluation is told alike from a state that differs in what the budget unit alone holds. -/
theorem evaluated_of {s u t : State} (h : evaluated u t) (frame : onlyChanges [.budget, .budgetIn] s u) : evaluated s t := by
  have node (a) : u.node a = s.node a := node_congr (congrArg Stage.nodes (onlyChanges_stage frame)) a
  obtain ⟨last, heatIn, setpoints, away, drawing, kept⟩ := h
  rw [onlyChanges_heatIn frame] at heatIn
  simp only [onlyChanges_stage frame, node] at setpoints
  rw [onlyChanges_session frame] at away drawing
  exact ⟨last, heatIn, setpoints, away, drawing, onlyChanges_trans frame kept⟩

/-- R41: an evaluation made after the budget unit's own fields were set. -/
theorem evalBudget_set (s : State) (f : Budget → Budget) :
    evaluated s (s.onBudget f).evalBudget ∧ (s.onBudget f).evalBudget.budget.input = (f s.budget).input ∧
      (s.onBudget f).evalBudget.budget.params = (f s.budget).params ∧
      (s.onBudget f).evalBudget.budget.table = (f s.budget).table ∧
      (s.onBudget f).evalBudget.budget.period = (f s.budget).period ∧ Onward s (s.onBudget f).evalBudget := by
  have frame := onBudget_frame s f
  obtain ⟨done, input, params, table, period⟩ := evalBudget_evaluated (s.onBudget f)
  exact ⟨evaluated_of done (onlyChanges_mono frame), input, params, table, period,
    (Onward.of_frame frame).trans (evalBudget_onward _)⟩

/-- R30, R37: a change of the input record, with the evaluation that a difference calls for in RUN. -/
theorem changeInput_eq (s : State) (f : BudgetInput → BudgetInput) :
    s.changeInput f =
      if s.power.part = .run ∧ f s.budget.input ≠ s.budget.input then
        (s.onBudget fun b => { b with input := f b.input }).evalBudget
      else s.onBudget fun b => { b with input := f b.input } := by
  simp only [changeInput, doIf_eq, inRun, onBudget, Bool.and_eq_true, beq_iff_eq, bne_iff_ne]

/-- R30, R37: a change of the input record that makes no difference moves nothing. -/
theorem changeInput_same {s : State} {f : BudgetInput → BudgetInput} (h : f s.budget.input = s.budget.input) :
    s.changeInput f = s := by
  rw [changeInput_eq, if_neg (by simp [h]), onBudget, h]

/-- R30, R37: one that makes a difference, in RUN, is followed by an evaluation. -/
theorem changeInput_new {s : State} {f : BudgetInput → BudgetInput} (run : s.power.part = .run)
    (h : f s.budget.input ≠ s.budget.input) :
    evaluated s (s.changeInput f) ∧ (s.changeInput f).budget.input = f s.budget.input ∧
      (s.changeInput f).budget.params = s.budget.params ∧ (s.changeInput f).budget.table = s.budget.table ∧
      Onward s (s.changeInput f) := by
  rw [changeInput_eq, if_pos ⟨run, h⟩]
  obtain ⟨done, input, params, table, -, onward⟩ := evalBudget_set s fun b => { b with input := f b.input }
  exact ⟨done, input, params, table, onward⟩

end State

end Sys2Proof.Machine

namespace Sys2Proof.Proofs

open Machine Safety

/-- An evaluation is told alike with a reply placed after it. -/
theorem evaluated_replied {s t : State} (h : evaluated s t) (code tag : Byte) (p : List Byte) :
    evaluated s (replied t code tag p) := by
  obtain ⟨last, heatIn, setpoints, away, drawing, kept⟩ := h
  exact ⟨last, heatIn, setpoints, away, drawing, onlyChanges_replied kept ..⟩

theorem tableLegal_iff (l : List Point) :
    tableLegal l = true ↔ l.Pairwise (fun p q => p.1 < q.1) ∧ ∀ p ∈ l, -80 ≤ p.1 ∧ p.1 ≤ 250 ∧ p.2 ≤ 1000 := by
  induction l with
  | nil => simp [tableLegal]
  | cons p l ih =>
    cases l with
    | nil => simp [tableLegal]
    | cons q r =>
      have rising : (∀ x ∈ q :: r, p.1 < x.1) ∧ (q :: r).Pairwise (fun p q => p.1 < q.1) ↔
          p.1 < q.1 ∧ (q :: r).Pairwise (fun p q => p.1 < q.1) := by
        refine and_congr_left fun h => ⟨fun h' => h' q (by simp), fun h' x hx => ?_⟩
        rcases List.mem_cons.1 hx with rfl | hx
        · exact h'
        · exact lt_trans h' ((List.pairwise_cons.1 h).1 x hx)
      rw [tableLegal, Bool.and_eq_true, ih, List.pairwise_cons (a := p), rising, decide_eq_true_iff, List.forall_mem_cons (a := p)]
      tauto

/-- Settles O27: the pack limits, the parameters and the table. -/
theorem budgetSettingsTaken : Obligations.BudgetSettingsTaken := by
  intro s tag serve
  refine ⟨fun v i h => ?limits, fun c a h => ?params, fun points hp => ⟨fun illegal => ?illegal, fun legal => ?legal⟩⟩
  case limits =>
    intro limits
    have own : s.ownSetPackLimits v i h = okWith (s.changeInput fun x => { x with limits := limits })
        (be 2 limits.packV ++ be 2 limits.maxI ++ be 2 limits.heat) := rfl
    refine ⟨_, exec_ok (c := .setPackLimits tag v i h) serve rfl own, ?_⟩
    by_cases new : ({ s.budget.input with limits := limits } : BudgetInput) = s.budget.input
    · rw [State.changeInput_same (f := fun x => { x with limits := limits }) new]
      exact ⟨new.symm, rfl, rfl, rfl, fun h => absurd rfl h, fun _ => onlyChanges_replied (onlyChanges_refl _ s) ..⟩
    · obtain ⟨done, input, params, table, onward⟩ :=
        State.changeInput_new (f := fun x => { x with limits := limits }) serve.1 new
      exact ⟨input, params, table, congrArg (· ++ _) onward.replies, fun _ => evaluated_replied done ..,
        fun h => absurd (input.symm.trans h) new⟩
  case params =>
    intro p
    have own : s.ownSetBudgetParams c a h = okWith ((s.onBudget fun b => { b with params := p }).doIf (p != s.budget.params)
        State.evalBudget) (be 2 p.cap ++ be 2 p.aux ++ be 2 p.share) := rfl
    refine ⟨_, exec_ok (c := .setBudgetParams tag c a h) serve rfl own, ?_⟩
    by_cases new : p = s.budget.params
    · have still : (s.onBudget fun b => { b with params := p }) = s := by rw [new]; rfl
      rw [still, State.doIf_eq, if_neg (by simp [new])]
      exact ⟨new.symm, rfl, rfl, rfl, fun h => absurd new h, fun _ => onlyChanges_replied (onlyChanges_refl _ s) ..⟩
    · rw [State.doIf_eq, if_pos (by simpa using new)]
      obtain ⟨done, input, params, table, -, onward⟩ := State.evalBudget_set s fun b => { b with params := p }
      generalize (s.onBudget fun b => { b with params := p }).evalBudget = t at done input params table onward ⊢
      exact ⟨params, input, table, congrArg (· ++ _) onward.replies, fun _ => evaluated_replied done .., fun h => absurd h new⟩
  case illegal =>
    refine exec_refused serve rfl ?_
    have not : tableLegal points = false := by
      rw [← Bool.not_eq_true, tableLegal_iff]
      exact illegal
    show s.ownSetDerateTable points = _
    simp [State.ownSetDerateTable, hp, not]
  case legal =>
    have yes : tableLegal points = true := (tableLegal_iff points).2 legal
    have own : s.ownSetDerateTable points = okWith (s.onBudget fun b => { b with table := points }).evalBudget [] := by
      simp [State.ownSetDerateTable, hp, yes]
    obtain ⟨done, input, params, table, -, onward⟩ := State.evalBudget_set s fun b => { b with table := points }
    have step := exec_ok (c := .setDerateTable tag points) serve rfl own
    generalize (s.onBudget fun b => { b with table := points }).evalBudget = t at done input params table onward step
    exact ⟨_, step, table, params, input, evaluated_replied done .., congrArg (· ++ _) onward.replies⟩

theorem takePosting_none {w : Writer} {l : List BudgetPosting} (h : ∀ p ∈ l, p.writer ≠ w) : takePosting w l = none := by
  induction l with
  | nil => rfl
  | cons p l ih =>
    obtain ⟨hp, hl⟩ := List.forall_mem_cons.1 h
    simp [takePosting, hp, ih hl]

theorem takePosting_first {w : Writer} {pre rest : List BudgetPosting} {p : BudgetPosting}
    (h : ∀ q ∈ pre, q.writer ≠ w) (hp : p.writer = w) : takePosting w (pre ++ p :: rest) = some (p, pre ++ rest) := by
  induction pre with
  | nil => simp [takePosting, hp]
  | cons q pre ih =>
    obtain ⟨hq, hl⟩ := List.forall_mem_cons.1 h
    simp [takePosting, hq, ih hl]

/-- R30: the oldest posting of a writer arrives. -/
theorem exec_posting {s : State} {w : Writer} {pre rest : List BudgetPosting} {p : BudgetPosting}
    (hl : s.budgetIn = pre ++ p :: rest) (hpre : ∀ q ∈ pre, q.writer ≠ w) (hp : p.writer = w) :
    exec (.budgetPostingArrival w) s = .next ({ s with budgetIn := pre ++ rest }.changeInput fun i => i.take p) := by
  show Host.Outcome.next (s.postingArrives w) = _
  rw [State.postingArrives, hl, takePosting_first hpre hp]

/-- Settles O28: the period, the arrivals and the staleness of the pack limits. -/
theorem budgetEvaluations : Obligations.BudgetEvaluations := by
  intro s
  refine ⟨fun run hp => ?period, fun w hw => ?quiet, fun w pre p rest hl hpre hw => ⟨fun hs => ?same, fun new run => ?new⟩,
    fun run present fresh => ?stale⟩
  case period =>
    have step : exec .budgetPeriodExpiry s =
        .next (s.onBudget fun b => { b with period := some s.now }).evalBudget := by
      show Host.Outcome.next (s.whenRun State.budgetPeriod) = _
      rw [State.whenRun_run run]
      simp [State.budgetPeriod, State.doIf_eq, Option.isSome_iff_ne_none, hp]
    obtain ⟨done, input, params, table, period, -⟩ := State.evalBudget_set s fun b => { b with period := some s.now }
    exact ⟨_, step, period, input, params, table, done⟩
  case quiet =>
    show Host.Outcome.next (s.postingArrives w) = _
    rw [State.postingArrives, takePosting_none hw]
  case same =>
    rw [exec_posting hl hpre hw, State.changeInput_eq, if_neg]
    · rfl
    · rintro ⟨run, new⟩
      exact hs.elim (fun h => new h) fun h => h run
  case new =>
    obtain ⟨done, input, params, table, onward⟩ :=
      State.changeInput_new (s := { s with budgetIn := pre ++ rest }) (f := fun i => i.take p) run new
    obtain ⟨more, hmore⟩ := onward.budgetIn
    exact ⟨_, exec_posting hl hpre hw, input, params, table, State.evaluated_of done (by simp [onlyChanges]), more, hmore.symm⟩
  case stale =>
    have step : exec .packLimitsStale s =
        .next (s.changeInput fun i => { i with limits := { i.limits with stale := true } }) := by
      show Host.Outcome.next s.limitsStale = _
      simp [State.limitsStale, State.doIf_eq, present, fresh]
    have new : ({ s.budget.input with limits := { s.budget.input.limits with stale := true } } : BudgetInput) ≠ s.budget.input :=
      fun h => by simpa [fresh] using congrArg (fun i : BudgetInput => i.limits.stale) h
    obtain ⟨done, input, params, table, -⟩ := State.changeInput_new run new
      (f := fun i => { i with limits := { i.limits with stale := true } })
    exact ⟨_, step, input, params, table, done⟩

end Sys2Proof.Proofs
end

section
/-! The stage link: transactions begin, and the two broadcasts of a safe stop (R110, R118, R119, R122). -/

-- One declaration at a time: each thread the elaborator opens takes its whole stack from the memory limit.
set_option Elab.async false

namespace Sys2Proof.Machine

namespace State

theorem linkFree_iff (s : State) :
    s.linkFree = true ↔
      s.stage.supplyOn = true ∧ s.stage.inFlight = none ∧ s.stage.broadcast = .idle ∧ s.stage.silent = false := by
  simp [linkFree, and_assoc]

theorem nextWork_held {s : State} (h : s.linkFree = false) : s.nextWork = s := by simp [nextWork, h]

/-- R118: a pending safe stop comes before every transaction. -/
theorem nextWork_safeStop {s : State} (free : s.linkFree = true) (h : s.stage.safeStop = true) : s.nextWork = s.safeStopFirst := by
  simp [nextWork, free, h]

section
variable {s : State} (run : s.power.part = .run) (free : s.linkFree = true) (h : s.stage.safeStop = false)
include run free h

theorem nextWork_urgent {e : StageEntry} {rest : List StageEntry} (hu : s.stage.urgent = e :: rest) :
    s.nextWork = (s.onStage fun g => { g with urgent := rest }).beginTransaction e := by
  simp [nextWork, free, h, inRun, run, hu]

theorem nextWork_normal {e : StageEntry} {rest : List StageEntry} (hu : s.stage.urgent = []) (hn : s.stage.normal = e :: rest) :
    s.nextWork = (s.onStage fun g => { g with normal := rest }).beginTransaction e := by
  simp [nextWork, free, h, inRun, run, hu, hn]

end

/-- R122: the payload formed when a transaction begins. -/
theorem beginPayload_eq (c : StageCmd) (k : NodeKind) (v : Nat) :
    (if c = .setpoint then setpointPayload k v else []) =
      if c ≠ .setpoint then [] else if k = .heater then [if 0 < v then 1 else 0] else be 2 v := by
  by_cases hc : c = .setpoint
  · simp [hc, setpointPayload, flag]
  · simp [hc]

theorem beginTransaction_eq (s : State) (e : StageEntry) :
    s.beginTransaction e =
      (let v := (s.node e.addr).commanded
       let payload := if e.cmd ≠ .setpoint then [] else
         if (s.node e.addr).expected = .heater then [if 0 < v then 1 else 0] else be 2 v
       { s with
         stage :=
           { s.stage with
             inFlight := some
               { cmd := e.cmd, addr := e.addr, value := v, attempt := 1, phase := .awaitStatus, payload := payload }
             wire := stageFrame e.addr e.cmd.code payload } }) := by
  simp only [beginTransaction, beginPayload_eq, sendAttempt, onStage, Transaction.frame]

end State

end Sys2Proof.Machine

namespace Sys2Proof.Proofs

open Machine Safety

/-- Settles O45: by what stands on the free link. -/
theorem transactionsBegin : Obligations.TransactionsBegin := by
  intro s free payload begun
  refine ⟨fun held => ?held, fun run stop hu hn => ?idle, fun e rest run hf stop hu => ?urgent,
    fun e rest run hf stop hu hn => ?normal, fun x hx hw => ?retry⟩
  case held =>
    show Host.Outcome.next s.nextWork = _
    rw [State.nextWork_held (Bool.not_eq_true _ ▸ mt s.linkFree_iff.1 held)]
  case idle =>
    show Host.Outcome.next s.nextWork = _
    simp [State.nextWork, stop, hu, hn]
  case urgent =>
    show Host.Outcome.next s.nextWork = _
    rw [State.nextWork_urgent run (s.linkFree_iff.2 hf) stop hu, State.beginTransaction_eq]
    rfl
  case normal =>
    show Host.Outcome.next s.nextWork = _
    rw [State.nextWork_normal run (s.linkFree_iff.2 hf) stop hu hn, State.beginTransaction_eq]
    rfl
  case retry =>
    show Host.Outcome.next s.retryEvent = _
    simp [State.retryEvent, hx, hw, State.sendAttempt, State.onStage, Transaction.frame]

/-- Settles O49: the first broadcast on the free link, and the second after it. -/
theorem safeStopBroadcasts : Obligations.SafeStopBroadcasts := by
  intro s free first
  refine ⟨fun h => ?held, fun stop hf => ⟨?begins, ?instead⟩, fun h => ?idle, fun h => ?second, by decide⟩
  case held =>
    show Host.Outcome.next s.safeStopEvent = _
    have no : ¬ (s.stage.safeStop = true ∧ s.linkFree = true) := by
      rintro ⟨stop, hf⟩
      rcases h with h | h
      · simp [h] at stop
      · exact h (s.linkFree_iff.1 hf)
    simp [State.safeStopEvent, State.doIf_eq, no]
  case begins =>
    show Host.Outcome.next s.safeStopEvent = _
    rw [State.safeStopEvent, stop, s.linkFree_iff.2 hf]
    rfl
  case instead =>
    show Host.Outcome.next s.nextWork = _
    rw [State.nextWork_safeStop (s.linkFree_iff.2 hf) stop]
    rfl
  case idle =>
    show Host.Outcome.next s.safeStopAgain = _
    rw [State.safeStopAgain, h]
    rfl
  case second =>
    show Host.Outcome.next s.safeStopAgain = _
    simp [State.safeStopAgain, h, State.safeStopSecond, State.onStage]

end Sys2Proof.Proofs
end

section
/-! The clock, the tariff pages and the record log (R142 to R149, R158, R161, R163). -/

-- One declaration at a time: each thread the elaborator opens takes its whole stack from the memory limit.
set_option Elab.async false

namespace Sys2Proof.Machine

open Safety

/-- A slot whose record alone changes leaves the open slot where it was. -/
theorem Billing.openSlot_congr {b b' : Billing} (h : b'.slots.map Slot.st = b.slots.map Slot.st) : b'.openSlot = b.openSlot := by
  have key (b : Billing) : b.openSlot = (b.slots.map Slot.st).findIdx? (· == .opened) := by
    rw [List.findIdx?_map]
    rfl
  rw [key, key, h]

theorem Billing.map_st_set {b : Billing} {i : Nat} {x : Slot} (h : x.st = (b.slot i).st) :
    (b.slots.set i x).map Slot.st = b.slots.map Slot.st := by
  rw [List.map_set, h]
  by_cases hl : i < b.slots.length
  · refine List.ext_getElem (by simp) fun n h1 h2 => ?_
    rw [List.getElem_set]
    split
    · next hn =>
      subst hn
      simp [Billing.slot, hl]
    · rfl
  · rw [List.set_eq_of_length_le (by simpa using hl)]

theorem Billing.slot_openSlot {b : Billing} {i : Nat} (h : b.openSlot = some i) : (b.slot i).st = .opened := by
  obtain ⟨hl, hs, -⟩ := List.findIdx?_eq_some_iff_getElem.1 h
  have : b.slot i = b.slots[i] := by simp [Billing.slot, hl]
  rw [this]
  simpa using hs

/-! ### Tariff pages (R146, R149) -/

/-- R146: the first band starts at minute 0 and each later one after the one before it. -/
theorem pageValid_iff (l : List Band) :
    pageValid l = true ↔ l ≠ [] ∧ (l.getD 0 {}).start = 0 ∧
      ∀ i, i + 1 < l.length → (l.getD i {}).start < (l.getD (i + 1) {}).start := by
  cases l with
  | nil => simp [pageValid]
  | cons b r =>
    have rising : (∀ p ∈ (b :: r).zip r, p.1.start < p.2.start) ↔
        ∀ i, i + 1 < (b :: r).length → ((b :: r).getD i {}).start < ((b :: r).getD (i + 1) {}).start := by
      rw [List.forall_mem_iff_forall_getElem]
      refine ⟨fun h i hi => ?_, fun h i hi => ?_⟩
      · have hr : i < r.length := by simpa using hi
        have hb : i < (b :: r).length := by simp; omega
        have := h i (by simp; omega)
        rw [List.getElem_zip] at this
        rwa [List.getD_eq_getElem _ _ hb, List.getD_cons_succ, List.getD_eq_getElem _ _ hr]
      · have hr : i < r.length := by simp at hi; omega
        have hb : i < (b :: r).length := by simp; omega
        have := h i (by simpa using hr)
        rw [List.getD_eq_getElem _ _ hb, List.getD_cons_succ, List.getD_eq_getElem _ _ hr] at this
        rwa [List.getElem_zip]
    rw [← rising]
    simp only [pageValid, Bool.and_eq_true, beq_iff_eq, List.all_eq_true, decide_eq_true_eq]
    simp

/-- The starts of a valid page rise. -/
theorem start_lt_start {l : List Band} (h : ∀ i, i + 1 < l.length → (l.getD i {}).start < (l.getD (i + 1) {}).start)
    {i j : Nat} (hij : i < j) (hj : j < l.length) : (l.getD i {}).start < (l.getD j {}).start := by
  induction j with
  | zero => omega
  | succ j ih =>
    have last := h j hj
    rcases Nat.lt_succ_iff_lt_or_eq.1 hij with hij | rfl
    · exact (ih hij (by omega)).trans last
    · exact last

/-- R149: on a valid page the band found is the last that has started. -/
theorem bandAt_of_valid {l : List Band} (h : pageValid l = true) (m : Nat) :
    bandAt l m < l.length ∧ (l.getD (bandAt l m) {}).start ≤ m ∧
      ∀ j, bandAt l m < j → j < l.length → m < (l.getD j {}).start := by
  obtain ⟨some, first, rising⟩ := (pageValid_iff l).1 h
  have nonempty : 0 < l.length := List.length_pos_iff.2 some
  obtain ⟨n, hn⟩ : ∃ n, n = (l.takeWhile fun b => decide (b.start ≤ m)).length := ⟨_, rfl⟩
  have index : n = l.findIdx fun b => !decide (b.start ≤ m) := by
    rw [hn, List.takeWhile_eq_take_findIdx_not, List.length_take, min_eq_left List.findIdx_le_length]
  have before (i : Nat) (hi : i < n) (hl : i < l.length) : (l.getD i {}).start ≤ m := by
    rw [List.getD_eq_getElem _ _ hl]
    have started : (!decide (l[i].start ≤ m)) = false := List.not_of_lt_findIdx (index ▸ hi)
    simpa using started
  have after (hl : n < l.length) : m < (l.getD n {}).start := by
    rw [List.getD_eq_getElem _ _ hl]
    have := List.findIdx_getElem (xs := l) (p := fun b => !decide (b.start ≤ m)) (w := index ▸ hl)
    simp only [← index] at this
    simpa using this
  have le : n ≤ l.length := index ▸ List.findIdx_le_length
  have pos : 0 < n := by
    rcases Nat.eq_zero_or_pos n with h0 | hpos
    · have := after (by omega)
      rw [h0, first] at this
      omega
    · exact hpos
  have band : bandAt l m = n - 1 := by rw [bandAt, ← hn]
  rw [band]
  refine ⟨by omega, before _ (by omega) (by omega), fun j hj hl => ?_⟩
  have last := after (by omega)
  rcases Nat.lt_or_ge n j with hnj | hnj
  · exact last.trans (start_lt_start rising hnj hl)
  · obtain rfl : j = n := by omega
    exact last

namespace State

theorem queueTotals_frame (s : State) (b : Bool) : onlyChanges [.nv, .meter] s (s.queueTotals b) := by
  simp [queueTotals, queueNv, onlyChanges, onNv, onMeter]

theorem queueSlot_frame (s : State) (i : Nat) (b : Bool) : onlyChanges [.nv] s (s.queueSlot i b) := by
  simp [queueSlot, queueNv, onlyChanges, onNv]

theorem swap_onlyChanges (s : State) : onlyChanges [.billing, .nv, .link, .budgetIn] s s.swap := by
  simp [swap, relocate, postPreferred, postBudget, queueTariff, queueNv, raise_eq, noticed, onlyChanges, onNv, onBilling]

theorem swap_notices (s : State) : notices [.tariff] s s.swap := by
  simp [swap, relocate, postPreferred, postBudget, queueTariff, queueNv, raise_eq, noticed, notices, onNv, onBilling]

/-- R149: the heat-preferred flag of the band the swapped cursor stands in. -/
theorem swap_budgetIn (s : State) :
    s.swap.budgetIn = s.budgetIn ++ [.preferred (s.swap.billing.tariff.bandOf s.swap.billing.cursor).preferred] := rfl

/-- R137, R158: a checkpoint of the open record. -/
theorem checkpoint_open {s : State} {i : Nat} (h : s.billing.openSlot = some i) :
    s.checkpoint.billing =
        { s.billing with
          checkpoint := some s.now
          slots := s.billing.slots.set i
            ⟨.opened, checkpointed s.meter.channel s.meter.channel.gridDelta s.meter.channel.heatDelta
              (s.billing.slot i).record⟩ } ∧
      s.checkpoint.meter = { s.meter with lastWrite := if s.meter.lastWrite = .failed then .failed else .pending } ∧
      checkpointTaken s s.checkpoint i ∧ onlyChanges [.billing, .meter, .nv] s s.checkpoint ∧
      ∀ c, waits s c → c.area ≠ .totals → c.area ≠ .slot i → waits s.checkpoint c := by
  have st := Billing.slot_openSlot h
  obtain ⟨u, hu⟩ : ∃ u : State, u =
      { s with
        billing :=
          { s.billing with
            checkpoint := some s.now
            slots := s.billing.slots.set i
              ⟨.opened, checkpointed s.meter.channel s.meter.channel.gridDelta s.meter.channel.heatDelta
                (s.billing.slot i).record⟩ } } := ⟨_, rfl⟩
  have step : s.checkpoint = (u.queueTotals false).queueSlot i false := by
    rw [hu]
    simp only [checkpoint, h, onSlot, onBilling, modify_eq_set _ _ _ ({} : Slot)]
    rw [← st]
    rfl
  have billing : s.checkpoint.billing = u.billing := by rw [step]; rfl
  rw [billing]
  refine ⟨by rw [hu], by rw [step, hu]; rfl, ⟨by rw [billing, hu], ?slot, ?totals⟩, ?frame, fun c hc ht hs => ?other⟩
  case slot =>
    rw [billing, step]
    exact queueNv_waits _ _ false
  case totals =>
    rw [step]
    refine queueNv_waits_other _ _ _ false ?_ (by simp [NvContent.area])
    have totals : s.meter.totals = u.meter.totals := by rw [hu]
    rw [totals]
    exact queueNv_waits _ _ false
  case frame =>
    rw [step]
    have set : onlyChanges [.billing] s u := by simp [hu, onlyChanges]
    exact onlyChanges_trans (onlyChanges_trans set (queueTotals_frame _ _) (rs := [.billing, .meter, .nv])) (queueSlot_frame _ _ _)
  case other =>
    rw [step]
    refine queueNv_waits_other _ _ _ false (queueNv_waits_other _ _ _ false ?_ ht) hs
    rw [hu]
    exact hc

/-- R150: the state after a pricing point of the open record in slot `i`. -/
def pricedAt (s : State) (i : Nat) : State :=
  { s with
    billing := { s.billing with slots := s.billing.slots.set i ⟨.opened, priced s i⟩ }
    meter :=
      { s.meter with
        channel := { s.meter.channel with gridMark := s.meter.channel.grid, heatMark := s.meter.channel.heatGrid } } }

theorem pricingPoint_pricedAt {s : State} {i : Nat} (h : s.billing.openSlot = some i) : s.pricingPoint = s.pricedAt i := by
  have image : ({ s.billing.slot i with record := priced s i } : Slot) = ⟨.opened, priced s i⟩ := by
    rw [← Billing.slot_openSlot h]
  rw [pricingPoint_open h, image]
  rfl

theorem pricedAt_openSlot {s : State} {i : Nat} (h : s.billing.openSlot = some i) : (s.pricedAt i).billing.openSlot = some i := by
  rw [← h]
  exact Billing.openSlot_congr (Billing.map_st_set (Billing.slot_openSlot h).symm)

/-- R136: right after a pricing point nothing is unpriced. -/
theorem deltas_zero {d : Channel} (hg : d.gridMark = d.grid) (hh : d.heatMark = d.heatGrid) : d.gridDelta = 0 ∧ d.heatDelta = 0 := by
  simp [Channel.gridDelta, Channel.heatDelta, hg, hh]

/-- R149, R158: after a pricing point and changes that leave the slots, a checkpoint. -/
theorem checkpoint_priced {s u : State} {i : Nat} (h : s.billing.openSlot = some i) {r : Record}
    (slots : u.billing.slots = s.billing.slots.set i ⟨.opened, r⟩) (meter : u.meter = (s.pricedAt i).meter) :
    u.checkpoint.billing =
        { u.billing with
          checkpoint := some u.now, slots := s.billing.slots.set i ⟨.opened, checkpointed s.meter.channel 0 0 r⟩ } ∧
      u.checkpoint.meter = marksMoved s.meter ∧ checkpointTaken u u.checkpoint i ∧
      onlyChanges [.billing, .meter, .nv] u u.checkpoint ∧
      ∀ c, waits u c → c.area ≠ .totals → c.area ≠ .slot i → waits u.checkpoint c := by
  have hl := openSlot_lt s i h
  have openU : u.billing.openSlot = some i := by
    rw [← pricedAt_openSlot h]
    exact Billing.openSlot_congr (by rw [slots, pricedAt, List.map_set, List.map_set])
  have row : u.billing.slot i = ⟨.opened, r⟩ := by simp [Billing.slot, slots, hl]
  obtain ⟨billing, moved, taken, frame, others⟩ := checkpoint_open openU
  obtain ⟨grid, heat⟩ := deltas_zero (d := u.meter.channel) (by rw [meter]; rfl) (by rw [meter]; rfl)
  refine ⟨?_, ?_, taken, frame, others⟩
  · rw [billing, row, grid, heat, slots, List.set_set, meter]
    rfl
  · rw [moved, meter]
    rfl

end State

end Sys2Proof.Machine
end

section
/-! The clock and the band boundaries (R142, R143, R149). -/

-- One declaration at a time: each thread the elaborator opens takes its whole stack from the memory limit.
set_option Elab.async false

namespace Sys2Proof.Machine

open Safety

namespace State

theorem pricingPoint_none {s : State} (h : s.billing.openSlot = none) : s.pricingPoint = s := by simp [pricingPoint, h]

theorem checkpoint_none {s : State} (h : s.billing.openSlot = none) : s.checkpoint = s := by simp [checkpoint, h]

/-- R149: no boundary while the clock is invalid or its minute lies in the cursor's band. -/
theorem bandBoundary_within {s : State} (h : s.billing.clock.valid = false ∨ s.billing.located.band = s.billing.cursor.band) :
    s.bandBoundary = s := by
  refine if_neg ?_
  rintro ⟨valid, new⟩
  rcases h with h | h
  · simp [h] at valid
  · exact new h

section
variable {s : State} (valid : s.billing.clock.valid = true) (new : s.billing.located.band ≠ s.billing.cursor.band)
include valid new

theorem bandBoundary_quiet (h : s.billing.openSlot = none) (hc : s.billing.commitPending = false) : s.bandBoundary = s.relocate := by
  refine (if_pos ⟨valid, new⟩).trans ?_
  simp only [pricingPoint_none h, hc]
  exact checkpoint_none (s := s.relocate) h

theorem bandBoundary_priced {i : Nat} (h : s.billing.openSlot = some i) :
    s.bandBoundary = (if s.billing.commitPending then (s.pricedAt i).swap else (s.pricedAt i).relocate).checkpoint := by
  refine (if_pos ⟨valid, new⟩).trans ?_
  rw [pricingPoint_pricedAt h]
  rfl

end

/-- R143, R149: the cursor relocated by a valid clock, and its band's flag posted. -/
theorem relocate_eq {s : State} (valid : s.billing.clock.valid = true) :
    s.relocate =
      (let page := s.billing.tariff.page s.billing.tariff.selector
       let k := bandAt page s.billing.clock.minute
       { s with
         billing := { s.billing with cursor := ⟨s.billing.tariff.selector, k⟩ }
         budgetIn := s.budgetIn ++ [.preferred (page.getD k {}).preferred] }) := by
  simp only [relocate, postPreferred, postBudget, onBilling, Billing.located, valid, if_true, TariffArea.bandOf]

/-- R148: the swap by a valid clock. -/
theorem swap_valid {s : State} (valid : s.billing.clock.valid = true) :
    s.swap.billing =
        (let page := s.billing.tariff.page (!s.billing.tariff.selector)
         { s.billing with
           tariff := { s.billing.tariff with selector := !s.billing.tariff.selector }
           commitPending := false
           cursor := ⟨!s.billing.tariff.selector, bandAt page s.billing.clock.minute⟩ }) ∧
      s.swap.budgetIn = s.budgetIn ++
        [.preferred (((s.billing.tariff.page (!s.billing.tariff.selector)).getD
          (bandAt (s.billing.tariff.page (!s.billing.tariff.selector)) s.billing.clock.minute) {}).preferred)] := by
  have page (t : TariffArea) (b c : Bool) : ({ t with selector := b } : TariffArea).page c = t.page c := rfl
  have billing : s.swap.billing =
        (let page := s.billing.tariff.page (!s.billing.tariff.selector)
         { s.billing with
           tariff := { s.billing.tariff with selector := !s.billing.tariff.selector }
           commitPending := false
           cursor := ⟨!s.billing.tariff.selector, bandAt page s.billing.clock.minute⟩ }) := by
    rw [swap_billing]
    simp only [Billing.located, valid, if_true, page]
  refine ⟨billing, ?_⟩
  rw [swap_budgetIn, billing]
  rfl

/-- R143: the clock set, by a request. -/
def clockSet (s : State) (day minute second : Nat) : State :=
  s.onBilling fun b =>
    { b with clock := { day := day, minute := minute, second := second, valid := true, secondStamp := s.now } }

theorem setClockTo_closed {s : State} (h : s.billing.openSlot = none) (day minute second : Nat) :
    s.setClockTo day minute second = (s.clockSet day minute second).relocate := by
  have still : (s.clockSet day minute second).relocate.billing.openSlot = none := h
  simp only [clockSet] at still
  simp only [setClockTo, pricingPoint_none h, clockSet, still]

theorem setClockTo_open {s : State} {i : Nat} (h : s.billing.openSlot = some i) (day minute second : Nat) :
    s.setClockTo day minute second =
      (((s.pricedAt i).clockSet day minute second).relocate.onSlot i fun x =>
        { x with record := { x.record with flags := { x.record.flags with clockAdjusted := true } } }).checkpoint := by
  have still : ((s.pricedAt i).clockSet day minute second).relocate.billing.openSlot = some i := pricedAt_openSlot h
  simp only [clockSet] at still
  simp only [setClockTo, pricingPoint_pricedAt h, clockSet, still]

/-- The part of the clock's second that a power state adds to the tick (R149, log 15). -/
theorem secondEvent_powered {s : State} (h : s.power.part ∈ [.run, .standby, .sleep, .supplyHold]) :
    s.secondEvent = s.tickClock.doIf (s.tickClock.billing.clock.second == 0) bandBoundary := by
  simp only [List.mem_cons, List.not_mem_nil, or_false] at h
  rcases h with h | h | h | h <;> simp only [secondEvent, h]

theorem secondEvent_unpowered {s : State} (h : s.power.part ∉ [.run, .standby, .sleep, .supplyHold]) (off : s.power.part ≠ .off) :
    s.secondEvent = s.tickClock := by
  cases hp : s.power.part <;> simp_all [secondEvent]

end State

end Sys2Proof.Machine

namespace Sys2Proof.Proofs

open Machine Safety

/-- A checkpoint is told alike from a state with the same time and the same lifetime totals. -/
theorem checkpointTaken_of {s u t : State} {i : Nat} (h : checkpointTaken u t i) (now : u.now = s.now)
    (totals : u.meter.totals = s.meter.totals) : checkpointTaken s t i := by
  rw [checkpointTaken, now, totals] at h
  exact h

/-- R142: the second's roll-over. -/
theorem Clock.tick_eq (c : Clock) (now : Nat) :
    c.tick now =
      if c.second < 59 then { c with second := c.second + 1, secondStamp := now }
      else if c.minute < 1439 then { c with second := 0, minute := c.minute + 1, secondStamp := now }
      else { c with second := 0, minute := 0, day := (c.day + 1) % 65536, secondStamp := now } := rfl

theorem tick_second (c : Clock) (now : Nat) : (c.tick now).second = if c.second < 59 then c.second + 1 else 0 := by
  rw [Clock.tick_eq]
  split_ifs <;> rfl

theorem tick_valid (c : Clock) (now : Nat) : (c.tick now).valid = c.valid := by
  rw [Clock.tick_eq]
  split_ifs <;> rfl

/-- R149: a second that rolls into a new minute. -/
theorem exec_second {s : State} (hp : s.power.part ∈ [.run, .standby, .sleep, .supplyHold]) (hs : 59 ≤ s.billing.clock.second) :
    exec .clockSecond s = .next s.tickClock.bandBoundary := by
  have second : s.tickClock.billing.clock.second = 0 := by
    show (s.billing.clock.tick s.now).second = _
    rw [tick_second, if_neg (by omega)]
  show Host.Outcome.next s.secondEvent = _
  rw [State.secondEvent_powered hp, State.doIf_eq, second]
  rfl

/-- Settles O51: the second by the part's state, a boundary by what stands open, and SET_CLOCK. -/
theorem clockAndBands : Obligations.ClockAndBands := by
  intro s b c tick page other preferred powered
  have ticked : s.tickClock.billing = { b with clock := tick } := rfl
  have band (valid : c.valid = true) : s.tickClock.billing.located.band = bandAt page tick.minute := by
    have : s.tickClock.billing.clock.valid = true := by
      rw [← valid]
      exact tick_valid c s.now
    simp only [Billing.located, this, if_true]
    rfl
  refine ⟨fun off => ?off, fun off h => ?within, fun hp hs valid new => ⟨fun hn hc => ?quiet, fun i hi => ?opened⟩,
    fun tag day minute second serve => ?set, fun p m hv => bandAt_of_valid hv m⟩
  case off =>
    show Host.Outcome.next s.secondEvent = _
    rw [State.secondEvent, off]
  case within =>
    show Host.Outcome.next s.secondEvent = _
    have same : s.secondEvent = s.tickClock := by
      by_cases hp : powered
      · rw [State.secondEvent_powered hp, State.doIf_eq]
        by_cases hs : c.second < 59
        · have second : s.tickClock.billing.clock.second = c.second + 1 := by
            show (c.tick s.now).second = _
            rw [tick_second, if_pos hs]
          simp [second]
        · rw [State.bandBoundary_within, ite_self]
          cases valid : c.valid with
          | false => exact .inl ((tick_valid c s.now).trans valid)
          | true =>
            refine .inr ((band valid).trans ?_)
            rcases h with h | h | h | h
            · exact absurd hp h
            · exact absurd h hs
            · simp [valid] at h
            · exact h
      · exact State.secondEvent_unpowered hp off
    rw [same]
    rfl
  case quiet =>
    have validT : s.tickClock.billing.clock.valid = true := (tick_valid c s.now).trans valid
    have newT : s.tickClock.billing.located.band ≠ s.tickClock.billing.cursor.band := by rw [band valid]; exact new
    rw [exec_second hp hs, State.bandBoundary_quiet (s := s.tickClock) validT newT hn hc,
      State.relocate_eq (s := s.tickClock) validT]
    rfl
  case opened =>
    have validT : s.tickClock.billing.clock.valid = true := (tick_valid c s.now).trans valid
    have newT : s.tickClock.billing.located.band ≠ s.tickClock.billing.cursor.band := by rw [band valid]; exact new
    obtain ⟨v, hv⟩ : ∃ v, v = s.tickClock.pricedAt i := ⟨_, rfl⟩
    have validV : v.billing.clock.valid = true := by rw [hv]; exact validT
    have priced : onlyChanges [.billing, .meter] s v := by
      rw [hv]
      simp [onlyChanges, State.pricedAt, State.tickClock, State.onBilling]
    have step := State.bandBoundary_priced (s := s.tickClock) validT newT hi
    rw [← hv] at step
    rw [exec_second hp hs, step]
    cases hc : b.commitPending with
    | false =>
      have still : s.tickClock.billing.commitPending = false := hc
      obtain ⟨u, hu⟩ : ∃ u, u = v.relocate := ⟨_, rfl⟩
      have eq := State.relocate_eq validV
      rw [← hu] at eq
      obtain ⟨billing, meter, taken, frame, -⟩ := State.checkpoint_priced (s := s.tickClock) (u := u) hi
        (r := Safety.priced s i) (by rw [eq, hv]; rfl) (by rw [eq, hv])
      rw [still, if_neg (by simp), ← hu]
      have relocated : onlyChanges [.billing, .budgetIn] v u := by simp [eq, onlyChanges]
      have kept := onlyChanges_trans (onlyChanges_trans priced relocated (rs := [.billing, .meter, .budgetIn])) frame
        (rs := [.billing, .meter, .nv, .budgetIn])
      refine ⟨_, rfl, by rw [billing]; rfl, by rw [billing, eq, hv]; rfl, by rw [billing, eq, hv]; exact hc, meter,
        checkpointTaken_of taken (by rw [eq, hv]; rfl) (by rw [eq, hv]; rfl), fun _ => ⟨by rw [billing, eq, hv]; rfl, by rw [billing, eq, hv]; rfl,
          ?_, onlyChanges_link kept⟩, fun h => absurd h (by simp), onlyChanges_mono kept⟩
      rw [onlyChanges_budgetIn frame, eq, hv]
      rfl
    | true =>
      have still : s.tickClock.billing.commitPending = true := hc
      obtain ⟨u, hu⟩ : ∃ u, u = v.swap := ⟨_, rfl⟩
      obtain ⟨swapped, posted⟩ := State.swap_valid validV
      have swapFrame := v.swap_onlyChanges
      have raised := v.swap_notices
      have tariff := v.swap_waits_tariff
      have meterU : u.meter = v.meter := by rw [hu]; rfl
      rw [← hu] at swapped posted swapFrame raised tariff
      obtain ⟨billing, meter, taken, frame, others⟩ := State.checkpoint_priced (s := s.tickClock) (u := u) hi
        (r := Safety.priced s i) (by rw [swapped, hv]; rfl) (by rw [meterU, hv])
      rw [still, if_pos rfl, ← hu]
      have kept := onlyChanges_trans (onlyChanges_trans priced swapFrame (rs := [.billing, .meter, .nv, .link, .budgetIn])) frame
        (rs := [.billing, .meter, .nv, .link, .budgetIn])
      refine ⟨_, rfl, by rw [billing]; rfl, by rw [billing, swapped, hv]; rfl, by rw [billing, swapped], meter,
        checkpointTaken_of taken ?_ ?_, fun h => absurd h (by simp), fun _ => ⟨by rw [billing, swapped, hv]; rfl,
          by rw [billing, swapped, hv]; rfl, ?_, ?_, ?_⟩, onlyChanges_mono kept⟩
      · exact (onlyChanges_now swapFrame).trans (onlyChanges_now priced)
      · rw [meterU, hv]
        rfl
      · rw [onlyChanges_budgetIn frame, posted, hv]
        rfl
      · rw [billing, swapped]
        exact others _ tariff (by simp [NvContent.area]) (by simp [NvContent.area])
      · rw [notices, onlyChanges_link frame, raised, onlyChanges_link priced]
  case set =>
    have own : s.ownSetClock day minute second =
        if 65535 < day ∨ 1439 < minute ∨ 59 < second then refuse s .badValue else okWith (s.setClockTo day minute second) [] := rfl
    intro legal set k
    refine ⟨fun illegal => exec_refused serve rfl (own.trans (if_pos (by omega))), fun hl hn => ?closed, fun i hl hi => ?opened⟩
    case closed =>
      rw [exec_ok (c := .setClock tag day minute second) serve rfl (own.trans (if_neg (by omega)))]
      rw [State.setClockTo_closed hn, State.relocate_eq (s := s.clockSet day minute second) rfl]
      rfl
    case opened =>
      intro r
      have len := openSlot_lt s i hi
      obtain ⟨x, hx⟩ : ∃ x : State, x =
          { s.pricedAt i with
            billing :=
              { b with
                clock := set, cursor := ⟨b.tariff.selector, k⟩
                slots := b.slots.set i ⟨.opened, { r with flags := { r.flags with clockAdjusted := true } }⟩ }
            budgetIn := s.budgetIn ++ [preferred page k] } := ⟨_, rfl⟩
      have step : s.setClockTo day minute second = x.checkpoint := by
        rw [State.setClockTo_open hi, State.relocate_eq (s := (s.pricedAt i).clockSet day minute second) rfl, hx]
        refine congrArg State.checkpoint ?_
        have row : (s.billing.slots.set i ⟨.opened, priced s i⟩).getD i {} = ⟨.opened, priced s i⟩ := by simp [len]
        simp only [State.onSlot, State.clockSet, State.onBilling, State.modify_eq_set _ _ _ ({} : Slot), State.pricedAt,
          List.set_set, row]
        rfl
      obtain ⟨billing, meter, taken, frame, -⟩ := State.checkpoint_priced (u := x) hi (by rw [hx]) (by rw [hx])
      have changed : onlyChanges [.billing, .meter, .budgetIn] s x := by simp [hx, onlyChanges, State.pricedAt]
      have kept : onlyChanges [.billing, .meter, .nv, .link, .budgetIn] s x.checkpoint := onlyChanges_trans changed frame
      rw [← step] at billing meter taken frame kept
      refine ⟨_, exec_ok (c := .setClock tag day minute second) serve rfl (own.trans (if_neg (by omega))), ?_, meter,
        checkpointTaken_of taken (by rw [hx]; rfl) (by rw [hx]; rfl), ?_, answers_replied ?_ .., onlyChanges_replied kept ..⟩
      · show (s.setClockTo day minute second).billing = _
        rw [billing, hx]
        rfl
      · show (s.setClockTo day minute second).budgetIn = _
        rw [onlyChanges_budgetIn frame, hx]
      · rw [notices, onlyChanges_link frame, hx]
        rfl

end Sys2Proof.Proofs
end

section
/-! The tariff requests and the record log's commands (R144 to R148, R158, R161, R163). -/

-- One declaration at a time: each thread the elaborator opens takes its whole stack from the memory limit.
set_option Elab.async false

namespace Sys2Proof.Machine

open Safety

/-- R195: a packed-decimal field of `n` digits. -/
theorem bcd?_eq (n v : Nat) :
    bcd? n v = if ∀ k, k < n → v / 16 ^ k % 16 ≤ 9 then some ((List.range n).map fun k => v / 16 ^ k % 16 * 10 ^ k).sum
      else none := by
  induction n generalizing v with
  | zero => simp [bcd?]
  | succ n ih =>
    have shift (k : Nat) : v / 16 / 16 ^ k = v / 16 ^ (k + 1) := by rw [Nat.div_div_eq_div_mul, pow_succ']
    have all : (∀ k, k < n + 1 → v / 16 ^ k % 16 ≤ 9) ↔ v % 16 ≤ 9 ∧ ∀ k, k < n → v / 16 / 16 ^ k % 16 ≤ 9 := by
      simp only [shift]
      refine ⟨fun h => ⟨by simpa using h 0 (by omega), fun k hk => h (k + 1) (by omega)⟩, fun ⟨h0, h⟩ k hk => ?_⟩
      cases k with
      | zero => simpa using h0
      | succ k => exact h k (by omega)
    have sum : ((List.range (n + 1)).map fun k => v / 16 ^ k % 16 * 10 ^ k).sum =
        10 * ((List.range n).map fun k => v / 16 / 16 ^ k % 16 * 10 ^ k).sum + v % 16 := by
      rw [List.range_succ_eq_map, List.map_cons, List.sum_cons, List.map_map, ← List.sum_map_mul_left]
      simp only [shift, pow_zero, Nat.div_one, mul_one]
      rw [Nat.add_comm]
      congr 2
      refine List.map_congr_left fun k _ => ?_
      show v / 16 ^ (k + 1) % 16 * 10 ^ (k + 1) = _
      rw [pow_succ]
      ring
    rw [bcd?, ih, sum]
    by_cases h : ∀ k, k < n → v / 16 / 16 ^ k % 16 ≤ 9
    · rw [if_pos h]
      by_cases h0 : v % 16 ≤ 9
      · rw [if_pos (all.2 ⟨h0, h⟩)]
        exact if_pos h0
      · rw [if_neg (mt all.1 fun h' => h0 h'.1)]
        exact if_neg h0
    · rw [if_neg h, if_neg (mt all.1 fun h' => h h'.2)]

/-- A list mapped by an `Option` function that is defined on every member. -/
theorem mapM_eq_map {α β : Type} {f : α → Option β} {g : α → β} {l : List α} (h : ∀ x ∈ l, f x = some (g x)) :
    l.mapM f = some (l.map g) := by
  induction l with
  | nil => rfl
  | cons x l ih =>
    obtain ⟨hx, hl⟩ := List.forall_mem_cons.1 h
    simp [hx, ih hl]

/-- A list mapped by an `Option` function that is undefined on some member. -/
theorem mapM_eq_none {α β : Type} {f : α → Option β} {l : List α} {x : α} (hx : x ∈ l) (h : f x = none) : l.mapM f = none := by
  induction l with
  | nil => simp at hx
  | cons y l ih =>
    rcases List.mem_cons.1 hx with rfl | hx
    · simp [h]
    · cases hy : f y <;> simp [hy, ih hx]

namespace State

/-- R161: slots queued one after the other. -/
theorem foldl_queueSlot (l : List Nat) (s : State) :
    (l.foldl (fun s i => s.queueSlot i false) s).billing = s.billing ∧
      onlyChanges [.nv] s (l.foldl (fun s i => s.queueSlot i false) s) ∧
      (∀ i ∈ l, waits (l.foldl (fun s i => s.queueSlot i false) s) (.slot i (s.billing.slot i))) ∧
      ∀ i, waits s (.slot i (s.billing.slot i)) →
        waits (l.foldl (fun s i => s.queueSlot i false) s) (.slot i (s.billing.slot i)) := by
  induction l generalizing s with
  | nil => exact ⟨rfl, onlyChanges_refl _ s, by simp, fun _ h => h⟩
  | cons j l ih =>
    obtain ⟨billing, frame, queued, kept⟩ := ih (s.queueSlot j false)
    have still : (s.queueSlot j false).billing = s.billing := rfl
    rw [still] at billing queued kept
    have wait (i : Nat) (h : waits s (.slot i (s.billing.slot i)) ∨ i = j) :
        waits (s.queueSlot j false) (.slot i (s.billing.slot i)) := by
      by_cases hij : i = j
      · rw [hij]
        exact queueNv_waits _ _ false
      · exact queueNv_waits_other _ _ _ false (h.resolve_right hij) (by simpa [NvContent.area] using hij)
    refine ⟨billing, onlyChanges_trans (queueSlot_frame s j false) frame, fun i hi => ?_, fun i hi => kept i (wait i (.inl hi))⟩
    rcases List.mem_cons.1 hi with rfl | hi
    · exact kept i (wait i (.inr rfl))
    · exact queued i hi

end State

end Sys2Proof.Machine

namespace Sys2Proof.Proofs

open Machine Safety

theorem bandsInRange_iff (page : Nat) (bands : List BandEntry) :
    bandsInRange page bands = true ↔
      page ≤ 1 ∧ 1 ≤ bands.length ∧ bands.length ≤ 8 ∧ ∀ x ∈ bands, x.start ≤ 1439 ∧ x.preferred ≤ 1 := by
  have flag (n : Nat) : (yesNo? n).isSome = true ↔ n ≤ 1 := by
    by_cases h : n ≤ 1
    · simp [yesNo?_of_le h, h]
    · simp [yesNo?_none h, h]
  simp only [bandsInRange, Bool.and_eq_true, decide_eq_true_eq, List.all_eq_true, flag]
  tauto

/-- Settles O52: TARIFF_WRITE check by check, TARIFF_COMMIT by the commit that pends and the record that is open, and
TARIFF_CANCEL. -/
theorem tariffRequests : Obligations.TariffRequests := by
  intro s tag serve b other ok
  refine ⟨fun page bands => ?write, ?commit, fun hc => ?cancel, fun hc => ?nothing⟩
  case write =>
    intro cmd legal writable digits value l
    have writes : b.writable (page == 1) = true ↔ writable := by
      simp only [Billing.writable, writable, Bool.and_eq_true, bne_iff_ne, Bool.not_eq_true', beq_eq_decide]
      refine and_congr_left' ?_
      cases b.tariff.selector <;> cases decide (page = 1) <;> simp
    have own : State.owner cmd s = s.ownTariffWrite page bands := rfl
    refine ⟨fun illegal => exec_refused serve rfl (own.trans ?_), fun hl hw => exec_refused serve rfl (own.trans ?_),
      fun hl hw hd => exec_refused serve rfl (own.trans ?_), fun hl hw hd => ?_⟩
    · have no : bandsInRange page bands = false := by rw [← Bool.not_eq_true, bandsInRange_iff]; exact illegal
      simp [State.ownTariffWrite, no]
    · have yes := (bandsInRange_iff page bands).2 hl
      have no : b.writable (page == 1) = false := by rw [← Bool.not_eq_true, writes]; exact hw
      simp only [State.ownTariffWrite, yes, show s.billing.writable (page == 1) = false from no]
      rfl
    · obtain ⟨x, hx, hn⟩ : ∃ x ∈ bands, ¬ ∀ k, k < 6 → x.price / 16 ^ k % 16 ≤ 9 := by
        by_contra hno
        exact hd fun x hx => not_not.1 fun h => hno ⟨x, hx, h⟩
      have none : bands.mapM bandOfEntry = none := mapM_eq_none hx (by simp [bandOfEntry, bcd?_eq, hn])
      simp only [State.ownTariffWrite, (bandsInRange_iff page bands).2 hl, show s.billing.writable (page == 1) = true from
        writes.2 hw, none]
      rfl
    · have some : bands.mapM bandOfEntry = some l := mapM_eq_map fun x hx => by
        simp [bandOfEntry, bcd?_eq, if_pos (hd x hx), value, beq_eq_decide]
      have body : s.ownTariffWrite page bands =
          okWith (s.onBilling fun b => { b with tariff := b.tariff.setPage (page == 1) l }) [] := by
        simp only [State.ownTariffWrite, (bandsInRange_iff page bands).2 hl, show s.billing.writable (page == 1) = true from
          writes.2 hw, some]
        rfl
      rw [exec_ok (c := .tariffWrite tag page bands) serve rfl (own.trans body)]
      by_cases hp : page = 1
      · simp [State.onBilling, TariffArea.setPage, hp, b, ok, replied]
      · simp [State.onBilling, TariffArea.setPage, hp, b, ok, replied]
  case commit =>
    intro valid
    have own : State.owner (.tariffCommit tag) s = s.ownTariffCommit := rfl
    refine ⟨fun hc => ?_, fun hc hv => exec_refused serve rfl (own.trans ?_), fun hc hv hs => ?_, fun hc hv hn hr => ?_⟩
    · exact exec_ok serve rfl (own.trans (if_pos hc))
    · have no : pageValid other = false := by rw [← Bool.not_eq_true, pageValid_iff]; exact hv
      simp only [State.ownTariffCommit, show s.billing.commitPending = false from hc, show pageValid (s.billing.tariff.page
        (!s.billing.tariff.selector)) = false from no]
      rfl
    · have yes : pageValid other = true := (pageValid_iff other).2 hv
      have busy : ¬ (s.billing.openSlot.isNone = true ∧ s.billing.reservation = none) := by
        rintro ⟨hn, hr⟩
        exact hs.elim (fun h => h (Option.isNone_iff_eq_none.1 hn)) fun h => h hr
      have body : s.ownTariffCommit = okWith ((s.onBilling fun b => { b with commitPending := true }).raise .tariff) [0] := by
        simp only [State.ownTariffCommit, show s.billing.commitPending = false from hc, show pageValid (s.billing.tariff.page
          (!s.billing.tariff.selector)) = true from yes, busy]
        rfl
      rw [exec_ok (c := .tariffCommit tag) serve rfl (own.trans body), State.raise_eq]
      rfl
    · intro k
      have yes : pageValid other = true := (pageValid_iff other).2 hv
      have body : s.ownTariffCommit = okWith s.swap [1] := by
        simp only [State.ownTariffCommit, show s.billing.commitPending = false from hc, show pageValid (s.billing.tariff.page
          (!s.billing.tariff.selector)) = true from yes, show s.billing.openSlot = none from hn,
          show s.billing.reservation = none from hr]
        rfl
      have billing : s.swap.billing =
          { b with tariff := { b.tariff with selector := !b.tariff.selector }, cursor := ⟨!b.tariff.selector, k⟩ } := by
        rw [State.swap_billing, ← hc]
        rfl
      refine ⟨_, exec_ok (c := .tariffCommit tag) serve rfl (own.trans body), answers_replied s.swap_notices .., billing, ?_, ?_,
        onlyChanges_replied s.swap_onlyChanges ..⟩
      · have waiting := s.swap_waits_tariff
        show waits s.swap (.tariff s.swap.billing.tariff)
        rw [billing]
        exact waiting
      · show s.swap.budgetIn = _
        rw [State.swap_budgetIn, billing]
        rfl
  case cancel =>
    have step : s.withdrawCommit = (s.onBilling fun b => { b with commitPending := false }).raise .tariff := by
      rw [State.withdrawCommit, show s.billing.commitPending = true from hc]
      rfl
    have own : State.owner (.tariffCancel tag) s = okWith s.withdrawCommit [flag b.commitPending] := rfl
    rw [exec_ok serve rfl own, step, State.raise_eq, hc]
    rfl
  case nothing =>
    have step : s.withdrawCommit = s := by
      rw [State.withdrawCommit, show s.billing.commitPending = false from hc]
      rfl
    have own : State.owner (.tariffCancel tag) s = okWith s.withdrawCommit [flag b.commitPending] := rfl
    rw [exec_ok serve rfl own, step, hc]
    rfl

/-- R163: the slot a found number stands in. -/
theorem findNumber_lt {b : Billing} {n i : Nat} (h : b.findNumber n = some i) : i < b.slots.length := by
  obtain ⟨hl, -, -⟩ := List.findIdx?_eq_some_iff_getElem.1 h
  exact hl

/-- Settles O53: RELEASE_RECORD by the slot's state, and the two periods. -/
theorem logCommands : Obligations.LogCommands := by
  intro s b
  refine ⟨fun tag n i serve found => ⟨fun hs => ?closed, fun hs => ?collected, fun hs => ?opened⟩, fun run h => ?idle,
    fun i run hc hi => ?checkpoint, fun h => ?still, fun hp hr => ?rewrite⟩
  case closed =>
    have len := findNumber_lt found
    obtain ⟨u, hu⟩ : ∃ u : State, u =
        { s with billing := { b with slots := b.slots.set i ⟨.collected, (b.slot i).record⟩ } } := ⟨_, rfl⟩
    have own : State.owner (.releaseRecord tag n) s = okWith (u.queueSlot i false) [] := by
      show s.ownReleaseRecord n = _
      rw [hu]
      simp only [State.ownReleaseRecord, show s.billing.findNumber n = some i from found,
        show (s.billing.slot i).st = .closed from hs, State.onSlot, State.onBilling, State.modify_eq_set _ _ _ ({} : Slot)]
      rfl
    refine ⟨_, exec_ok serve rfl own, answers_replied ?_ .., ?_, State.queueNv_waits _ _ false, onlyChanges_replied ?_ ..⟩
    · rw [hu]
      rfl
    · rw [hu]
      rfl
    · exact onlyChanges_trans (by simp [hu, onlyChanges] : onlyChanges [.billing] s u) (State.queueSlot_frame _ _ _)
  case collected =>
    refine exec_ok serve rfl ?_
    show s.ownReleaseRecord n = _
    simp only [State.ownReleaseRecord, show s.billing.findNumber n = some i from found,
      show (s.billing.slot i).st = .collected from hs]
  case opened =>
    refine exec_refused serve rfl ?_
    show s.ownReleaseRecord n = _
    simp only [State.ownReleaseRecord, show s.billing.findNumber n = some i from found,
      show (s.billing.slot i).st = .opened from hs]
  case idle =>
    show Host.Outcome.next (s.whenRun State.checkpointEvent) = _
    rw [State.whenRun_run run, State.checkpointEvent, State.doIf_eq]
    rcases h with h | h
    · rw [if_neg (by rw [show s.billing.checkpoint = none from h]; simp)]
    · rw [State.checkpoint_none h, ite_self]
  case checkpoint =>
    intro d
    have step : exec .checkpointPeriodExpiry s = .next s.checkpoint := by
      show Host.Outcome.next (s.whenRun State.checkpointEvent) = _
      rw [State.whenRun_run run, State.checkpointEvent, State.doIf_eq, if_pos (Option.isSome_iff_ne_none.2 hc)]
    obtain ⟨billing, meter, taken, frame, -⟩ := State.checkpoint_open hi
    exact ⟨_, step, billing, meter, taken, onlyChanges_mono frame⟩
  case still =>
    show Host.Outcome.next s.rewriteEvent = _
    have no : ((s.inRun || s.lowPower) && s.billing.rewrite.isSome) = false := by
      rcases h with h | h
      · cases hp : s.power.part <;> simp_all [State.inRun, State.lowPower]
      · simp [show s.billing.rewrite = none from h]
    rw [State.rewriteEvent, no]
    rfl
  case rewrite =>
    have yes : ((s.inRun || s.lowPower) && s.billing.rewrite.isSome) = true := by
      have some : s.billing.rewrite.isSome = true := Option.isSome_iff_ne_none.2 hr
      simp only [List.mem_cons, List.not_mem_nil, or_false] at hp
      rcases hp with hp | hp | hp <;> simp [State.inRun, State.lowPower, hp, some]
    have any : s.slotsBehind.isEmpty = !(List.range 24).any fun i => b.behind.getD i false := by
      rw [Bool.eq_iff_iff]
      simp [State.slotsBehind, b]
    obtain ⟨u, hu⟩ : ∃ u : State, u = s.onBilling fun b =>
        { b with rewrite := if s.slotsBehind.isEmpty then none else some s.now } := ⟨_, rfl⟩
    have step : exec .rewritePeriodExpiry s = .next (s.slotsBehind.foldl (fun s i => s.queueSlot i false) u) := by
      show Host.Outcome.next s.rewriteEvent = _
      rw [State.rewriteEvent, yes, hu]
      rfl
    obtain ⟨billing, frame, queued, -⟩ := State.foldl_queueSlot s.slotsBehind u
    refine ⟨_, step, ?_, fun i hi hb => ?_, ?_⟩
    · rw [billing, hu]
      show ({ b with rewrite := if s.slotsBehind.isEmpty = true then none else some s.now } : Billing) = _
      rw [any]
      cases (List.range 24).any fun i => b.behind.getD i false <;> rfl
    · have := queued i (List.mem_filter.2 ⟨List.mem_range.2 hi, hb⟩)
      rw [hu] at this ⊢
      exact this
    · exact onlyChanges_trans (by simp [hu, onlyChanges] : onlyChanges [.billing] s u) frame

end Sys2Proof.Proofs
end

section
/-! Pricing and the settling at the close (R151 to R154). -/

-- One declaration at a time: each thread the elaborator opens takes its whole stack from the memory limit.
set_option Elab.async false

namespace Sys2Proof.Machine

open Safety

theorem modifyLast_concat (f : Segment → Segment) (pre : List Segment) (x : Segment) :
    modifyLast f (pre ++ [x]) = pre ++ [f x] := by
  induction pre with
  | nil => rfl
  | cons y pre ih =>
    cases pre with
    | nil => rfl
    | cons z pre => simpa [modifyLast] using ih

namespace Record

/-- The last segment with energy taken at a price (R153). -/
def gained (x : Segment) (whC whH price : Nat) : Segment :=
  { x with
    chargeWh := x.chargeWh + whC, heatWh := x.heatWh + whH
    chargeCost := min 999999999999 (x.chargeCost + whC * price)
    heatCost := min 999999999999 (x.heatCost + whH * price) }

/-- R153: energy taken by the last segment. -/
theorem addEnergy_concat {r : Record} {pre : List Segment} {x : Segment} (h : r.segments = pre ++ [x]) (whC whH price : Nat) :
    r.addEnergy whC whH price =
      { r with
        segments := pre ++ [gained x whC whH price]
        chargeCost := min 999999999999 (r.chargeCost + whC * price)
        heatCost := min 999999999999 (r.heatCost + whH * price)
        flags :=
          { r.flags with
            costSaturated := r.flags.costSaturated ||
              decide (999999999999 < x.chargeCost + whC * price ∨ 999999999999 < x.heatCost + whH * price ∨
                999999999999 < r.chargeCost + whC * price ∨ 999999999999 < r.heatCost + whH * price) } } := by
  have last : (pre ++ [x]).getLast?.getD {} = x := by simp
  simp only [addEnergy, saturates, h, last, modifyLast_concat, satCost, costLimit, Bool.decide_or, Bool.or_assoc]
  rfl

/-- R152: the segment chosen for energy of a (page, band) at a price, and whether it is a new one. -/
theorem chooseSegment_concat {r : Record} {pre : List Segment} {l : Segment} (h : r.segments = pre ++ [l]) (c : Cursor)
    (price : Nat) :
    r.chooseSegment c price =
      (let same := l.page = c.page ∧ l.band = c.band
       let empty := l.chargeWh = 0 ∧ l.heatWh = 0
       let fresh := ¬ same ∧ ¬ empty ∧ r.segments.length < 12
       let base : Segment :=
         if same ∧ ¬ empty then l
         else if fresh then { page := c.page, band := c.band, price := price }
         else { l with page := c.page, band := c.band, price := price }
       { r with
         segments := (if fresh then r.segments else pre) ++ [base]
         flags :=
           { r.flags with
             segmentsMerged := r.flags.segmentsMerged || decide (¬ same ∧ ¬ empty ∧ 12 ≤ r.segments.length) } }) := by
  have last : r.segments.getLast? = some l := by simp [h]
  extract_lets same empty fresh base
  by_cases he : empty
  · have notFresh : ¬ fresh := fun hf => hf.2.1 he
    have kept : (decide (¬ same ∧ ¬ empty ∧ 12 ≤ r.segments.length)) = false := by simp [he]
    have taken : base = { l with page := c.page, band := c.band, price := price } := by
      simp only [base, if_neg (show ¬ (same ∧ ¬ empty) from fun hs => hs.2 he), if_neg notFresh]
    rw [kept, Bool.or_false, taken, if_neg notFresh, chooseSegment, last]
    simp only [if_pos (show l.chargeWh = 0 ∧ l.heatWh = 0 from he), h, modifyLast_concat]
    rfl
  · rw [chooseSegment, last]
    simp only [if_neg (show ¬ (l.chargeWh = 0 ∧ l.heatWh = 0) from he)]
    by_cases hs : same
    · have notFresh : ¬ fresh := fun hf => hf.1 hs
      have kept : (decide (¬ same ∧ ¬ empty ∧ 12 ≤ r.segments.length)) = false := by simp [hs]
      have taken : base = l := if_pos ⟨hs, he⟩
      rw [if_pos (show l.page = c.page ∧ l.band = c.band from hs), kept, Bool.or_false, taken, if_neg notFresh, ← h]
    · rw [if_neg (show ¬ (l.page = c.page ∧ l.band = c.band) from hs)]
      have other : base = if fresh then { page := c.page, band := c.band, price := price }
          else { l with page := c.page, band := c.band, price := price } := if_neg fun h' => hs h'.1
      by_cases hl : r.segments.length < 12
      · have kept : (decide (¬ same ∧ ¬ empty ∧ 12 ≤ r.segments.length)) = false := decide_eq_false fun hf => by omega
        have isFresh : fresh := ⟨hs, he, hl⟩
        rw [if_pos hl, other, if_pos isFresh, if_pos isFresh, kept, Bool.or_false]
      · have merged : (decide (¬ same ∧ ¬ empty ∧ 12 ≤ r.segments.length)) = true := decide_eq_true ⟨hs, he, by omega⟩
        have notFresh : ¬ fresh := fun hf => hl hf.2.2
        rw [if_neg hl, other, if_neg notFresh, if_neg notFresh, merged, Bool.or_true, h, modifyLast_concat]

/-- R151: a pricing point that completes no watt-hour carries the remainders. -/
theorem pricePoint_carries (r : Record) (c : Cursor) (price dGrid dHeat : Nat) :
    r.pricePoint c price dGrid dHeat =
      (let h := min dHeat dGrid
       let whC := (r.remC + (dGrid - h)) / 1000
       let whH := (r.remH + h) / 1000
       let carried : Record :=
         { r with
           remC := (r.remC + (dGrid - h)) % 1000, remH := (r.remH + h) % 1000
           flags := { r.flags with heatClamped := r.flags.heatClamped || decide (dGrid < dHeat) } }
       if whC = 0 ∧ whH = 0 then carried else (carried.chooseSegment c price).addEnergy whC whH price) := rfl

theorem chooseSegment_carries (r : Record) (c : Cursor) (price : Nat) :
    (r.chooseSegment c price).remC = r.remC ∧ (r.chooseSegment c price).remH = r.remH ∧
      (r.chooseSegment c price).flags.heatClamped = r.flags.heatClamped := by
  unfold chooseSegment
  split
  · exact ⟨rfl, rfl, rfl⟩
  · split_ifs <;> exact ⟨rfl, rfl, rfl⟩

/-- R152, R153: the segment chosen, before it takes energy, keeps the law of costs unless it is a merged one. -/
theorem costLaw_chosen {r : Record} {pre : List Segment} {l : Segment} (segments : r.segments = pre ++ [l]) (law : costLaw r)
    {c : Cursor} {price : Nat}
    (unmerged : ¬ (¬ (l.page = c.page ∧ l.band = c.band) ∧ ¬ (l.chargeWh = 0 ∧ l.heatWh = 0) ∧ 12 ≤ r.segments.length)) :
    costLaw { r with
      segments :=
        (if ¬ (l.page = c.page ∧ l.band = c.band) ∧ ¬ (l.chargeWh = 0 ∧ l.heatWh = 0) ∧ r.segments.length < 12 then r.segments
          else pre) ++
        [if (l.page = c.page ∧ l.band = c.band) ∧ ¬ (l.chargeWh = 0 ∧ l.heatWh = 0) then l
         else if ¬ (l.page = c.page ∧ l.band = c.band) ∧ ¬ (l.chargeWh = 0 ∧ l.heatWh = 0) ∧ r.segments.length < 12 then
           { page := c.page, band := c.band, price := price }
         else { l with page := c.page, band := c.band, price := price }] } := by
  obtain ⟨each, charge, heat⟩ := law
  by_cases he : l.chargeWh = 0 ∧ l.heatWh = 0
  · have here : l.chargeCost = l.chargeWh * l.price ∧ l.heatCost = l.heatWh * l.price := each l (by simp [segments])
    rw [if_neg (fun h => h.2.1 he), if_neg (fun h => h.2 he), if_neg (fun h => h.2.1 he)]
    rw [segments] at each charge heat
    refine ⟨fun y hy => ?_, by simpa using charge, by simpa using heat⟩
    rcases List.mem_append.1 hy with hy | hy
    · exact each y (List.mem_append_left _ hy)
    · obtain rfl := List.mem_singleton.1 hy
      simp [here, he]
  · by_cases hs : l.page = c.page ∧ l.band = c.band
    · rw [if_neg (fun h => h.1 hs), if_pos ⟨hs, he⟩, ← segments]
      exact ⟨each, charge, heat⟩
    · have short : r.segments.length < 12 := by
        by_contra hl
        exact unmerged ⟨hs, he, by omega⟩
      rw [if_pos ⟨hs, he, short⟩, if_neg (fun h => hs h.1), if_pos ⟨hs, he, short⟩]
      refine ⟨fun y hy => ?_, by simpa using charge, by simpa using heat⟩
      rcases List.mem_append.1 hy with hy | hy
      · exact each y hy
      · obtain rfl := List.mem_singleton.1 hy
        simp

/-- R153: energy within the limits keeps the law of costs. -/
theorem costLaw_gained {r t : Record} {pre : List Segment} {x : Segment} {whC whH price : Nat}
    (segments : r.segments = pre ++ [x]) (law : costLaw r) (hp : x.price = price)
    (unsaturated : ¬ (999999999999 < x.chargeCost + whC * price ∨ 999999999999 < x.heatCost + whH * price ∨
      999999999999 < r.chargeCost + whC * price ∨ 999999999999 < r.heatCost + whH * price))
    (ht : t.segments = pre ++ [gained x whC whH price]) (hc : t.chargeCost = min 999999999999 (r.chargeCost + whC * price))
    (hh : t.heatCost = min 999999999999 (r.heatCost + whH * price)) : costLaw t := by
  obtain ⟨each, charge, heat⟩ := law
  rw [segments] at each charge heat
  simp only [not_or, not_lt] at unsaturated
  obtain ⟨u1, u2, u3, u4⟩ := unsaturated
  have here : x.chargeCost = x.chargeWh * x.price ∧ x.heatCost = x.heatWh * x.price := each x (by simp)
  refine ⟨fun y hy => ?_, ?_, ?_⟩
  · rw [ht] at hy
    rcases List.mem_append.1 hy with hy | hy
    · exact each y (List.mem_append_left _ hy)
    · obtain rfl := List.mem_singleton.1 hy
      simp only [gained, min_eq_right u1, min_eq_right u2]
      rw [here.1, here.2, hp]
      constructor <;> ring
  · rw [hc, min_eq_right u3, charge, ht]
    simp [gained, min_eq_right u1, Nat.add_assoc]
  · rw [hh, min_eq_right u4, heat, ht]
    simp [gained, min_eq_right u2, Nat.add_assoc]

end Record

end Sys2Proof.Machine

namespace Sys2Proof.Proofs

open Machine Safety

/-- Settles O54: the pricing point by the energy it completes, and the settling. -/
theorem pricingPoints : Obligations.PricingPoints := by
  intro r
  refine ⟨fun c price dGrid dHeat => ?point, fun l hl => ?settle⟩
  case point =>
    intro h whC whH t
    obtain ⟨x, hx⟩ : ∃ x : Record, x =
        { r with
          remC := (r.remC + (dGrid - h)) % 1000, remH := (r.remH + h) % 1000
          flags := { r.flags with heatClamped := r.flags.heatClamped || decide (dGrid < dHeat) } } := ⟨_, rfl⟩
    have ht : t = if whC = 0 ∧ whH = 0 then x else (x.chooseSegment c price).addEnergy whC whH price :=
      hx ▸ Record.pricePoint_carries r c price dGrid dHeat
    have carries : t.remC = x.remC ∧ t.remH = x.remH ∧ t.flags.heatClamped = x.flags.heatClamped := by
      rw [ht]
      split
      · exact ⟨rfl, rfl, rfl⟩
      · exact x.chooseSegment_carries c price
    obtain ⟨remC, remH, clamped⟩ := carries
    rw [hx] at remC remH clamped
    refine ⟨remC, remH, clamped, fun hC hH => ?none, fun l hl some => ?some⟩
    case none =>
      rw [ht, if_pos ⟨hC, hH⟩, hx]
      exact ⟨rfl, rfl, rfl⟩
    case some =>
      intro same empty fresh
      let base : Segment :=
        if same ∧ ¬ empty then l
        else if fresh then { page := c.page, band := c.band, price := price }
        else { l with page := c.page, band := c.band, price := price }
      obtain ⟨pre, segments⟩ := List.getLast?_eq_some_iff.1 hl
      have segmentsX : x.segments = pre ++ [l] := by rw [hx]; exact segments
      have drop : r.segments.dropLast = pre := by simp [segments]
      obtain ⟨y, hy⟩ : ∃ y : Record, y =
          { x with
            segments := (if fresh then r.segments else pre) ++ [base]
            flags :=
              { x.flags with
                segmentsMerged := r.flags.segmentsMerged || decide (¬ same ∧ ¬ empty ∧ 12 ≤ r.segments.length) } } := ⟨_, rfl⟩
      have chosen : x.chooseSegment c price = y := by
        rw [Record.chooseSegment_concat segmentsX, hy]
        rw [hx]
      rw [if_neg (by omega), chosen, Record.addEnergy_concat (by rw [hy])] at ht
      have merged : t.flags.segmentsMerged =
          (r.flags.segmentsMerged || decide (¬ same ∧ ¬ empty ∧ 12 ≤ r.segments.length)) := by rw [ht, hy]
      have charge : t.chargeCost = min 999999999999 (r.chargeCost + whC * price) := by rw [ht, hy, hx]
      have heat : t.heatCost = min 999999999999 (r.heatCost + whH * price) := by rw [ht, hy, hx]
      have saturated : t.flags.costSaturated =
          (r.flags.costSaturated ||
            decide (999999999999 < base.chargeCost + whC * price ∨ 999999999999 < base.heatCost + whH * price ∨
              999999999999 < r.chargeCost + whC * price ∨ 999999999999 < r.heatCost + whH * price)) := by rw [ht, hy, hx]
      have list : t.segments = (if fresh then r.segments else pre) ++ [Record.gained base whC whH price] := by rw [ht]
      rw [drop]
      show _ ∧ _
      refine ⟨list, charge, heat, saturated, merged, fun law priced unsat unmerged => ?_⟩
      rw [saturated, Bool.or_eq_false_iff] at unsat
      rw [merged, Bool.or_eq_false_iff] at unmerged
      refine Record.costLaw_gained (r := { r with segments := (if fresh then r.segments else pre) ++ [base] }) rfl ?_ ?_
        (of_decide_eq_false unsat.2) list charge heat
      · exact Record.costLaw_chosen segments law (of_decide_eq_false unmerged.2)
      · by_cases hs : same ∧ ¬ empty
        · rw [show base = l from if_pos hs]
          exact priced hs.1 hs.2
        · have other : base = if fresh then { page := c.page, band := c.band, price := price }
              else { l with page := c.page, band := c.band, price := price } := if_neg hs
          rw [other]
          split <;> rfl
  case settle =>
    intro up cents t
    obtain ⟨pre, segments⟩ := List.getLast?_eq_some_iff.1 hl
    have settled := Record.addEnergy_concat segments (up r.remC) (up r.remH) l.price
    have drop : r.segments.dropLast = pre := by simp [segments]
    have ht : t = r.settle := rfl
    rw [Record.settle, hl] at ht
    simp only [Option.getD_some] at ht
    change t = _ at ht
    rw [show remainderWh r.remC = up r.remC from rfl, show remainderWh r.remH = up r.remH from rfl, settled] at ht
    rw [ht, drop]
    exact ⟨rfl, rfl, rfl, rfl, rfl, rfl, rfl, rfl, rfl⟩

end Sys2Proof.Proofs
end

section
/-! The setpoints the heating controller writes, and its requests (R59, R60, R70, R72, R73). -/

-- One declaration at a time: each thread the elaborator opens takes its whole stack from the memory limit.
set_option Elab.async false

namespace Sys2Proof.Machine

open Safety

namespace State

/-! ### The setpoints OFF and ON (R59) -/

/-- A zone's setpoint written off stays so through the writes of the others. -/
theorem foldl_offs (old zs : List Zone) (i : Nat)
    (left : (old.getD i {}).heat = .heating ∧ (zs.getD i {}).heat ≠ .heating) (l : List Nat) (s : State)
    (hz : s.heating.zones = zs) (hl : i + 4 ≤ s.stage.nodes.length) (h : i ∈ l ∨ (s.node (i + 4)).commanded = 0) :
    ((l.foldl (fun s i => s.doIf ((old.getD i {}).heat == .heating && (s.heating.zones.getD i {}).heat != .heating)
        fun s => s.writeSetpoint (i + 4) 0) s).node (i + 4)).commanded = 0 := by
  induction l generalizing s with
  | nil => simpa using h
  | cons j l ih =>
    rw [List.foldl_cons]
    obtain ⟨t, ht⟩ : ∃ t, t = s.doIf ((old.getD j {}).heat == .heating && (s.heating.zones.getD j {}).heat != .heating)
      fun s => s.writeSetpoint (j + 4) 0 := ⟨_, rfl⟩
    have frame : onlyChanges [.stage] s t := ht ▸ onlyChanges_doIf (writeSetpoint_frame s _ _)
    have length : t.stage.nodes.length = s.stage.nodes.length := by
      rw [ht, doIf_eq]
      split
      · exact writeSetpoint_length s _ _
      · rfl
    rw [← ht]
    refine ih t (by rw [onlyChanges_heating frame, hz]) (by omega) ?_
    by_cases hij : i = j
    · right
      subst hij
      rw [ht, hz, doIf_eq, if_pos (by rw [left.1]; simpa using left.2), writeSetpoint_node s _ _ _ (by omega) hl, if_pos rfl]
      simp
    · refine h.imp (fun hm => (List.mem_cons.1 hm).resolve_left hij) fun h0 => ?_
      rw [ht, doIf_eq]
      split
      · rw [writeSetpoint_ne s _ _ _ (by omega), h0]
      · exact h0

theorem writeOffs_length (s : State) (old : List Zone) (shed : List Nat) :
    (s.writeOffs old shed).stage.nodes.length = s.stage.nodes.length := by
  unfold writeOffs
  generalize (List.range 8).filter (fun i => !shed.contains i) ++ shed = l
  induction l generalizing s with
  | nil => rfl
  | cons i l ih =>
    rw [List.foldl_cons, ih, doIf_eq]
    split
    · exact writeSetpoint_length s _ _
    · rfl

/-- R59: a zone that has left HEATING is commanded 0. -/
theorem writeOffs_off (s : State) (old : List Zone) (shed : List Nat) {i : Nat} (hi : i < 8)
    (left : (old.getD i {}).heat = .heating ∧ (s.heating.zones.getD i {}).heat ≠ .heating)
    (hl : i + 4 ≤ s.stage.nodes.length) : ((s.writeOffs old shed).node (i + 4)).commanded = 0 := by
  refine foldl_offs old s.heating.zones i left _ s rfl hl (.inl ?_)
  by_cases h : i ∈ shed
  · exact List.mem_append_right _ h
  · exact List.mem_append_left _ (List.mem_filter.2 ⟨List.mem_range.2 hi, by simpa using h⟩)

/-- R59: a zone chosen is commanded its rating. -/
theorem writeOns_on (l : List Nat) (s : State) {n : Nat} (hl : n + 3 ≤ s.stage.nodes.length)
    (free : (s.node (n + 3)).isolated = false)
    (h : n ∈ l ∨ (s.node (n + 3)).commanded = (s.zone n).rating.getD 0) :
    ((s.writeOns l).node (n + 3)).commanded = (s.zone n).rating.getD 0 := by
  induction l generalizing s with
  | nil => simpa [writeOns] using h
  | cons m l ih =>
    obtain ⟨t, ht⟩ : ∃ t, t = s.writeSetpoint (m + 3) ((s.zone m).rating.getD 0) := ⟨_, rfl⟩
    have frame : onlyChanges [.stage] s t := ht ▸ writeSetpoint_frame s _ _
    have zone (k : Nat) : t.zone k = s.zone k := by
      cases k with
      | zero => rfl
      | succ k => simp only [State.zone, onlyChanges_heating frame]
    have step : s.writeOns (m :: l) = t.writeOns l := by rw [ht]; rfl
    have written : (t.node (n + 3)).isolated = (s.node (n + 3)).isolated ∧
        (n = m → (t.node (n + 3)).commanded = (s.zone n).rating.getD 0) ∧
        (n ≠ m → (t.node (n + 3)).commanded = (s.node (n + 3)).commanded) := by
      rw [ht]
      by_cases hnm : n = m
      · subst hnm
        rw [writeSetpoint_node s _ _ _ (by omega) hl, if_pos rfl]
        exact ⟨rfl, fun _ => by simp [free], fun h => absurd rfl h⟩
      · rw [writeSetpoint_ne s _ _ _ (by omega)]
        exact ⟨rfl, fun h => absurd h hnm, fun _ => rfl⟩
    obtain ⟨isolated, here, there⟩ := written
    rw [step, ← zone n]
    refine ih t (by rw [ht, writeSetpoint_length]; exact hl) (by rw [isolated]; exact free) ?_
    rw [zone n]
    by_cases hnm : n = m
    · exact .inr (here hnm)
    · exact h.imp (fun hm => (List.mem_cons.1 hm).resolve_left hnm) fun h0 => by rw [there hnm, h0]

theorem writeOns_other (l : List Nat) (s : State) {n : Nat} (h : n ∉ l) : (s.writeOns l).node (n + 3) = s.node (n + 3) := by
  induction l generalizing s with
  | nil => rfl
  | cons m l ih =>
    obtain ⟨hm, hl⟩ := not_or.1 (mt List.mem_cons.2 h)
    have step : s.writeOns (m :: l) = (s.writeSetpoint (m + 3) ((s.zone m).rating.getD 0)).writeOns l := rfl
    rw [step, ih _ hl, writeSetpoint_ne s _ _ _ (by omega)]

/-- R59: the setpoints a step of the heating controller leaves. -/
theorem heatStep_setpoints (s : State) (shed chosen : List Nat) (ranked : Bool) (f : Heating → Heating) {i : Nat} (hi : i < 8)
    (hl : i + 4 ≤ s.stage.nodes.length) :
    let zs := ((f s.heating).zones.map Zone.refresh)
    let t := s.heatStep shed chosen ranked f
    (i + 1 ∉ chosen → (s.heating.zones.getD i {}).heat = .heating → (zs.getD i {}).heat ≠ .heating →
      (t.node (i + 4)).commanded = 0) ∧
    (i + 1 ∈ chosen → (s.node (i + 4)).isolated = false →
      (t.node (i + 4)).commanded = ((zs.getD i {}).rating).getD 0) := by
  intro zs t
  obtain ⟨u, hu⟩ : ∃ u, u = s.onHeating fun h => let h := f h; { h with zones := h.zones.map Zone.refresh } := ⟨_, rfl⟩
  have zones : u.heating.zones = zs := by rw [hu]; rfl
  have node (a : Nat) : t.node a = ((u.writeOffs s.heating.zones shed).writeOns chosen).node a := by
    have stage : t.stage = ((u.writeOffs s.heating.zones shed).writeOns chosen).stage := by
      obtain ⟨b, c, step⟩ : ∃ b c, t =
          (((u.writeOffs s.heating.zones shed).writeOns chosen).postHeatOn b).postDemands.postMinTemp.doIf c
            (fun s => s.raise .heat) := by
        rw [hu]
        exact ⟨_, _, rfl⟩
      rw [step, onlyChanges_stage (onlyChanges_doIf (raise_frame _ _)), onlyChanges_stage (postMinTemp_frame _),
        onlyChanges_stage (postDemands_frame _), onlyChanges_stage (postHeatOn_frame _ _)]
    rw [node_congr (congrArg Stage.nodes stage)]
  have lengthU : u.stage.nodes.length = s.stage.nodes.length := by rw [hu]; rfl
  refine ⟨fun hc hs ht => ?_, fun hc free => ?_⟩
  · rw [node, show i + 4 = (i + 1) + 3 from rfl, writeOns_other _ _ hc]
    exact writeOffs_off u _ _ hi ⟨hs, by rw [zones]; exact ht⟩ (by omega)
  · have offs := writeOffs_frame u s.heating.zones shed
    have zone : (u.writeOffs s.heating.zones shed).zone (i + 1) = zs.getD i {} := by
      simp only [State.zone, onlyChanges_heating offs, zones]
    rw [node, ← zone]
    refine writeOns_on chosen _ (by rw [writeOffs_length]; omega) ?_ (.inl hc)
    obtain ⟨w, hw⟩ := (Commands.writeOffs u s.heating.zones shed).rows (i + 4)
    rw [hw, hu]
    exact free

end State

end Sys2Proof.Machine
end

section
/-! The heating controller's requests (R60, R70, R72, R73). -/

-- One declaration at a time: each thread the elaborator opens takes its whole stack from the memory limit.
set_option Elab.async false

namespace Sys2Proof.Machine

open Safety

namespace State

/-- What a step of the heating controller keeps of what its change left: every field but the figures last posted. -/
theorem SameRows.fields {h h' : Heating} (same : SameRows h h') :
    h'.zones = h.zones ∧ h'.policy = h.policy ∧ h'.departure = h.departure ∧ h'.source = h.source ∧ h'.grant = h.grant ∧
      h'.allowance = h.allowance ∧ h'.sess = h.sess ∧ h'.heatPeriod = h.heatPeriod ∧ h'.onTick = h.onTick := by
  rw [same]
  exact ⟨rfl, rfl, rfl, rfl, rfl, rfl, rfl, rfl, rfl⟩

end State

theorem Zone.takeOff_heat (z : Zone) : z.takeOff.heat ≠ .heating := by
  unfold Zone.takeOff
  split <;> simp_all

/-- A zone taken out of HEATING is not HEATING by its row. -/
theorem Zone.refresh_takeOff (z : Zone) : z.takeOff.refresh.heat ≠ .heating := by
  show z.takeOff.stateNow ≠ .heating
  have keeps : z.takeOff.keepsHeating = false := by simp [Zone.keepsHeating, z.takeOff_heat]
  rw [Zone.stateNow, keeps]
  split_ifs <;> simp_all

/-- R72: the window as it stands. -/
theorem State.evalWindow_eq (s : State) :
    s.evalWindow =
      if s.heating.departure.windowNow = s.heating.departure.window then s
      else
        { noticed [.departure] s with
          heating := { s.heating with departure := { s.heating.departure with window := s.heating.departure.windowNow } }
          budgetIn := s.budgetIn ++ [.window s.heating.departure.windowNow] } := by
  unfold State.evalWindow
  dsimp only
  split
  · rfl
  · rw [State.raise_eq]
    rfl

end Sys2Proof.Machine

namespace Sys2Proof.Proofs

open Machine Safety

theorem gridMode?_none {n : Nat} (h : 2 < n) : gridMode? n = none := by
  obtain ⟨k, rfl⟩ : ∃ k, n = k + 3 := ⟨n - 3, by omega⟩
  rfl

theorem departMode?_of_le {n : Nat} (h : n ≤ 1) : departMode? n = some (if n = 0 then .oneShot else .periodic) := by
  obtain rfl | rfl : n = 0 ∨ n = 1 := by omega
  · rfl
  · rfl
theorem departMode?_none {n : Nat} (h : 1 < n) : departMode? n = none := by
  obtain ⟨k, rfl⟩ : ∃ k, n = k + 2 := ⟨n - 2, by omega⟩
  rfl

/-- Settles O34: SET_ZONE, SET_HEAT_POLICY and SET_DEPARTURE. -/
theorem heatSettingsTaken : Obligations.HeatSettingsTaken := by
  intro s tag serve
  refine ⟨fun z e t h bad => exec_refused serve rfl ?noZone, fun z e t h he h1 h8 => ?zone,
    fun m g p bad => exec_refused serve rfl ?noPolicy, fun m g p k hm hg hp => ?policy,
    fun n m l bad => exec_refused serve rfl ?noDeparture, fun n m l hm => ?departure⟩
  case noZone =>
    show s.ownSetZone z e t h = _
    by_cases he : e ≤ 1
    · have outside : z = 0 ∨ 8 < z := by omega
      simp only [State.ownSetZone, yesNo?_of_le he, if_pos outside]
    · simp only [State.ownSetZone, yesNo?_none he]
  case noPolicy =>
    show s.ownSetHeatPolicy m g p = _
    by_cases hm : 2 < m
    · simp only [State.ownSetHeatPolicy, gridMode?_none hm]
    · by_cases hg : g ≤ 1
      · simp only [State.ownSetHeatPolicy, yesNo?_none (show ¬ p ≤ 1 by omega)]
        cases gridMode? m <;> cases yesNo? g <;> rfl
      · simp only [State.ownSetHeatPolicy, yesNo?_none hg]
        cases gridMode? m <;> rfl
  case noDeparture =>
    show s.ownSetDeparture n m l = _
    simp only [State.ownSetDeparture, departMode?_none bad]
  case zone =>
    intro target hyst
    obtain ⟨i, rfl⟩ : ∃ i, z = i + 1 := ⟨z - 1, by omega⟩
    obtain ⟨u, hu⟩ : ∃ u, u = s.heatStep [] [] false fun x =>
        { x with zones := x.zones.modify i fun x => { x with enabled := decide (e = 1), target := target, hyst := hyst } } := ⟨_, rfl⟩
    have own : State.owner (.setZone tag (i + 1) e t h) s =
        okWith u ([byte (i + 1), flag (decide (e = 1))] ++ beInt 2 target ++ [byte hyst]) := by
      show s.ownSetZone (i + 1) e t h = _
      rw [hu]
      simp only [State.ownSetZone, yesNo?_of_le he, if_neg (show ¬ (i + 1 = 0 ∨ 8 < i + 1) by omega)]
      rfl
    obtain ⟨rows, -, frame, onward⟩ := hu ▸ State.heatStep_stepped s [] [] false fun x =>
        { x with zones := x.zones.modify i fun x => { x with enabled := decide (e = 1), target := target, hyst := hyst } }
    obtain ⟨zones, policy, departure, source, grant, allowance, -⟩ := rows.fields
    refine ⟨_, exec_ok serve rfl own, zones, policy, departure, source, grant, allowance, fun n hn1 hn8 hs ht hl => ?_,
      congrArg (· ++ _) onward.replies, onlyChanges_replied frame ..⟩
    obtain ⟨j, rfl⟩ : ∃ j, n = j + 1 := ⟨n - 1, by omega⟩
    have offs := (State.heatStep_setpoints s [] [] false (fun x =>
        { x with zones := x.zones.modify i fun x => { x with enabled := decide (e = 1), target := target, hyst := hyst } })
        (i := j) (by omega) (by omega)).1 (by simp) hs
    have ht' : (u.heating.zones.getD j {}).heat ≠ .heating := ht
    rw [zones] at ht'
    have := offs ht'
    rw [← hu] at this
    exact this
  case policy =>
    intro lost
    let policy : HeatPolicy := { gridMode := k, gating := decide (g = 1), packHeat := decide (p = 1) }
    let change : Heating → Heating := fun h =>
      if h.source = .pack ∧ !decide (p = 1) then { h with policy := policy, source := .none, zones := allOff h.zones }
      else { h with policy := policy }
    obtain ⟨u, hu⟩ : ∃ u, u = s.heatStep [] [] false change := ⟨_, rfl⟩
    have own : State.owner (.setHeatPolicy tag m g p) s =
        okWith ((u.postBudget (.gridMode k)).postBudget (.gating (decide (g = 1)))) [] := by
      show s.ownSetHeatPolicy m g p = _
      rw [hu]
      simp only [State.ownSetHeatPolicy, hm, yesNo?_of_le hg, yesNo?_of_le hp]
      rfl
    obtain ⟨rows, -, frame, onward⟩ := hu ▸ State.heatStep_stepped s [] [] false change
    obtain ⟨zones, policy', -, source, -⟩ := rows.fields
    obtain ⟨pre, hpre⟩ := onward.budgetIn
    have condition : (s.heating.source = .pack ∧ (!decide (p = 1)) = true) ↔ lost := by
      refine and_congr_right fun _ => ?_
      simp only [Bool.not_eq_true', decide_eq_false_iff_not]
      omega
    have kept : onlyChanges [.heating, .stage, .budgetIn, .link] s
        ((u.postBudget (.gridMode k)).postBudget (.gating (decide (g = 1)))) :=
      onlyChanges_trans (onlyChanges_trans frame (State.postBudget_frame u _) (rs := [.heating, .stage, .budgetIn, .link]))
        (State.postBudget_frame _ _)
    refine ⟨_, exec_ok serve rfl own, policy'.trans ?_, fun hl => ⟨source.trans ?_, fun z hz => ?_⟩,
      fun hl => ⟨source.trans ?_, zones.trans ?_⟩, ⟨pre, ?_⟩, congrArg (· ++ _) onward.replies, onlyChanges_replied kept ..⟩
    · show (change s.heating).policy = policy
      simp only [change]
      split <;> rfl
    · show (change s.heating).source = _
      simp only [change, if_pos (condition.2 hl)]
    · have hz' : z ∈ u.heating.zones := hz
      rw [zones] at hz'
      simp only [change, if_pos (condition.2 hl), allOff, List.map_map, List.mem_map, Function.comp] at hz'
      obtain ⟨y, -, rfl⟩ := hz'
      exact Zone.refresh_takeOff y
    · show (change s.heating).source = _
      simp only [change, if_neg (mt condition.1 hl)]
    · simp only [change, if_neg (mt condition.1 hl)]
    · show (u.budgetIn ++ [_]) ++ [_] = _
      rw [← hpre]
      simp
  case departure =>
    intro count lead d body
    have taken : s.onDeparture (fun x => { x with initial := count, count := count, mode := if m = 0 then .oneShot else .periodic,
                                                  lead := lead, minuteStamp := s.now }) =
        { s with heating := { s.heating with departure := { d with window := s.heating.departure.window } } } := rfl
    have code : [byte (if m = 0 then DepartMode.oneShot else DepartMode.periodic).code, byte lead] = [byte m, byte lead] := by
      obtain rfl | rfl : m = 0 ∨ m = 1 := by omega
      · rfl
      · rfl
    have own : State.owner (.setDeparture tag n m l) s =
        okWith ({ s with heating := { s.heating with departure := { d with window := s.heating.departure.window } } } :
          State).evalWindow (be 2 count ++ [byte m, byte lead]) := by
      show s.ownSetDeparture n m l = _
      simp only [State.ownSetDeparture, departMode?_of_le hm]
      rw [← taken, ← code]
      rfl
    rw [State.evalWindow_eq] at own
    refine ⟨fun same => ?_, fun new => ?_⟩
    · rw [if_pos (by exact same), ← same] at own
      exact exec_ok serve rfl own
    · rw [if_neg (by exact new)] at own
      exact exec_ok serve rfl own

end Sys2Proof.Proofs
end

section
/-! What the session's moves leave of the other blocks: the postings and notices on their way, and every field that is not
the session's, the monitor's, the record log's or the meter channel's. -/

-- One declaration at a time: each thread the elaborator opens takes its whole stack from the memory limit.
set_option Elab.async false

namespace Sys2Proof.Machine

open Safety

/-- The session has taken the inlet temperatures as the sensors have them. -/
def Warm (s : State) : Prop := s.session.temp1 = s.pins.sensor1 ∧ s.session.temp2 = s.pins.sensor2

/-- From `s` to `t` the session has moved, and with it the monitor and the record log. -/
structure Steered (s t : State) : Prop where
  frame : onlyChanges [.session, .pins, .heating, .iso, .meter, .billing, .nv, .link, .budgetIn] s t
  heating : t.heating = { s.heating with sess := t.heating.sess }
  meter : t.meter = { s.meter with channel := t.meter.channel, lastWrite := t.meter.lastWrite }
  link : t.link = { s.link with notices := t.link.notices }
  notices : ∀ k ∈ s.link.notices, k ∈ t.link.notices
  budgetIn : s.budgetIn <+: t.budgetIn
  shut : s.billing.openSlot = none → t.billing = s.billing
  sensors : t.pins.sensor1 = s.pins.sensor1 ∧ t.pins.sensor2 = s.pins.sensor2
  warm : Warm s → Warm t

namespace Steered

variable {s t u : State}

theorem refl (s : State) : Steered s s := ⟨onlyChanges_refl _ s, rfl, rfl, rfl, fun _ h => h, List.prefix_rfl, fun _ => rfl, ⟨rfl, rfl⟩, fun h => h⟩

theorem trans (h : Steered s t) (k : Steered t u) : Steered s u where
  frame := onlyChanges_trans h.frame k.frame
  heating := by rw [k.heating, h.heating]
  meter := by rw [k.meter, h.meter]
  link := by rw [k.link, h.link]
  notices x hx := k.notices x (h.notices x hx)
  budgetIn := h.budgetIn.trans k.budgetIn
  shut none := (k.shut (by rw [h.shut none]; exact none)).trans (h.shut none)
  sensors := ⟨k.sensors.1.trans h.sensors.1, k.sensors.2.trans h.sensors.2⟩
  warm w := k.warm (h.warm w)

/-- A change of the session, the pins, the monitor or the NV store alone, which takes no temperature but
that of a sensor. -/
theorem set (h : Steered s t) {ps : List Piece} (f : onlyChanges ps t u)
    (hp : ∀ x ∈ ps, x ∈ [Piece.session, .pins, .iso, .nv] := by decide)
    (warm : Warm t → Warm u := by exact fun h => h)
    (sensors : u.pins.sensor1 = t.pins.sensor1 ∧ u.pins.sensor2 = t.pins.sensor2 := by exact ⟨rfl, rfl⟩) : Steered s u := by
  have f' : onlyChanges [.session, .pins, .iso, .nv] t u := onlyChanges_mono f hp
  refine h.trans ⟨onlyChanges_mono f', ?_, ?_, ?_, ?_, ?_, fun _ => onlyChanges_billing f', sensors, warm⟩
  · rw [onlyChanges_heating f']
  · rw [onlyChanges_meter f']
  · rw [onlyChanges_link f']
  · rw [onlyChanges_link f']
    exact fun _ h => h
  · rw [onlyChanges_budgetIn f']

theorem ite {c : Prop} [Decidable c] (h : Steered s t) (k : Steered s u) : Steered s (if c then t else u) := by
  split
  · exact h
  · exact k

theorem doIf (h : Steered s t) {c : Bool} {f : State → State} (hf : ∀ u, Steered s u → Steered s (f u)) :
    Steered s (t.doIf c f) := by
  cases c
  · exact h
  · exact hf t h

theorem onSession (h : Steered s t) (f : Session → Session)
    (kept : (f t.session).temp1 = t.session.temp1 ∧ (f t.session).temp2 = t.session.temp2 := by exact ⟨rfl, rfl⟩) :
    Steered s (t.onSession f) :=
  h.set (State.onSession_frame t f) (warm := fun w => ⟨kept.1.trans w.1, kept.2.trans w.2⟩)
theorem onPins (h : Steered s t) (f : Pins → Pins)
    (kept : (f t.pins).sensor1 = t.pins.sensor1 ∧ (f t.pins).sensor2 = t.pins.sensor2 := by exact ⟨rfl, rfl⟩) :
    Steered s (t.onPins f) :=
  h.set (State.onPins_frame t f) (warm := fun w => ⟨w.1.trans kept.1.symm, w.2.trans kept.2.symm⟩)
    (sensors := kept)
theorem onIso (h : Steered s t) (f : Insulation → Insulation) : Steered s (t.onIso f) := h.set (State.onIso_frame t f)
/-- A change of the record log while a record is open. -/
theorem onBilling (h : Steered s t) (open_ : s.billing.openSlot ≠ none) (f : Billing → Billing) : Steered s (t.onBilling f) :=
  ⟨onlyChanges_trans h.frame (State.onBilling_frame t f), h.heating, h.meter, h.link, h.notices, h.budgetIn,
    fun none => absurd none open_, h.sensors, h.warm⟩

theorem raise (h : Steered s t) (k : NoticeKind) : Steered s (t.raise k) := by
  have frame := State.raise_frame t k
  refine h.trans ⟨onlyChanges_mono frame, ?_, ?_, ?_, ?_, ?_, fun _ => onlyChanges_billing frame, ⟨rfl, rfl⟩, fun w => w⟩
  · rw [onlyChanges_heating frame]
  · rw [onlyChanges_meter frame]
  · rw [State.raise_eq]
    rfl
  · rw [State.raise_eq]
    exact fun _ h => State.mem_withNotices_one k h
  · rw [onlyChanges_budgetIn frame]

theorem postBudget (h : Steered s t) (p : BudgetPosting) : Steered s (t.postBudget p) :=
  h.trans ⟨onlyChanges_mono (State.postBudget_frame t p), rfl, rfl, rfl, fun _ h => h, List.prefix_append _ _, fun _ => rfl, ⟨rfl, rfl⟩, fun w => w⟩

theorem heatSession (h : Steered s t) (st : SessState) : Steered s (t.heatSession st) :=
  h.trans ⟨onlyChanges_mono (State.onHeating_frame t _), rfl, rfl, rfl, fun _ h => h, List.prefix_rfl, fun _ => rfl, ⟨rfl, rfl⟩, fun w => w⟩

/-- A change of the meter's session channel. -/
theorem onChannel (h : Steered s t) (f : Channel → Channel) : Steered s (t.onMeter fun m => { m with channel := f m.channel }) :=
  h.trans ⟨onlyChanges_mono (State.onMeter_frame t _), rfl, rfl, rfl, fun _ h => h, List.prefix_rfl, fun _ => rfl, ⟨rfl, rfl⟩, fun w => w⟩

theorem queueTotals (h : Steered s t) (b : Bool) : Steered s (t.queueTotals b) :=
  h.trans ⟨onlyChanges_mono (State.queueTotals_frame t b), rfl, rfl, rfl, fun _ h => h, List.prefix_rfl, fun _ => rfl, ⟨rfl, rfl⟩, fun w => w⟩

theorem queueSlot (h : Steered s t) (i : Nat) (b : Bool) : Steered s (t.queueSlot i b) := h.set (State.queueSlot_frame t i b)

/-! ### The record log -/

/-- A record that is open in the end was open in the beginning. -/
theorem opened (h : Steered s t) {i : Nat} (hi : t.billing.openSlot = some i) : s.billing.openSlot ≠ none := by
  intro none
  rw [h.shut none, none] at hi
  cases hi

theorem pricingPoint (h : Steered s t) : Steered s t.pricingPoint := by
  unfold State.pricingPoint
  split
  · exact h
  · next i hi => exact (h.onBilling (h.opened hi) _).onChannel fun d => { d with gridMark := d.grid, heatMark := d.heatGrid }

theorem queueTariff (h : Steered s t) : Steered s t.queueTariff :=
  h.set (ps := [.nv]) (by simp [State.queueTariff, State.queueNv, State.onNv, onlyChanges])

section
variable (open_ : s.billing.openSlot ≠ none)
include open_

theorem relocate (h : Steered s t) : Steered s t.relocate := (h.onBilling open_ _).postBudget _

theorem swap (h : Steered s t) : Steered s t.swap :=
  ((h.onBilling open_ _).relocate open_).queueTariff.raise .tariff

theorem withdrawCommit (h : Steered s t) : Steered s t.withdrawCommit :=
  h.doIf fun _ hu => (hu.onBilling open_ _).raise _

end

theorem closeRecord (h : Steered s t) (c : StopCause) (b : Bool) : Steered s (t.closeRecord c b) := by
  unfold State.closeRecord
  split
  · exact h
  · next i hi =>
    have open_ := h.opened hi
    have commit := ite (c := b = true) (h.pricingPoint.withdrawCommit open_)
      ((h.pricingPoint.queueTotals false).doIf (c := (t.pricingPoint.queueTotals false).billing.commitPending)
        fun _ hu => hu.swap open_)
    have shut := fun i f g => ((commit.onBilling open_ fun x => { x with slots := x.slots.modify i f }).onChannel
      fun d => { d with isOpen := false }).onBilling open_ g
    exact (ite (((shut _ _ _).queueSlot _ true).queueTotals true) ((shut _ _ _).queueSlot _ false)).raise .record

/-! ### The session -/

theorem applyLoad (h : Steered s t) : Steered s t.applyLoad := h.onPins _

theorem enter (h : Steered s t) (st : SessState) : Steered s (t.enter st) :=
  ((((h.onSession _).postBudget _).heatSession st).raise .session).applyLoad

theorem setCauses (h : Steered s t) (c : PauseSet) : Steered s (t.setCauses c) := by
  have changed := (h.onSession fun x => { x with causes := c }).raise .session
  exact ite h (ite (changed.enter _) (ite (changed.enter _) changed.applyLoad))

theorem isoChange (h : Steered s t) (f : Insulation → Insulation) : Steered s (t.isoChange f) :=
  ite (h.onIso f) ((((h.onIso f).setCauses _).postBudget _).raise _)

theorem unlockDone (h : Steered s t) : Steered s t.unlockDone :=
  ite (((h.onSession _).onPins _).enter _) (((h.onSession _).onPins _).enter _)

theorem goUnlocking (h : Steered s t) : Steered s t.goUnlocking := by
  have driven := ((h.enter .unlocking).onSession fun x =>
    { x with lock := .unlockTravel, lockTimer := some (t.enter .unlocking).now }).onPins
      fun p => { p with lockDrive := .towardReleased }
  exact ite driven driven.unlockDone

theorem goFaulted (h : Steered s t) (k : FaultKind) : Steered s (t.goFaulted k) := ((h.onSession _).onPins _).enter .faulted

theorem lockDone (h : Steered s t) : Steered s t.lockDone :=
  ite ((h.onSession _).onPins _).goUnlocking (((h.onSession _).onPins _).enter _)

theorem goLocking (h : Steered s t) : Steered s t.goLocking := by
  have driven := ((h.enter .locking).onSession fun x =>
    { x with lock := .lockTravel, lockTimer := some (t.enter .locking).now, stopPending := false
             lockingLost := false }).onPins fun p => { p with lockDrive := .towardEngaged }
  exact ite driven.lockDone driven

theorem commandOpen (h : Steered s t) : Steered s t.commandOpen := by
  unfold State.commandOpen
  exact (h.onSession _).onPins _

theorem settleContactors (h : Steered s t) : Steered s t.settleContactors := h.onSession _

theorem clearStation (h : Steered s t) : Steered s t.clearStation := ite ((h.onSession _).postBudget _) h

theorem afterStop (h : Steered s t) (b : Bool) : Steered s (t.afterStop b) := by
  unfold State.afterStop
  split
  · exact h.goFaulted _
  · split
    · exact h.goFaulted _
    · exact ite (h.enter _) (ite h.goUnlocking (h.enter _))

theorem stopEnd (h : Steered s t) (b : Bool) : Steered s (t.stopEnd b) := by
  have settled := (h.settleContactors.onSession fun x => { x with openTimer := none }).onPins
    fun p => { p with cpLoad := false }
  exact ((((settled.doIf fun _ hu => hu.isoChange _).closeRecord _ _).afterStop b).postBudget _).clearStation

theorem openContactors (h : Steered s t) : Steered s t.openContactors := h.commandOpen.doIf fun _ hu => hu.stopEnd false

theorem beginStop (h : Steered s t) (c : StopCause) : Steered s (t.beginStop c) :=
  ite ((h.onSession _).enter _).openContactors (((h.onSession _).enter _).onSession _)

theorem holdOpening (h : Steered s t) (b : Bool) : Steered s (t.holdOpening b) :=
  h.settleContactors.doIf fun _ hu => (hu.onSession _).doIf fun _ hv => hv.isoChange _

theorem takeStop (h : Steered s t) (c : StopCause) : Steered s (t.takeStop c) := by
  unfold State.takeStop
  cases t.session.st with
  | energising => exact h.beginStop c
  | active => exact h.beginStop c
  | paused => exact h.beginStop c
  | stopping => exact ite (ite (h.onSession _).openContactors (h.onSession _)) h
  | locking => exact h.doIf fun _ hu => hu.onSession _
  | authorising => exact h.doIf fun _ hu => hu.goUnlocking
  | finished => exact h.doIf fun _ hu => hu.goUnlocking
  | idle => exact h
  | connected => exact h
  | unlocking => exact h
  | faulted => exact h

theorem enterActive (h : Steered s t) : Steered s t.enterActive := (h.doIf fun _ hu => (hu.onSession _).raise _).enter _

theorem connectedCheck (h : Steered s t) : Steered s t.connectedCheck := h.doIf fun _ hu => hu.goLocking

theorem plugArrival (h : Steered s t) : Steered s t.plugArrival := ite (h.enter _).connectedCheck h

theorem plugLoss (h : Steered s t) : Steered s t.plugLoss := by
  have cleared := h.clearStation
  unfold State.plugLoss
  dsimp only
  cases t.clearStation.session.st with
  | connected => exact cleared.enter _
  | finished => exact ite (cleared.takeStop _) (cleared.enter _)
  | stopping => exact (cleared.onSession _).takeStop _
  | unlocking => exact cleared.onSession _
  | faulted => exact cleared.onSession _
  | locking => exact cleared.takeStop _
  | authorising => exact cleared.takeStop _
  | energising => exact cleared.takeStop _
  | active => exact cleared.takeStop _
  | paused => exact cleared.takeStop _
  | idle => exact cleared

/-! ### The session's inputs -/

/-- The temperatures taken, and nothing done about them yet. -/
theorem temperatures (t : State) :
    Steered t (t.onSession fun x => { x with temp1 := t.pins.sensor1, temp2 := t.pins.sensor2 }) ∧
      Steered (t.onSession fun x => { x with temp1 := t.pins.sensor1, temp2 := t.pins.sensor2 }) t.takeTemperatures := by
  refine ⟨(refl t).set (State.onSession_frame t _) (warm := fun _ => ⟨rfl, rfl⟩), ?_⟩
  exact (((refl _).doIf fun _ hu => hu.postBudget _).doIf fun _ hu => hu.raise .session).doIf
    fun _ hu => hu.takeStop .inletOverheat

theorem takeTemperatures (h : Steered s t) : Steered s t.takeTemperatures :=
  h.trans ((temperatures t).1.trans (temperatures t).2)

theorem takeTemperatures_warm (s : State) : Warm s.takeTemperatures := (temperatures s).2.warm ⟨rfl, rfl⟩

theorem lockLost (h : Steered s t) : Steered s t.lockLost := by
  have lost := h.onSession fun x => { x with lock := .notEngaged, fault := some .lockFail }
  unfold State.lockLost
  dsimp only [State.onSession_session]
  cases t.session.st with
  | energising => exact (lost.raise _).takeStop _
  | active => exact (lost.raise _).takeStop _
  | paused => exact (lost.raise _).takeStop _
  | stopping => exact (lost.raise _).takeStop _
  | authorising => exact lost.goFaulted _
  | finished => exact lost.goFaulted _
  | idle => exact lost
  | connected => exact lost
  | locking => exact lost
  | unlocking => exact lost
  | faulted => exact lost

theorem lockCheck (h : Steered s t) : Steered s t.lockCheck := h.doIf fun _ hu => hu.lockLost

theorem holdProx (h : Steered s t) (c : PlugClass) : Steered s (t.holdProx c) :=
  ((h.onSession _).postBudget _).doIf fun _ hu => hu.raise _

theorem takeProx (h : Steered s t) (c : PlugClass) : Steered s (t.takeProx c) :=
  ite h (ite (h.holdProx c).plugArrival (ite (h.holdProx c).plugLoss (h.holdProx c)))

theorem holdPilot (h : Steered s t) (c : PilotClass) (d : Nat) : Steered s (t.holdPilot c d) :=
  ((h.onSession _).postBudget _).doIf fun _ hu => hu.raise _

theorem takePilot (h : Steered s t) (c : PilotClass) (d : Nat) : Steered s (t.takePilot c d) := by
  have held := h.holdPilot c d
  unfold State.takePilot
  dsimp only
  split
  · exact ite h held
  · cases c with
    | absent => exact held.takeStop _
    | steady => exact held.connectedCheck
    | offering => exact held.connectedCheck
    | error =>
      dsimp only
      cases (t.holdPilot .error d).session.st with
      | energising => exact held.takeStop _
      | active => exact held.takeStop _
      | paused => exact held.takeStop _
      | stopping => exact held.takeStop _
      | idle => exact held
      | connected => exact held
      | locking => exact held
      | authorising => exact held
      | unlocking => exact held
      | finished => exact held
      | faulted => exact held

theorem firstMove (h : Steered s t) : Steered s t.firstMove := by
  have locked := h.onSession fun x => { x with lock := if t.pins.lockFb then .engaged else .notEngaged }
  exact ite (ite (ite ((locked.enter _).takeStop _) (locked.enter _)) (locked.enter _).connectedCheck)
    (ite locked.goUnlocking locked)

theorem tryFollow (h : Steered s t) : Steered s t.tryFollow := h.doIf fun _ hu => (hu.onSession _).firstMove

theorem actOnProx (h : Steered s t) : Steered s t.actOnProx := ite (h.takeProx _) (ite (h.holdProx _).tryFollow h)

theorem actOnPilot (h : Steered s t) : Steered s t.actOnPilot := ite (h.takePilot _ _) (ite (h.holdPilot _ _).tryFollow h)

/-- R29, R170: the session takes its inputs as they stand, the temperatures first. -/
theorem inputs (h : Steered s t.takeTemperatures) : Steered s t.actOnInputs :=
  ite h.lockCheck.actOnProx.actOnPilot
    ((h.doIf fun _ hu => hu.holdProx _).doIf fun _ hu => hu.holdPilot _ _).tryFollow

theorem actOnInputs (h : Steered s t) : Steered s t.actOnInputs := h.takeTemperatures.inputs

theorem actOnInputs_warm (s : State) : Warm s.actOnInputs := ((refl _).inputs).warm (takeTemperatures_warm s)

end Steered

end Sys2Proof.Machine
end

section
/-! What an evaluation of the budget and the return to RUN leave of the other blocks (R41, R170). -/

-- One declaration at a time: each thread the elaborator opens takes its whole stack from the memory limit.
set_option Elab.async false

namespace Sys2Proof.Machine

open Safety

/-- From `s` to `t` the session has moved and a budget evaluation may have been made: of the heating controller only the zones,
the session's state and the figures posted have moved; of the stage link only the nodes and the queues, the normal one at its
tail. -/
structure Outlying (s t : State) : Prop where
  power : t.power = s.power
  now : t.now = s.now
  heating : t.heating =
    { s.heating with
      zones := t.heating.zones, sess := t.heating.sess, postedDemands := t.heating.postedDemands
      postedMin := t.heating.postedMin, postedHeatOn := t.heating.postedHeatOn }
  stage : t.stage = { s.stage with nodes := t.stage.nodes, urgent := t.stage.urgent, normal := t.stage.normal }
  normal : s.stage.normal <+: t.stage.normal
  meter : t.meter = { s.meter with channel := t.meter.channel, lastWrite := t.meter.lastWrite }
  link : t.link = { s.link with notices := t.link.notices }
  notices : ∀ k ∈ s.link.notices, k ∈ t.link.notices
  budgetIn : s.budgetIn <+: t.budgetIn
  isoIn : t.isoIn = s.isoIn

namespace Outlying

variable {s t u : State}

theorem refl (s : State) : Outlying s s :=
  ⟨rfl, rfl, rfl, rfl, List.prefix_rfl, rfl, rfl, fun _ h => h, List.prefix_rfl, rfl⟩

theorem trans (h : Outlying s t) (k : Outlying t u) : Outlying s u where
  power := k.power.trans h.power
  now := k.now.trans h.now
  heating := by rw [k.heating, h.heating]
  stage := by rw [k.stage, h.stage]
  normal := h.normal.trans k.normal
  meter := by rw [k.meter, h.meter]
  link := by rw [k.link, h.link]
  notices x hx := k.notices x (h.notices x hx)
  budgetIn := h.budgetIn.trans k.budgetIn
  isoIn := k.isoIn.trans h.isoIn

theorem of_steered (h : Steered s t) : Outlying s t where
  power := onlyChanges_power h.frame
  now := onlyChanges_now h.frame
  heating := by rw [h.heating]
  stage := by rw [onlyChanges_stage h.frame]
  normal := by rw [onlyChanges_stage h.frame]
  meter := h.meter
  link := h.link
  notices := h.notices
  budgetIn := h.budgetIn
  isoIn := onlyChanges_isoIn h.frame

/-- A change of the budget unit, the session, the monitor, or what is on its way to the heating controller alone. -/
theorem of_frame {ps : List Piece} (f : onlyChanges ps s t)
    (hp : ∀ x ∈ ps, x ∈ [Piece.session, .pins, .budget, .iso, .billing, .nv, .heatIn] := by decide) : Outlying s t := by
  have f' : onlyChanges [.session, .pins, .budget, .iso, .billing, .nv, .heatIn] s t := onlyChanges_mono f hp
  refine ⟨onlyChanges_power f', onlyChanges_now f', ?_, ?_, ?_, ?_, ?_, ?_, ?_, onlyChanges_isoIn f'⟩
  · rw [onlyChanges_heating f']
  · rw [onlyChanges_stage f']
  · rw [onlyChanges_stage f']
  · rw [onlyChanges_meter f']
  · rw [onlyChanges_link f']
  · rw [onlyChanges_link f']
    exact fun _ h => h
  · rw [onlyChanges_budgetIn f']

theorem queueNormal (s : State) (c : StageCmd) (a : Nat) : Outlying s (s.queueNormal c a) := by
  unfold State.queueNormal
  refine ⟨rfl, rfl, rfl, ?_, ?_, rfl, rfl, fun _ h => h, List.prefix_rfl, rfl⟩
  · dsimp only [State.onStage]
    split <;> rfl
  · dsimp only [State.onStage]
    split
    · exact List.prefix_rfl
    · exact List.prefix_append _ _

theorem onNode (s : State) (a : Nat) (f : Node → Node) : Outlying s (s.onNode a f) := by
  unfold State.onNode
  split
  · exact refl s
  · exact ⟨rfl, rfl, rfl, rfl, List.prefix_rfl, rfl, rfl, fun _ h => h, List.prefix_rfl, rfl⟩

theorem doIf (h : Outlying s t) (c : Bool) {f : State → State} (hf : ∀ u, Outlying u (f u)) : Outlying s (t.doIf c f) := by
  cases c
  · exact h
  · exact h.trans (hf t)

theorem writeSetpoint (s : State) (a w : Nat) : Outlying s (s.writeSetpoint a w) := by
  unfold State.writeSetpoint State.compareSetpoint
  exact (onNode s a _).doIf _ fun u => queueNormal u _ _

theorem queueUrgent (s : State) (c : StageCmd) (a : Nat) : Outlying s (s.queueUrgent c a) := by
  unfold State.queueUrgent
  split
  · refine ⟨rfl, rfl, rfl, ?_, ?_, rfl, rfl, fun _ h => h, List.prefix_rfl, rfl⟩
    · dsimp only [State.onStage]
      split <;> rfl
    · dsimp only [State.onStage]
      split <;> exact List.prefix_rfl
  · exact refl s

theorem raise (s : State) (k : NoticeKind) : Outlying s (s.raise k) := of_steered ((Steered.refl s).raise k)

theorem postBudget (s : State) (p : BudgetPosting) : Outlying s (s.postBudget p) := of_steered ((Steered.refl s).postBudget p)

theorem foldl {α : Type} (f : State → α → State) (hf : ∀ s x, Outlying s (f s x)) (l : List α) (s : State) :
    Outlying s (l.foldl f s) := by
  induction l generalizing s with
  | nil => exact refl s
  | cons x l ih => exact (hf s x).trans (ih (f s x))

/-- A change of the zones, or of what the heating controller last posted. -/
theorem onHeating (s : State) (f : Heating → Heating)
    (hf : f s.heating =
      { s.heating with
        zones := (f s.heating).zones, sess := (f s.heating).sess, postedDemands := (f s.heating).postedDemands
        postedMin := (f s.heating).postedMin, postedHeatOn := (f s.heating).postedHeatOn }) : Outlying s (s.onHeating f) :=
  ⟨rfl, rfl, hf, rfl, List.prefix_rfl, rfl, rfl, fun _ h => h, List.prefix_rfl, rfl⟩

theorem postHeatOn (s : State) (b : Bool) : Outlying s (s.postHeatOn b) := by
  unfold State.postHeatOn
  dsimp only
  split
  · exact (onHeating s _ rfl).trans (postBudget _ _)
  · exact refl s

theorem postDemands (s : State) : Outlying s s.postDemands := by
  unfold State.postDemands
  dsimp only
  split
  · exact (onHeating s _ rfl).trans (postBudget _ _)
  · exact refl s

theorem postMinTemp (s : State) : Outlying s s.postMinTemp := by
  unfold State.postMinTemp
  dsimp only
  split
  · exact (onHeating s _ rfl).trans (postBudget _ _)
  · exact refl s

/-- R59: a step of the heating controller that changes zones alone. -/
theorem heatStep (s : State) (shed chosen : List Nat) (ranked : Bool) (f : Heating → Heating)
    (hf : f s.heating = { s.heating with zones := (f s.heating).zones }) : Outlying s (s.heatStep shed chosen ranked f) := by
  unfold State.heatStep
  dsimp only
  refine doIf ?_ _ fun u => raise u _
  refine trans ?_ (postMinTemp _)
  refine trans ?_ (postDemands _)
  refine trans ?_ (postHeatOn _ _)
  refine trans ?_ (foldl _ (fun u _ => writeSetpoint u _ _) _ _)
  refine trans ?_ (foldl _ (fun u _ => (refl u).doIf _ fun v => writeSetpoint v _ _) _ _)
  refine onHeating s _ ?_
  dsimp only
  rw [hf]

theorem zoneStep (s : State) (n : Nat) (f : Zone → Zone) : Outlying s (s.zoneStep n f) := by
  cases n with
  | zero => exact refl s
  | succ i => exact heatStep s _ _ _ _ rfl

theorem heatIsolate (s : State) (a : Nat) : Outlying s (s.heatIsolate a) := by
  unfold State.heatIsolate State.atHeater
  split
  · exact zoneStep s _ _
  · exact refl s

theorem isolateNow (s : State) (a : Nat) : Outlying s (s.isolateNow a) := by
  unfold State.isolateNow State.queueIsolate
  exact ((refl s).doIf _ fun u => (queueUrgent u _ _).trans (heatIsolate _ _)).trans (of_frame (State.onIso_frame _ _))

/-- R41: an evaluation of the budget. -/
theorem evalBudget (s : State) : Outlying s s.evalBudget := by
  unfold State.evalBudget State.postOutputs
  dsimp only
  have drawn (u : State) (e : EvalRecord) : Outlying u (u.takeDraw e) := by
    refine of_steered ?_
    unfold State.takeDraw
    split
    · exact ((Steered.refl _).onSession _).setCauses _
    · exact (Steered.refl _).onSession _
  have waited (u : State) : Outlying u u.setpointWaitCheck := by
    unfold State.setpointWaitCheck
    split
    · exact refl _
    · exact (refl _).doIf _ fun v => isolateNow v _
  refine trans ?_ (waited _)
  refine trans ?_ (drawn _ _)
  refine trans ?_ (writeSetpoint _ 3 _)
  refine trans ?_ (writeSetpoint _ 2 _)
  refine trans ?_ (writeSetpoint _ 1 _)
  exact (of_frame (State.onBudget_frame s _)).trans (of_frame (State.postHeat_frame _ _))

end Outlying

namespace State

theorem rollCallFor_mem (l : List Nat) (s : State) {a : Nat} (h : a ∈ l ∨ (⟨.rollCall, a⟩ : StageEntry) ∈ s.stage.normal) :
    (⟨.rollCall, a⟩ : StageEntry) ∈ (s.rollCallFor l).stage.normal := by
  induction l generalizing s with
  | nil => simpa [rollCallFor] using h
  | cons b l ih =>
    refine ih (s.queueNormal .rollCall b) ?_
    have queued : (⟨.rollCall, b⟩ : StageEntry) ∈ (s.queueNormal .rollCall b).stage.normal := by
      simp only [queueNormal, onStage]
      split
      · assumption
      · simp
    by_cases hab : a = b
    · exact .inr (hab ▸ queued)
    · refine h.imp (fun hm => (List.mem_cons.1 hm).resolve_left hab) fun hm => ?_
      exact (Outlying.queueNormal s .rollCall b).normal.subset hm

theorem rollCallFor_frame (l : List Nat) (s : State) : onlyChanges [.stage] s (s.rollCallFor l) := by
  unfold rollCallFor
  induction l generalizing s with
  | nil => exact onlyChanges_refl _ s
  | cons a l ih => exact onlyChanges_trans (queueNormal_frame s _ _) (ih _)

theorem rollCallFor_outlying (l : List Nat) (s : State) : Outlying s (s.rollCallFor l) :=
  Outlying.foldl _ (fun u _ => Outlying.queueNormal u _ _) l s

/-- The steps of a return to RUN before the session takes its inputs (R170). -/
def awoken (s : State) (src : WakeSource) : State :=
  let s := s.onPower fun p => { p with part := .run, lastWake := src, heldWake := none }
  let s := s.linkOn.stageReturn.meterStart.budgetStart
  s.onHeating fun h => { h with heatPeriod := some s.now, onTick := some s.now }

theorem returnToRun_eq (s : State) (src : WakeSource) : s.returnToRun src = (s.awoken src).actOnInputs.raise .part := rfl

/-- What a return to RUN has set before the session takes its inputs (R170). -/
structure Awoken (src : WakeSource) (s t : State) : Prop where
  power : t.power = { s.power with part := .run, lastWake := src, heldWake := none }
  now : t.now = s.now
  link : t.link = { s.linkOn.link with notices := t.link.notices }
  notices : ∀ k ∈ s.link.notices, k ∈ t.link.notices
  supplyOn : t.stage.supplyOn = true
  errors : t.stage.errors = {}
  recallTimer : t.stage.recallTimer = some s.now
  entryWait : t.stage.entryWait = s.stage.entryWait
  rollCalls : ∀ a ∈ addresses, (s.node a).expected ≠ .none → (⟨.rollCall, a⟩ : StageEntry) ∈ t.stage.normal
  meter : t.meter.period = some s.now
  heatPeriod : t.heating.heatPeriod = some s.now
  onTick : t.heating.onTick = some s.now
  departure : t.heating.departure = s.heating.departure
  budget : t.budget.period = some s.now
  last : t.budget.last = evaluate s.budget.input s.budget.params s.budget.table

theorem awoken_facts (s : State) (src : WakeSource) : Awoken src s (s.awoken src) := by
  obtain ⟨a, ha⟩ : ∃ a, a = (s.onPower fun p => { p with part := .run, lastWake := src, heldWake := none }).linkOn := ⟨_, rfl⟩
  obtain ⟨b, hb⟩ : ∃ b, b = a.onStage fun g =>
    { g with supplyOn := true, errors := {}, recallTimer := some a.now, silent := false } := ⟨_, rfl⟩
  obtain ⟨c, hc⟩ : ∃ c, c = b.fullRollCall := ⟨_, rfl⟩
  obtain ⟨d, hd⟩ : ∃ d, d = c.meterStart.onBudget fun x => { x with period := some c.now } := ⟨_, rfl⟩
  have step : s.awoken src =
      d.evalBudget.onHeating fun h => { h with heatPeriod := some d.evalBudget.now, onTick := some d.evalBudget.now } := by
    rw [hd, hc, hb, ha]
    rfl
  have linkA : a.link = s.linkOn.link := by rw [ha]; rfl
  have called := rollCallFor_outlying (addresses.filter fun a => (b.node a).expected != .none) b
  rw [← fullRollCall, ← hc] at called
  have eval := Outlying.evalBudget d
  obtain ⟨⟨last, -⟩, input, params, table, period⟩ := evalBudget_evaluated d
  obtain ⟨e, he⟩ : ∃ e, e = d.evalBudget := ⟨_, rfl⟩
  rw [← he] at step eval last input params table period
  have frameC : onlyChanges [.stage] b c := by
    rw [hc]
    exact rollCallFor_frame _ _
  have nowB : b.now = s.now := by rw [hb, ha]; rfl
  have now : e.now = s.now := by
    rw [eval.now, hd]
    exact called.now.trans nowB
  have budgetD : d.budget = { s.budget with period := some s.now } := by
    have budget : c.budget = s.budget := by
      rw [onlyChanges_budget frameC, hb, ha]
      rfl
    have time : c.now = s.now := called.now.trans nowB
    rw [hd]
    show ({ c.budget with period := some c.now } : Budget) = _
    rw [budget, time]
  have stageD : d.stage = c.stage := by rw [hd]; rfl
  have stageE : e.stage.supplyOn = true ∧ e.stage.errors = {} ∧
      e.stage.recallTimer = some s.now ∧ e.stage.entryWait = s.stage.entryWait := by
    rw [eval.stage, stageD, called.stage, hb, ha]
    exact ⟨rfl, rfl, rfl, rfl⟩
  obtain ⟨supplyOn, errors, recallTimer, entryWait⟩ := stageE
  rw [step]
  refine ⟨?power, now, ?link, ?notices, supplyOn, errors, recallTimer, entryWait, fun n hn expected => ?rollCalls, ?meter, ?heatPeriod,
    ?onTick, ?departure, ?budget, ?last⟩
  case power =>
    show e.power = _
    rw [eval.power, hd]
    show c.power = _
    rw [called.power, hb, ha]
    rfl
  case link =>
    show e.link = { s.linkOn.link with notices := e.link.notices }
    rw [eval.link, hd]
    show ({ c.link with notices := _ } : Link) = _
    rw [called.link, hb]
    show ({ a.link with notices := _ } : Link) = _
    rw [linkA]
  case notices =>
    intro k hk
    refine eval.notices k ?_
    rw [hd]
    refine called.notices k ?_
    rw [hb, ha]
    exact hk
  case rollCalls =>
    refine eval.normal.subset ?_
    rw [stageD, hc]
    have node : b.node n = s.node n := by rw [hb, ha]; rfl
    exact rollCallFor_mem _ b (.inl (List.mem_filter.2 ⟨hn, by rw [node]; simpa using expected⟩))
  case meter =>
    show e.meter.period = _
    rw [eval.meter, hd]
    show some c.now = _
    rw [called.now, nowB]
  case heatPeriod =>
    show some e.now = _
    rw [now]
  case onTick =>
    show some e.now = _
    rw [now]
  case departure =>
    show e.heating.departure = _
    rw [eval.heating, hd]
    show c.heating.departure = _
    rw [called.heating, hb, ha]
    rfl
  case budget =>
    show e.budget.period = _
    rw [period, budgetD]
  case last =>
    show e.budget.last = _
    rw [last, input, params, table, budgetD]

/-- R170: a return to RUN. -/
theorem returnToRun_awoken (s : State) (src : WakeSource) :
    Awoken src s (s.returnToRun src) ∧ NoticeKind.part ∈ (s.returnToRun src).link.notices := by
  have first := awoken_facts s src
  have moved := ((Steered.refl (s.awoken src)).actOnInputs).raise .part
  rw [returnToRun_eq]
  have stage := onlyChanges_stage moved.frame
  have budget := onlyChanges_budget moved.frame
  refine ⟨⟨(onlyChanges_power moved.frame).trans first.power, (onlyChanges_now moved.frame).trans first.now, ?_,
    fun k hk => moved.notices k (first.notices k hk), by rw [stage, first.supplyOn], by rw [stage, first.errors],
    by rw [stage, first.recallTimer], by rw [stage, first.entryWait], by rw [stage]; exact first.rollCalls,
    by rw [moved.meter, first.meter], by rw [moved.heating, first.heatPeriod], by rw [moved.heating, first.onTick],
    by rw [moved.heating, first.departure], by rw [budget, first.budget], by rw [budget, first.last]⟩, ?_⟩
  · rw [moved.link, first.link]
  · rw [raise_notices]
    split
    · assumption
    · simp

theorem returnToRun_returned (s : State) (src : WakeSource) : returned src s (s.returnToRun src) := by
  obtain ⟨h, part⟩ := returnToRun_awoken s src
  refine ⟨h.power, by rw [h.link]; rfl, part, fun x hx => ?_, h.supplyOn, h.errors, h.recallTimer, h.rollCalls, h.meter,
    h.heatPeriod, h.onTick, h.budget, h.last⟩
  rw [h.link] at hx
  obtain ⟨y, -, rfl⟩ := List.mem_map.1 (show x ∈ s.link.replies.map fun r => { r with mark := r.mark.awake } from hx)
  show y.mark.awake ≠ .sleepAck
  cases y.mark <;> simp [ReplyMark.awake]

/-- R169: a wake source with the entry complete. -/
theorem takeWake_awake {s : State} (low : s.power.part = .standby ∨ s.power.part = .sleep) (h : s.stage.entryWait = false)
    (src : WakeSource) : s.takeWake src = s.returnToRun src := by
  have : s.lowPower = true := by rcases low with low | low <;> simp [lowPower, low]
  simp [takeWake, this, h]

end State

end Sys2Proof.Machine
end

section
/-! The heating controller's timers (R54, R71, R72, R76). -/

-- One declaration at a time: each thread the elaborator opens takes its whole stack from the memory limit.
set_option Elab.async false

namespace Sys2Proof.Machine

open Safety

/-- Without a temperature a zone is not HEATING by its row. -/
theorem Zone.refresh_absent {z : Zone} (h : z.temp = none) : z.refresh.heat ≠ .heating := by
  show z.stateNow ≠ .heating
  have keeps : z.keepsHeating = false := by simp [Zone.keepsHeating, h]
  rw [Zone.stateNow, keeps]
  split_ifs <;> simp_all

namespace State

/-- R71: the minute's stamp. -/
def stamped (s : State) : State := s.onDeparture fun d => { d with minuteStamp := s.now }

/-- R71: the count after a minute. -/
def counted (s : State) : State := s.stamped.onDeparture fun d => { d with count := d.count - 1 }

theorem minuteCount_stands {s : State} (h : s.heating.departure.count = 0) : s.minuteCount = s.stamped := if_pos h

theorem minuteCount_runs {s : State} (h : 2 ≤ s.heating.departure.count) : s.minuteCount = s.counted.evalWindow := by
  have now : s.stamped.heating.departure.count ≠ 0 := by
    show s.heating.departure.count ≠ 0
    omega
  have next : s.counted.heating.departure.count ≠ 0 := by
    show s.heating.departure.count - 1 ≠ 0
    omega
  exact (if_neg now).trans (if_neg next)

theorem minuteCount_departs {s : State} (h : s.heating.departure.count = 1) : s.minuteCount = s.counted.departNow := by
  have now : s.stamped.heating.departure.count ≠ 0 := by
    show s.heating.departure.count ≠ 0
    omega
  have next : s.counted.heating.departure.count = 0 := by
    show s.heating.departure.count - 1 = 0
    omega
  exact (if_neg now).trans (if_pos next)

/-- The window is no part of what opens or closes it. -/
theorem evalWindow_heating (s : State) :
    s.evalWindow.heating = { s.heating with departure := { s.heating.departure with window := s.heating.departure.windowNow } } := by
  rw [evalWindow_eq]
  split
  · next h => rw [h]
  · rfl

theorem evalWindow_frame (s : State) : onlyChanges [.heating, .link, .budgetIn] s s.evalWindow := by
  rw [evalWindow_eq]
  split
  · exact onlyChanges_refl _ s
  · simp [onlyChanges, noticed]

end State

end Sys2Proof.Machine

namespace Sys2Proof.Proofs

open Machine Safety

/-- A notice raised twice is raised once. -/
theorem noticed_twice (k : NoticeKind) (s : State) : noticed [k] (noticed [k] s) = noticed [k] s := by
  simp [noticed]

/-- R71: in RUN and SUPPLY_HOLD the minute counts. -/
theorem exec_departureMinute {s : State} (h : s.power.part = .run ∨ s.power.part = .supplyHold) :
    exec .departureMinute s = .next s.minuteCount := by
  show Host.Outcome.next s.minuteEvent = _
  rcases h with h | h <;> rw [State.minuteEvent, h]

/-- Settles O38: the reply age, the on-time tick and the minute. -/
theorem heatTimersRun : Obligations.HeatTimersRun := by
  intro s
  refine ⟨fun z run hz => ?young, fun z run h1 hl hz => ?aged, fun run ht => ?tick, fun part => ?minute,
    fun low wait closed count lead => ?wake⟩
  case young =>
    show Host.Outcome.next (s.whenRun fun s => s.replyAgeEvent z) = _
    rw [State.whenRun_run run, State.replyAgeEvent, hz]
    rfl
  case aged =>
    obtain ⟨i, rfl⟩ : ∃ i, z = i + 1 := ⟨z - 1, by omega⟩
    have step : exec (.heaterReplyAgeExpiry (i + 1)) s =
        .next (s.heatStep [] [] false fun h => { h with zones := h.zones.modify i fun z => { z with temp := none } }) := by
      show Host.Outcome.next (s.whenRun fun s => s.replyAgeEvent (i + 1)) = _
      rw [State.whenRun_run run, State.replyAgeEvent, State.doIf_eq, if_pos (Option.isSome_iff_ne_none.2 hz)]
      rfl
    obtain ⟨rows, -, frame, -⟩ := State.heatStep_stepped s [] [] false
      fun h => { h with zones := h.zones.modify i fun z => { z with temp := none } }
    obtain ⟨zones, -⟩ := rows.fields
    obtain ⟨t, ht⟩ : ∃ t, t = s.heatStep [] [] false
      fun h => { h with zones := h.zones.modify i fun z => { z with temp := none } } := ⟨_, rfl⟩
    rw [← ht] at step zones frame
    have hi : i < s.heating.zones.length := by omega
    have row : t.zone (i + 1) = ({ s.heating.zones[i] with temp := none } : Zone).refresh := by
      simp [State.zone, zones, hi]
    refine ⟨t, step, zones, by rw [row]; rfl, ?_, frame⟩
    rw [row]
    exact Zone.refresh_absent rfl
  case tick =>
    show Host.Outcome.next (s.whenRun State.onTimeEvent) = _
    rw [State.whenRun_run run, State.onTimeEvent, State.doIf_eq, if_pos (Option.isSome_iff_ne_none.2 ht)]
    rfl
  case minute =>
    intro d
    rw [exec_departureMinute part]
    refine ⟨fun h0 => ?_, fun h2 => ?_, fun h1 once => ?_, fun h1 again => ?_⟩
    · rw [State.minuteCount_stands h0]
      rfl
    · intro w
      have now : s.counted.heating.departure.windowNow = w := by
        show decide (0 < d.count - 1 ∧ d.count - 1 ≤ d.lead) = decide (d.count - 1 ≤ d.lead)
        exact decide_eq_decide.2 (and_iff_right (by omega))
      rw [State.minuteCount_runs h2, State.evalWindow_eq, now]
      refine ⟨fun same => ?_, fun new => ?_⟩
      · rw [if_pos (by exact same)]
        rfl
      · rw [if_neg (by exact new)]
        rfl
    · have zero : d.count - 1 = 0 := by omega
      have now : (s.counted.raise .departure).heating.departure.windowNow = false := by
        rw [State.raise_heating]
        show decide (0 < d.count - 1 ∧ d.count - 1 ≤ d.lead) = false
        simp [zero]
      obtain ⟨u, hu⟩ : ∃ u, u = (s.counted.raise .departure).evalWindow := ⟨_, rfl⟩
      have oneShot : u.heating.departure.mode ≠ .periodic := by
        rw [hu, State.evalWindow_heating, State.raise_heating]
        show d.mode ≠ _
        simp [once]
      have step : s.minuteCount = u := by
        rw [State.minuteCount_departs h1, State.departNow, ← hu]
        exact if_neg oneShot
      rw [step, hu, State.evalWindow_eq, now, State.raise_eq]
      cases hw : d.window with
      | false =>
        have fields : s.counted.heating = { s.heating with departure := { d with count := 0, window := false } } := by
          rw [← hw, ← zero]
          rfl
        rw [if_pos (by exact hw.symm)]
        show Host.Outcome.next { noticed [.departure] s with heating := s.counted.heating } = _
        rw [fields]
        simp [noticed]
      | true =>
        have open' : (noticed [.departure] s.counted).heating.departure.window = true := hw
        have fields : ({ s.counted.heating with departure := { s.counted.heating.departure with window := false } } : Heating) =
            { s.heating with departure := { d with count := 0, window := false } } := by
          rw [← zero]
          rfl
        rw [if_neg (by simp [open']), noticed_twice]
        show Host.Outcome.next { noticed [.departure] s with
          heating := { s.counted.heating with departure := { s.counted.heating.departure with window := false } }
          budgetIn := s.budgetIn ++ [BudgetPosting.window false] } = _
        rw [fields]
        rfl
    · obtain ⟨u, hu⟩ : ∃ u, u = (s.counted.raise .departure).evalWindow := ⟨_, rfl⟩
      have heatingU : u.heating = { s.heating with departure := { d with count := d.count - 1, window := false } } := by
        have zero : d.count - 1 = 0 := by omega
        have now : (s.counted.raise .departure).heating.departure.windowNow = false := by
          rw [State.raise_heating]
          show decide (0 < d.count - 1 ∧ d.count - 1 ≤ d.lead) = false
          simp [zero]
        rw [hu, State.evalWindow_heating, now, State.raise_heating]
        rfl
      have periodic : u.heating.departure.mode = .periodic := by
        rw [heatingU]
        exact again
      have step : s.minuteCount = (u.onDeparture fun d => { d with count := d.initial }).evalWindow := by
        rw [State.minuteCount_departs h1, State.departNow, ← hu]
        exact if_pos periodic
      have frame : onlyChanges [.heating, .link, .budgetIn] s u := by
        have counted : onlyChanges [.heating, .link, .budgetIn] s s.counted :=
          onlyChanges_trans (State.onHeating_frame s _) (State.onHeating_frame _ _)
        rw [hu]
        exact onlyChanges_trans (onlyChanges_trans counted (State.raise_frame _ _) (rs := [.heating, .link, .budgetIn]))
          (State.evalWindow_frame _)
      refine ⟨_, congrArg _ step, ?_, onlyChanges_trans (onlyChanges_trans frame (State.onHeating_frame u _)
        (rs := [.heating, .link, .budgetIn])) (State.evalWindow_frame _)⟩
      have loaded : (u.onDeparture fun d => { d with count := d.initial }).heating =
          { s.heating with departure := { d with count := d.initial, window := false } } := by
        show ({ u.heating with departure := { u.heating.departure with count := u.heating.departure.initial } } : Heating) = _
        rw [heatingU]
      rw [State.evalWindow_heating, loaded]
      rfl
  case wake =>
    have runs : 2 ≤ s.heating.departure.count := by omega
    have now : s.counted.heating.departure.windowNow = true := by
      show decide (0 < s.heating.departure.count - 1 ∧ s.heating.departure.count - 1 ≤ s.heating.departure.lead) = true
      simp; omega
    obtain ⟨t, ht⟩ : ∃ t, t = s.minuteCount := ⟨_, rfl⟩
    have counted : t.heating = { s.heating with
        departure := { s.heating.departure with
          minuteStamp := s.now, count := s.heating.departure.lead, window := true } } := by
      rw [ht, State.minuteCount_runs runs, State.evalWindow_heating, now]
      show ({ s.heating with departure := { s.heating.departure with
        minuteStamp := s.now, count := s.heating.departure.count - 1, window := true } } : Heating) = _
      rw [count]
      rfl
    have frame : onlyChanges [.heating, .link, .budgetIn] s t := by
      rw [ht, State.minuteCount_runs runs]
      exact onlyChanges_trans (onlyChanges_trans (State.onHeating_frame s _) (State.onHeating_frame _ _)
        (rs := [.heating, .link, .budgetIn])) (State.evalWindow_frame _)
    have step : exec .departureMinute s = .next (t.returnToRun .preheat) := by
      have opens : State.windowOpened s.heating.departure t.heating.departure = true := by
        rw [counted]
        simp [State.windowOpened, closed]
      have asleep : s.minuteEvent = s.minuteAsleep := by
        rcases low with h | h <;> rw [State.minuteEvent, h]
      show Host.Outcome.next s.minuteEvent = _
      rw [asleep, State.minuteAsleep, ← ht, opens, State.doIf_true,
        State.takeWake_awake (by rw [onlyChanges_power frame]; exact low) (by rw [onlyChanges_stage frame]; exact wait)]
    obtain ⟨awoken, -⟩ := State.returnToRun_awoken t .preheat
    refine ⟨_, step, by rw [awoken.power], by rw [awoken.power], ?_, ?_⟩
    · rw [awoken.departure, counted]
    · rw [awoken.departure, counted]

end Sys2Proof.Proofs
end

section
/-! The insulation monitor: what supervision and the end of a search leave, its settings, CLEAR_ISOLATION and the moves of
its state (R78, R91, R95, R100, R102 to R104). -/

-- One declaration at a time: each thread the elaborator opens takes its whole stack from the memory limit.
set_option Elab.async false

namespace Sys2Proof.Machine

open Safety

namespace State

/-! ### A search given up (R100) -/

/-- R100: the branch under test is reconnected, if its node is ACTIVE. -/
theorem dropBranch_kept (s : State) :
    onlyChanges [.heating, .stage, .budgetIn, .link] s s.dropBranch ∧ Onward s s.dropBranch := by
  unfold dropBranch
  split
  · exact ⟨onlyChanges_refl _ _, Onward.refl _⟩
  · next a _ =>
    exact ⟨onlyChanges_doIf (queueReconnect_kept s a).1, (Onward.refl s).doIf _ _ fun t => (queueReconnect_kept t a).2⟩

theorem dropBranch_queues {s : State} {a : Nat} (h : s.iso.search.under = some a) (active : (s.node a).st = .active) :
    (⟨.reconnect, a⟩ : StageEntry) ∈ s.dropBranch.stage.urgent := by
  simpa [dropBranch, h, active] using mem_queueReconnect active

theorem abortSearch_moved (s : State) (c : AbortCause) (f : Insulation → Insulation) : Moved s (s.abortSearch c f) :=
  (Moved.of_frame (dropBranch_kept s).1 (dropBranch_kept s).2).trans (isoChange_moved _ _)

theorem abortSearch_iso (s : State) (c : AbortCause) (f : Insulation → Insulation) :
    (s.abortSearch c f).iso = f (s.iso.searchOver .aborted (some c) none) := by
  rw [abortSearch, isoChange_iso, onlyChanges_iso (dropBranch_kept s).1]

theorem abortSearch_queues {s : State} (c : AbortCause) (f : Insulation → Insulation) {a : Nat}
    (h : s.iso.search.under = some a) (active : (s.node a).st = .active) :
    (⟨.reconnect, a⟩ : StageEntry) ∈ (s.abortSearch c f).stage.urgent := by
  rw [abortSearch, onlyChanges_stage (isoChange_frame _ _)]
  exact dropBranch_queues h active

/-- R16: a search given up moves the monitor's state, which the session is told. -/
theorem abortSearch_tells {s : State} {c : AbortCause} {f : Insulation → Insulation} (hs : s.iso.st = .searching)
    (hf : (f (s.iso.searchOver .aborted (some c) none)).st ≠ .searching) :
    (s.abortSearch c f).session.causes.searchHold = (f (s.iso.searchOver .aborted (some c) none)).hold ∧
      BudgetPosting.searchHold (f (s.iso.searchOver .aborted (some c) none)).hold ∈ (s.abortSearch c f).budgetIn ∧
      NoticeKind.insulation ∈ (s.abortSearch c f).link.notices := by
  have iso := onlyChanges_iso (dropBranch_kept s).1
  have tells := isoChange_tells (s := s.dropBranch) (f := fun x => f (x.searchOver .aborted (some c) none))
    (by rw [iso]; exact fun h => hf (h.1.trans hs))
  rw [iso] at tells
  exact tells

/-! ### Supervision (R78, R79, R100) -/

theorem isoSupervise_leaves {s : State} (runs : (s.iso.params.enabled && packAlive s.iso.vPack) = true) (hs : s.iso.st = .off) :
    s.isoSupervise = s.isoChange fun x => x.leftOff s.now := by
  rw [isoSupervise, if_pos runs, if_pos hs]

theorem isoSupervise_stays {s : State} (h : (s.iso.params.enabled && packAlive s.iso.vPack) = true ↔ s.iso.st ≠ .off) :
    s.isoSupervise = s := by
  unfold isoSupervise
  split
  · next runs => exact if_neg (h.1 runs)
  · next stands => exact if_pos (by_contra fun hs => stands (h.2 hs))

theorem isoSupervise_enters {s : State} (stands : ¬ (s.iso.params.enabled && packAlive s.iso.vPack) = true)
    (hs : s.iso.st ≠ .off) (hn : s.iso.st ≠ .searching) : s.isoSupervise = s.isoChange Insulation.offed := by
  rw [isoSupervise, if_neg stands, isoOff, if_neg hs, if_neg hn]

theorem isoSupervise_aborts {s : State} (stands : ¬ (s.iso.params.enabled && packAlive s.iso.vPack) = true)
    (hs : s.iso.st = .searching) : s.isoSupervise = s.abortSearch .off Insulation.offed := by
  rw [isoSupervise, if_neg stands, isoOff, if_neg (by simp [hs]), if_pos hs]

theorem isoSupervise_moved (s : State) : Moved s s.isoSupervise := by
  unfold isoSupervise isoOff
  split_ifs
  · exact isoChange_moved _ _
  · exact Moved.of_frame (onlyChanges_refl [] s) (Onward.refl s)
  · exact Moved.of_frame (onlyChanges_refl [] s) (Onward.refl s)
  · exact abortSearch_moved _ _ _
  · exact isoChange_moved _ _

/-- R78, R79: the monitor after supervision outside a search. -/
theorem isoSupervise_iso {s : State} (hn : s.iso.st ≠ .searching) :
    s.isoSupervise.iso =
      if (s.iso.params.enabled && packAlive s.iso.vPack) = true then if s.iso.st = .off then s.iso.leftOff s.now else s.iso
      else if s.iso.st = .off then s.iso
      else s.iso.offed := by
  unfold isoSupervise isoOff
  split_ifs
  · exact isoChange_iso _ _
  · rfl
  · rfl
  · exact isoChange_iso _ _

/-! ### The isolation memory (R102, R103) -/

theorem forget_iso (s : State) (a : Nat) :
    (s.forget a).iso = { s.iso with memory := s.iso.memory.filter fun b => b != a } :=
  onlyChanges_iso (queueReconnect_kept _ a).1

theorem forget_kept (s : State) (a : Nat) :
    onlyChanges [.iso, .heating, .stage, .budgetIn, .link] s (s.forget a) ∧ Onward s (s.forget a) := by
  obtain ⟨frame, onward⟩ := queueReconnect_kept (s.onIso fun x => { x with memory := x.memory.filter fun b => b != a }) a
  exact ⟨onlyChanges_trans (onIso_frame s _) frame, (Onward.of_frame (onIso_frame s _)).trans onward⟩

theorem forget_st (s : State) (a b : Nat) : ((s.forget a).node b).st = (s.node b).st := by
  rw [forget, queueReconnect, (heatRelease_heated _ a).commands.st]
  simp only [node, queueUrgent_nodes]
  rfl

theorem forget_urgent (s : State) (a : Nat) :
    (s.forget a).stage.urgent = ((s.onIso fun x => { x with memory := x.memory.filter fun b => b != a }).queueUrgent .reconnect a).stage.urgent :=
  (heatRelease_heated _ a).commands.urgent

theorem forget_queues {s : State} {a : Nat} (h : (s.node a).st = .active) :
    (⟨.reconnect, a⟩ : StageEntry) ∈ (s.forget a).stage.urgent :=
  mem_queueReconnect (s := s.onIso fun x => { x with memory := x.memory.filter fun b => b != a }) h

/-- A RECONNECT that waits is not taken from the queue by another one. -/
theorem mem_queueUrgent_kept {s : State} {c : StageCmd} {a b : Nat} (h : (⟨c, b⟩ : StageEntry) ∈ s.stage.urgent) :
    (⟨c, b⟩ : StageEntry) ∈ (s.queueUrgent c a).stage.urgent := by
  unfold queueUrgent
  split
  · dsimp only [onStage]
    split
    · refine List.mem_map.2 ⟨_, h, ?_⟩
      by_cases hb : b = a <;> simp [hb]
    · exact List.mem_append_left _ h
  · exact h

/-- R103: what a list of forgotten addresses leaves. -/
theorem foldl_forget (l : List Nat) (s : State) :
    (l.foldl forget s).iso = { s.iso with memory := s.iso.memory.filter fun b => decide (b ∉ l) } ∧
      onlyChanges [.iso, .heating, .stage, .budgetIn, .link] s (l.foldl forget s) ∧ Onward s (l.foldl forget s) ∧
      ∀ b, b ∈ l ∧ (s.node b).st = .active ∨ (⟨.reconnect, b⟩ : StageEntry) ∈ s.stage.urgent →
        (⟨.reconnect, b⟩ : StageEntry) ∈ (l.foldl forget s).stage.urgent := by
  induction l generalizing s with
  | nil => exact ⟨by simp, onlyChanges_refl _ _, Onward.refl _, fun b h => by simpa using h⟩
  | cons a l ih =>
    obtain ⟨iso, frame, onward, queued⟩ := ih (s.forget a)
    obtain ⟨frame', onward'⟩ := forget_kept s a
    refine ⟨?_, onlyChanges_trans frame' frame, onward'.trans onward, fun b hb => queued b ?_⟩
    · have both : (s.iso.memory.filter fun b => b != a).filter (fun b => decide (b ∉ l)) =
          s.iso.memory.filter fun b => decide (b ∉ a :: l) := by
        rw [List.filter_filter]
        refine List.filter_congr fun b _ => ?_
        by_cases hb : b = a <;> simp [hb]
      rw [List.foldl_cons, iso, forget_iso, ← both]
    · rcases hb with ⟨hb, active⟩ | hb
      · rcases List.mem_cons.1 hb with rfl | hb
        · exact .inr (forget_queues active)
        · exact .inl ⟨hb, by rw [forget_st]; exact active⟩
      · exact .inr (by rw [forget_urgent]; exact mem_queueUrgent_kept hb)

/-- R102, R106: a memory that has changed is queued and told. -/
theorem memoryChanged_facts (s : State) (old : List Nat) :
    (s.memoryChanged old).iso = s.iso ∧ (s.memoryChanged old).stage = s.stage ∧
      (s.iso.memory ≠ old →
        waits (s.memoryChanged old) (.isoMemory s.iso.memory) ∧ NoticeKind.insulation ∈ (s.memoryChanged old).link.notices) ∧
      onlyChanges [.nv, .link] s (s.memoryChanged old) ∧ Onward s (s.memoryChanged old) := by
  have queued : onlyChanges [.nv] s (s.queueNv (.isoMemory s.iso.memory) false) := by simp [queueNv, onlyChanges, onNv]
  by_cases h : s.iso.memory = old
  · simp [memoryChanged, h, onlyChanges_refl, Onward.refl]
  · have step : s.memoryChanged old = (s.queueNv (.isoMemory s.iso.memory) false).raise .insulation := by
      rw [memoryChanged, show (s.iso.memory != old) = true by simpa using h, doIf_true]
    have frame := onlyChanges_trans queued (raise_frame _ .insulation) (rs := [.nv, .link])
    rw [step]
    refine ⟨onlyChanges_iso frame, onlyChanges_stage frame, fun _ => ⟨?_, ?_⟩, frame,
      (Onward.of_frame queued).trans (Onward.raise _ _)⟩
    · have same := onlyChanges_nv (raise_frame (s.queueNv (.isoMemory s.iso.memory) false) .insulation)
      rw [waits, same]
      exact queueNv_waits s _ false
    · rw [raise_notices]
      split <;> simp_all

end State

/-- R84, R86, R104: what taking parameters makes of the monitor. -/
theorem Insulation.takeParams_facts (x : Insulation) (p : IsoParams) (now : Nat) :
    (x.takeParams p now).params = p ∧
      (p.warn ≠ x.params.warn ∨ p.fault ≠ x.params.fault ∨ p.critical ≠ x.params.critical →
        (x.takeParams p now).streaks = {}) ∧
      (p.profMode = .fixed → (x.takeParams p now).profile = p.fixed) ∧
      (x.takeParams p now).st = x.st ∧ (x.takeParams p now).assess = x.assess ∧ (x.takeParams p now).last = x.last ∧
      (x.takeParams p now).vPack = x.vPack := by
  have profile : (x.takeProfile p.profMode p.fixed now).st = x.st ∧ (x.takeProfile p.profMode p.fixed now).assess = x.assess ∧
      (x.takeProfile p.profMode p.fixed now).last = x.last ∧ (x.takeProfile p.profMode p.fixed now).vPack = x.vPack ∧
      (p.profMode = .fixed → (x.takeProfile p.profMode p.fixed now).profile = p.fixed) := by
    unfold Insulation.takeProfile
    cases p.profMode
    · dsimp only
      split <;> simp
    · dsimp only [Insulation.useProfile]
      split <;> simp_all
  obtain ⟨st, assess, last, vPack, fixed⟩ := profile
  unfold Insulation.takeParams
  dsimp only
  split
  · exact ⟨rfl, fun _ => rfl, fixed, st, assess, last, vPack⟩
  · next h => exact ⟨rfl, fun hc => absurd hc h, fixed, st, assess, last, vPack⟩

end Sys2Proof.Machine

namespace Sys2Proof.Proofs

open Machine Safety

/-! ### The monitor's settings (R95, R103, R104) -/

theorem profMode?_none {n : Nat} (h : ¬ n ≤ 1) : profMode? n = none := by
  obtain ⟨k, rfl⟩ : ∃ k, n = k + 2 := ⟨n - 2, by omega⟩
  rfl

theorem profile?_none {n : Nat} (h : ¬ n ≤ 3) : profile? n = none := by
  obtain ⟨k, rfl⟩ : ∃ k, n = k + 4 := ⟨n - 4, by omega⟩
  rfl

/-- R104: the thresholds of a SET_ISO_PARAMS in their ranges and order. -/
theorem thresholds_illegal_iff (w x c : Nat) :
    (!thresholdLegal w || !thresholdLegal x || !thresholdLegal c || decide (x ≤ c) || decide (w ≤ x)) = true ↔
      ¬ (1 ≤ c ∧ c < x ∧ x < w ∧ w ≤ 10000) := by
  simp only [thresholdLegal, Bool.or_eq_true, Bool.not_eq_true', decide_eq_false_iff_not, decide_eq_true_eq]
  omega

theorem profMode?_of_le {n : Nat} (h : n ≤ 1) : ∃ m, profMode? n = some m := by
  obtain rfl | rfl : n = 0 ∨ n = 1 := by omega
  · exact ⟨_, rfl⟩
  · exact ⟨_, rfl⟩

theorem profile?_of_le {n : Nat} (h : n ≤ 3) : ∃ m, profile? n = some m := by
  obtain rfl | rfl | rfl | rfl : n = 0 ∨ n = 1 ∨ n = 2 ∨ n = 3 := by omega
  · exact ⟨_, rfl⟩
  · exact ⟨_, rfl⟩
  · exact ⟨_, rfl⟩
  · exact ⟨_, rfl⟩

/-- R104: the owner's answer to SET_ISO_PARAMS with every code in its set. -/
theorem ownSetIsoParams_coded (s : State) {e m f : Nat} (w x c : Nat) (he : e ≤ 1) {pm : ProfMode} {pf : Profile}
    (hm : profMode? m = some pm) (hf : profile? f = some pf) :
    s.ownSetIsoParams e m f w x c =
      if ¬ (1 ≤ c ∧ c < x ∧ x < w ∧ w ≤ 10000) then refuse s .badValue
      else if s.iso.st = .searching then refuse s .state
      else
        okWith (s.onIso fun y => y.takeParams ⟨decide (e = 1), pm, pf, w, x, c⟩ s.now).isoSupervise [] := by
  unfold State.ownSetIsoParams
  rw [yesNo?_of_le he, hm, hf]
  simp only [thresholds_illegal_iff]

theorem ownSetIsoParams_illegal (s : State) {e m f w x c : Nat}
    (h : ¬ (e ≤ 1 ∧ m ≤ 1 ∧ f ≤ 3 ∧ 1 ≤ c ∧ c < x ∧ x < w ∧ w ≤ 10000)) :
    s.ownSetIsoParams e m f w x c = refuse s .badValue := by
  by_cases he : e ≤ 1
  · by_cases hm : m ≤ 1
    · by_cases hf : f ≤ 3
      · obtain ⟨pm, hpm⟩ := profMode?_of_le hm
        obtain ⟨pf, hpf⟩ := profile?_of_le hf
        rw [ownSetIsoParams_coded s w x c he hpm hpf, if_pos fun legal => h ⟨he, hm, hf, legal⟩]
      · simp only [State.ownSetIsoParams, profile?_none hf]
        cases yesNo? e <;> cases profMode? m <;> rfl
    · simp only [State.ownSetIsoParams, profMode?_none hm]
      cases yesNo? e <;> rfl
  · simp only [State.ownSetIsoParams, yesNo?_none he]

theorem searchListLegal_iff (l : List Nat) : searchListLegal l = true ↔ (∀ a ∈ l, 1 ≤ a ∧ a ≤ 11) ∧ l.Nodup := by
  simp [searchListLegal]

/-- Settles O39: each request by the rows of its owner, the monitor's move by what supervision makes of it. -/
theorem isoSettingsTaken : Obligations.IsoSettingsTaken := by
  intro s tag serve
  refine ⟨fun e m f w x c => ⟨fun illegal => ?_, fun legal searching => ?_, fun legal still pm pf hm hf => ?_⟩,
    fun l => ⟨fun illegal => ?_, fun legal searching => ?_, fun legal still => ?_⟩, fun a ha hr => ?_, fun a h1 h2 under => ?_,
    fun a ha => ?_⟩
  case refine_1 => exact exec_refused serve rfl (ownSetIsoParams_illegal s illegal)
  case refine_2 =>
    obtain ⟨he, hm, hf, order⟩ := legal
    obtain ⟨pm, hpm⟩ := profMode?_of_le hm
    obtain ⟨pf, hpf⟩ := profile?_of_le hf
    refine exec_refused serve rfl ((ownSetIsoParams_coded s w x c he hpm hpf).trans ?_)
    rw [if_neg (not_not.2 order), if_pos searching]
  case refine_3 =>
    obtain ⟨he, -, -, order⟩ := legal
    obtain ⟨u, hu⟩ : ∃ u, u = s.onIso fun y => y.takeParams ⟨decide (e = 1), pm, pf, w, x, c⟩ s.now := ⟨_, rfl⟩
    have own : State.owner (.setIsoParams tag e m f w x c) s = okWith u.isoSupervise [] := by
      refine (ownSetIsoParams_coded s w x c he hm hf).trans ?_
      rw [if_neg (not_not.2 order), if_neg still, hu]
    have taken : State.Moved s u := hu ▸ State.Moved.of_frame (State.onIso_frame s _) (State.Onward.of_frame (State.onIso_frame s _))
    have frame : onlyChanges [.iso] s u := hu ▸ State.onIso_frame s _
    obtain ⟨params, streaks, fixed, st, assess, last, vPack⟩ :=
      Insulation.takeParams_facts s.iso ⟨decide (e = 1), pm, pf, w, x, c⟩ s.now
    rw [show s.iso.takeParams ⟨decide (e = 1), pm, pf, w, x, c⟩ s.now = u.iso by rw [hu]; rfl] at params streaks fixed st assess last vPack
    replace fixed : pm = .fixed → u.iso.profile = pf := fixed
    have runs : (u.iso.params.enabled && packAlive u.iso.vPack) = true ↔ e = 1 ∧ packAlive s.iso.vPack = true := by
      simp [params, vPack]
    have iso := State.isoSupervise_iso (s := u) (by rw [st]; exact still)
    rw [st] at iso
    have moved := taken.trans (State.isoSupervise_moved u)
    refine ⟨_, exec_ok serve rfl own, ?_, fun h => ?_, fun h => ?_, ?_, fun h hs => ?_, fun h hs => ?_, fun h hs => ?_, ?_, ?_⟩
    case refine_1 =>
      show u.isoSupervise.iso.params = _
      rw [iso, ← params]
      split_ifs <;> rfl
    case refine_2 =>
      show u.isoSupervise.iso.streaks = _
      rw [iso, ← streaks h]
      split_ifs
      · exact (streaks h).symm
      · rfl
      · rfl
      · exact (streaks h).symm
    case refine_3 =>
      show u.isoSupervise.iso.profile = _
      rw [iso, ← fixed h]
      split_ifs
      · simp [Insulation.leftOff, IsoParams.startProfile, params, h, fixed h]
      · rfl
      · rfl
      · rfl
    case refine_4 =>
      show u.isoSupervise.iso.st = .off ↔ _
      rw [iso]
      split_ifs with h hs hs
      · simpa [Insulation.leftOff] using runs.1 h
      · simpa [st, hs] using runs.1 h
      · exact ⟨fun _ => fun h' => h (runs.2 h'), fun _ => st.trans hs⟩
      · exact ⟨fun _ => fun h' => h (runs.2 h'), fun _ => rfl⟩
    case refine_5 =>
      show u.isoSupervise.iso.st = _ ∧ u.isoSupervise.iso.assess = _ ∧ u.isoSupervise.iso.source = _ ∧
        u.isoSupervise.iso.last = _ ∧ u.isoSupervise.iso.period = _ ∧ (_ → u.isoSupervise.iso.profile = _)
      rw [iso, if_pos (runs.2 h), if_pos hs]
      refine ⟨rfl, rfl, rfl, rfl, congrArg some (onlyChanges_now frame), fun auto => ?_⟩
      simp [Insulation.leftOff, IsoParams.startProfile, params, auto]
    case refine_6 =>
      show u.isoSupervise.iso.st = _ ∧ u.isoSupervise.iso.assess = _ ∧ u.isoSupervise.iso.last = _
      rw [iso, if_pos (runs.2 h), if_neg hs]
      exact ⟨st, assess, last⟩
    case refine_7 =>
      have stands : ¬ (u.iso.params.enabled && packAlive u.iso.vPack) = true := fun h' => h (runs.1 h')
      have enters := State.isoSupervise_enters stands (by rw [st]; exact hs) (by rw [st]; exact still)
      have told := (State.isoChange_tells (s := u) (f := Insulation.offed) (fun h' => hs (by rw [← st]; exact h'.1.symm))).1
      show u.isoSupervise.iso.assess = _ ∧ u.isoSupervise.iso.source = _ ∧ u.isoSupervise.iso.last = _ ∧
        u.isoSupervise.iso.period = _ ∧ u.isoSupervise.iso.listenTimer = _ ∧ u.isoSupervise.session.causes.searchHold = _
      refine ⟨?_, ?_, ?_, ?_, ?_, by rw [enters, told]; rfl⟩ <;> rw [iso, if_neg stands, if_neg hs] <;> rfl
    case refine_8 =>
      show u.isoSupervise.link.replies ++ _ = _
      rw [moved.onward.replies]
      rfl
    case refine_9 =>
      refine onlyChanges_replied (onlyChanges_trans frame ?_ (qs := [.iso, .session, .pins, .heating, .link, .budgetIn])) _ _ _
      by_cases h : (u.iso.params.enabled && packAlive u.iso.vPack) = true ↔ u.iso.st ≠ .off
      · rw [State.isoSupervise_stays h]
        exact onlyChanges_refl _ _
      · by_cases hr : (u.iso.params.enabled && packAlive u.iso.vPack) = true
        · rw [State.isoSupervise_leaves hr (by_contra fun hs => h ⟨fun _ => hs, fun _ => hr⟩)]
          exact State.isoChange_frame _ _
        · rw [State.isoSupervise_enters hr (fun hs => h ⟨fun hr' => absurd hr' hr, fun hs' => absurd hs hs'⟩) (by rw [st]; exact still)]
          exact State.isoChange_frame _ _
  case refine_4 =>
    refine exec_refused serve rfl ?_
    show s.ownSetSearchList l = _
    rw [State.ownSetSearchList, if_pos (by simpa [← searchListLegal_iff] using illegal)]
  case refine_5 =>
    refine exec_refused serve rfl ?_
    show s.ownSetSearchList l = _
    rw [State.ownSetSearchList, if_neg (by simpa [← searchListLegal_iff] using legal), if_pos searching]
  case refine_6 =>
    have own : State.owner (.setSearchList tag l) s = okWith (s.onIso fun x => { x with searchList := l }) [] := by
      show s.ownSetSearchList l = _
      rw [State.ownSetSearchList, if_neg (by simpa [← searchListLegal_iff] using legal), if_neg still]
    exact exec_ok serve rfl own
  case refine_7 =>
    refine exec_refused serve rfl ?_
    show s.ownClearIsolation a = _
    simp only [State.ownClearIsolation, if_neg ha, if_pos hr]
  case refine_8 =>
    refine exec_refused serve rfl ?_
    show s.ownClearIsolation a = _
    simp only [State.ownClearIsolation, if_neg (show ¬ a = 255 by omega), if_neg (show ¬ (a = 0 ∨ 11 < a) by omega), if_pos under]
  case refine_9 =>
    intro left
    have cleared : ∃ u, State.owner (.clearIsolation tag a) s = okWith (u.memoryChanged s.iso.memory) [] ∧
        u.iso = { s.iso with memory := left } ∧ onlyChanges [.iso, .heating, .stage, .budgetIn, .link] s u ∧
        State.Onward s u ∧
        ∀ b, (a ≠ 255 ∧ b = a) ∨ (a = 255 ∧ b ∈ s.iso.memory) → (s.node b).st = .active →
          (⟨.reconnect, b⟩ : StageEntry) ∈ u.stage.urgent := by
      by_cases all : a = 255
      · obtain ⟨iso, frame, onward, queued⟩ := State.foldl_forget s.iso.memory s
        refine ⟨_, ?_, ?_, frame, onward, fun b hb active => queued b (.inl ⟨?_, active⟩)⟩
        · show s.ownClearIsolation a = _
          simp only [State.ownClearIsolation, if_pos all]
        · rw [iso, show left = [] from if_pos all, List.filter_eq_nil_iff.2 (by simp)]
        · exact hb.elim (fun h => absurd all h.1) (·.2)
      · obtain ⟨h1, h2, under⟩ := ha.resolve_left all
        obtain ⟨frame, onward⟩ := State.forget_kept s a
        refine ⟨_, ?_, ?_, frame, onward, fun b hb active => ?_⟩
        · show s.ownClearIsolation a = _
          simp only [State.ownClearIsolation, if_neg all, if_neg (show ¬ (a = 0 ∨ 11 < a) by omega), if_neg under]
        · rw [State.forget_iso, show left = s.iso.memory.filter fun b => b != a from if_neg all]
        · obtain rfl : b = a := hb.elim (·.2) fun h => absurd h.1 all
          exact State.forget_queues active
    obtain ⟨u, own, iso, frame, onward, queued⟩ := cleared
    obtain ⟨iso', stage', told, frame', onward'⟩ := State.memoryChanged_facts u s.iso.memory
    rw [iso] at told
    refine ⟨_, exec_ok serve rfl own, iso'.trans iso, told, fun b hb active => ?_, ?_, ?_⟩
    · show _ ∈ (u.memoryChanged s.iso.memory).stage.urgent
      rw [stage']
      exact queued b hb active
    · show (u.memoryChanged s.iso.memory).link.replies ++ _ = _
      rw [onward'.replies, onward.replies]
      rfl
    · exact onlyChanges_replied (onlyChanges_trans frame frame') _ _ _

/-- Settles O41: a posted pack voltage by supervision, the listen window by the monitor's own report. -/
theorem monitorStateMoves : Obligations.MonitorStateMoves := by
  intro s run
  refine ⟨fun none => ?_, fun v rest posted => ?_, fun low high hs ht => ?_⟩
  case refine_1 =>
    show Host.Outcome.next (s.whenRun State.packVoltageEvent) = _
    rw [State.whenRun_run run, State.packVoltageEvent, none]
  case refine_2 =>
    intro alive y
    obtain ⟨u, hu⟩ : ∃ u : State, u = { s with isoIn := rest, iso := y } := ⟨_, rfl⟩
    have exec_eq : exec .packVoltagePosting s = .next u.isoSupervise := by
      show Host.Outcome.next (s.whenRun State.packVoltageEvent) = _
      rw [State.whenRun_run run, State.packVoltageEvent, posted, hu]
      rfl
    have frame : onlyChanges [.isoIn, .iso] s u := by simp [hu, onlyChanges]
    have st : u.iso.st = s.iso.st := by rw [hu]
    have iso : u.iso = y := by rw [hu]
    have taken : State.Moved u u.isoSupervise := State.isoSupervise_moved u
    have runs : (u.iso.params.enabled && packAlive u.iso.vPack) = true ↔ alive := by
      rw [iso, Bool.and_eq_true]
      refine and_congr Iff.rfl ?_
      cases v <;> simp [y, packAlive]
    have isoIn (w : State) (h : State.Moved u w) : w.isoIn = rest := by
      rw [onlyChanges_isoIn h.frame, hu]
    refine ⟨fun h => ?_, fun h hs => ?_, fun h hs => ?_, fun h hs => ?_⟩
    · rw [exec_eq, State.isoSupervise_stays, hu]
      rw [runs, st]
      exact h.elim (fun ⟨a, b⟩ => iff_of_true a b) fun ⟨a, b⟩ => iff_of_false a (not_not.2 b)
    · have leaves := State.isoSupervise_leaves (runs.2 h) (st.trans hs)
      refine ⟨_, exec_eq, isoIn _ taken, ?_, ?_, ?_⟩
      · rw [leaves, State.isoChange_iso, iso]
        simp only [Insulation.leftOff, IsoParams.startProfile, onlyChanges_now frame]
        rfl
      · rw [leaves]
        exact (State.isoChange_tells fun h' => by simp [st, hs, Insulation.leftOff] at h').2.2
      · rw [leaves]
        exact onlyChanges_trans frame (State.isoChange_frame _ _)
    · have hs' : s.iso.st ≠ .off ∧ s.iso.st ≠ .searching := by
        simp only [List.mem_cons, List.not_mem_nil, or_false] at hs
        rcases hs with hs | hs | hs <;> simp [hs]
      have enters := State.isoSupervise_enters (fun h' => h (runs.1 h')) (by rw [st]; exact hs'.1) (by rw [st]; exact hs'.2)
      have told := State.isoChange_tells (s := u) (f := Insulation.offed) fun h' => hs'.1 (by rw [← st]; exact h'.1.symm)
      refine ⟨_, exec_eq, isoIn _ taken, ?_, ?_, ?_, ?_⟩
      · rw [enters, State.isoChange_iso, iso]
        rfl
      · rw [enters, told.1]
        rfl
      · rw [enters]
        exact told.2.1
      · rw [enters]
        exact onlyChanges_trans frame (State.isoChange_frame _ _)
    · have aborts := State.isoSupervise_aborts (fun h' => h (runs.1 h')) (st.trans hs)
      have told := State.abortSearch_tells (s := u) (c := .off) (f := Insulation.offed) (st.trans hs) (by simp [Insulation.offed])
      have after := State.abortSearch_iso u .off Insulation.offed
      refine ⟨_, exec_eq, isoIn _ taken, ?_, ?_, ?_, ?_, ?_, ?_, fun a under active => ?_, ?_⟩
      · rw [aborts, after]; rfl
      · rw [aborts, after]; rfl
      · rw [aborts, after]; rfl
      · rw [aborts, after]; rfl
      · rw [aborts, after]; rfl
      · rw [aborts, told.1]; rfl
      · rw [aborts]
        exact State.abortSearch_queues .off Insulation.offed (by rw [iso]; exact under) (by rw [hu]; exact active)
      · exact onlyChanges_trans frame taken.frame
  case refine_3 =>
    intro foreign
    have exec_eq : exec (.listenWindowExpiry low high) s = .next (s.listenEnd low high) := by
      show Host.Outcome.next (s.whenRun fun s => s.listenEvent low high) = _
      rw [State.whenRun_run run, State.listenEvent, hs, Option.isSome_iff_ne_none.2 ht]
      rfl
    have after : (s.listenEnd low high).iso =
        let x := { s.iso with foreign := foreign, listenTimer := none }
        if (x.foreign || x.stationMon) = true then x.yielded else { x with st := .measuring, period := some s.now } :=
      State.isoChange_iso _ _
    refine ⟨_, exec_eq, fun yields => ?_, fun quiet silent => ?_, ?_, State.isoChange_frame _ _⟩
    · rw [after]
      refine (if_pos (by simpa using yields)).trans rfl
    · rw [after]
      refine (if_neg (by simp [quiet, silent])).trans ?_
      have same : s.iso.foreign = foreign := by
        have : s.iso.foreign = false := (Bool.or_eq_false_iff.1 quiet).1
        rw [this, quiet]
      rw [← same]
    · refine (State.isoChange_tells fun h => ?_).2.2
      have moved := h.1
      dsimp only at moved
      split at moved <;> simp [hs, Insulation.yielded] at moved

end Sys2Proof.Proofs
end

section
/-! The fault search: how it starts, what a step and its timeouts leave, and its end without a culprit (R96 to R100). -/

-- One declaration at a time: each thread the elaborator opens takes its whole stack from the memory limit.
set_option Elab.async false

namespace Sys2Proof.Machine

open Safety

/-- R97: the search record with the entry at `a` under test. -/
def Search.testing (x : Search) (a : Nat) : Search :=
  { x with under := some a, phase := some .setpointWait, accepted := false, discarded := none, first := none, second := none }

/-- R97: the search record while ISOLATE for the branch under test is on its way. -/
def Search.isolating (x : Search) (now : Nat) : Search :=
  { x with phase := some .isolateWait, accepted := false, confirmTimer := some now }

/-- R99: the search record past the entry under the cursor. -/
def Search.stepOver (x : Search) : Search :=
  { x with under := none, phase := none, accepted := false, cursor := x.cursor + 1, confirmTimer := none,
           deadlineTimer := none, reconnectTimer := none }

/-- R99: the search record while the branch is being reconnected. -/
def Search.reconnecting (x : Search) (now : Nat) : Search :=
  { x with phase := some .reconnectWait, confirmTimer := none, deadlineTimer := none, reconnectTimer := some now }

/-- R96: the search record of a search that starts. -/
def searchBegun (x : Insulation) (o : SearchOrigin) : Search :=
  { outcome := .running, origin := o, entries := x.searchList, marks := x.searchList.map fun _ => Mark.pending }

namespace State

theorem onSearch_frame (s : State) (f : Search → Search) : onlyChanges [.iso] s (s.onSearch f) := onIso_frame s _

theorem markEntry_frame (s : State) (m : Mark) : onlyChanges [.iso] s (s.markEntry m) := onIso_frame s _

/-- R14, R16: a hold that the monitor newly reports pauses a session that draws. -/
theorem isoChange_pauses {s : State} {f : Insulation → Insulation}
    (h : ¬ ((f s.iso).st = s.iso.st ∧ (f s.iso).assess = s.iso.assess ∧ (f s.iso).source = s.iso.source))
    (hold : (f s.iso).hold = true) (draws : s.session.st = .active) (free : s.session.causes.searchHold = false) :
    (s.isoChange f).session.st = .paused := by
  have step : s.isoChange f = (((s.onIso f).setCauses
      { (s.onIso f).session.causes with searchHold := (f s.iso).hold }).postBudget (.searchHold (f s.iso).hold)).raise
        .insulation := by
    unfold isoChange
    dsimp only
    exact if_neg h
  rw [step, hold]
  obtain ⟨-, -, -, moves, -⟩ := setCauses_session (s.onIso f) { s.session.causes with searchHold := true }
  have moved := moves (fun same => by simpa [free] using congrArg PauseSet.searchHold same) (.inl draws)
  rw [onlyChanges_session (raise_frame _ _)]
  refine moved.trans (if_neg ?_)
  simp [PauseSet.isEmpty]

/-! ### The branch under test (R97) -/

theorem mem_queueIsolate {s : State} {a : Nat} (h : (s.node a).st = .active) :
    (⟨.isolate, a⟩ : StageEntry) ∈ (s.queueIsolate a).stage.urgent := by
  rw [queueIsolate, h, show (NodeState.active == NodeState.active) = true from rfl, doIf_true, (heatIsolate_heated _ a).commands.urgent]
  exact mem_queueUrgent .isolate h

theorem isolateNow_iso (s : State) (a : Nat) :
    (s.isolateNow a).iso = { s.iso with search := s.iso.search.isolating s.now } := by
  show { (s.queueIsolate a).iso with search := (s.queueIsolate a).iso.search.isolating s.now } = _
  rw [onlyChanges_iso (queueIsolate_kept s a).1]

theorem isolateNow_frame (s : State) (a : Nat) :
    onlyChanges [.iso, .heating, .stage, .budgetIn, .link] s (s.isolateNow a) :=
  onlyChanges_trans (queueIsolate_kept s a).1 (onSearch_frame _ _)

theorem isolateNow_queues {s : State} {a : Nat} (h : (s.node a).st = .active) :
    (⟨.isolate, a⟩ : StageEntry) ∈ (s.isolateNow a).stage.urgent := mem_queueIsolate h

theorem beginTest_eq (s : State) (a : Nat) :
    s.beginTest a =
      if a ≤ 3 ∧ 0 < (s.node a).commanded then s.onSearch fun x => x.testing a
      else (s.onSearch fun x => x.testing a).isolateNow a := rfl

theorem skipsEntry_eq_false {s : State} {a : Nat} (active : (s.node a).st = .active) (joined : (s.node a).isolated = false)
    (free : a ∉ s.iso.memory) : s.skipsEntry a = false := by
  simp [skipsEntry, active, joined, free]

/-- R97: the first entry that can be tested is. -/
theorem searchFrom_tests {s : State} {a : Nat} (rest : List Nat) (h : s.skipsEntry a = false) :
    searchFrom (a :: rest) s = s.beginTest a := by
  rw [searchFrom, h]
  exact if_neg (by simp)

/-- R97: entries of nodes that are not ACTIVE are skipped one by one, to the end of the search. -/
theorem searchFrom_skips (l : List Nat) (s : State) (pre : List Mark) (marks : s.iso.search.marks = pre ++ l.map fun _ => .pending)
    (cursor : s.iso.search.cursor = pre.length) (gone : ∀ a ∈ l, (s.node a).st ≠ .active) :
    searchFrom l s =
      (s.onSearch fun x => { x with marks := pre ++ l.map fun _ => .skipped, cursor := pre.length + l.length }).searchNotFound := by
  induction l generalizing s pre with
  | nil =>
    rw [searchFrom]
    congr 1
    simp only [List.map_nil, List.append_nil, List.length_nil, Nat.add_zero] at marks ⊢
    rw [← cursor, ← marks]
    rfl
  | cons a l ih =>
    have skips : s.skipsEntry a = true := by simp [skipsEntry, gone a]
    rw [searchFrom, if_pos skips, ih _ (pre ++ [.skipped])]
    · simp only [markEntry, onSearch, onIso, List.append_assoc, List.singleton_append, List.map_cons, List.length_append,
        List.length_cons, List.length_nil]
      rw [show pre.length + (0 + 1) + l.length = pre.length + (l.length + 1) by omega]
    · simp [markEntry, onSearch, onIso, marks, cursor]
    · simp [markEntry, onSearch, onIso, cursor]
    · exact fun b hb => gone b (List.mem_cons_of_mem a hb)

/-! ### The end of a step (R99) -/

theorem nextStep_eq (s : State) :
    s.nextStep = searchFrom (s.iso.searchList.drop (s.iso.search.cursor + 1)) (s.onSearch Search.stepOver) := rfl

theorem reconnectStep_iso (s : State) (a : Nat) :
    (s.reconnectStep a).iso = { s.iso with search := s.iso.search.reconnecting s.now } := by
  show { (s.queueReconnect a).iso with search := (s.queueReconnect a).iso.search.reconnecting s.now } = _
  rw [onlyChanges_iso (queueReconnect_kept s a).1]

theorem reconnectStep_frame (s : State) (a : Nat) :
    onlyChanges [.iso, .heating, .stage, .budgetIn, .link] s (s.reconnectStep a) :=
  onlyChanges_trans (queueReconnect_kept s a).1 (onSearch_frame _ _)

theorem skipAndReconnect_active {s : State} {a : Nat} (under : s.iso.search.under = some a) (active : (s.node a).st = .active) :
    s.skipAndReconnect = (s.markEntry .skipped).reconnectStep a := by
  rw [skipAndReconnect, under]
  exact if_pos active

theorem skipAndReconnect_gone {s : State} {a : Nat} (under : s.iso.search.under = some a) (gone : (s.node a).st ≠ .active) :
    s.skipAndReconnect = (s.markEntry .skipped).nextStep := by
  rw [skipAndReconnect, under]
  exact if_neg gone

/-! ### The end of a search (R100) -/

/-- R100: NOT_FOUND with an assessment other than FAULT. -/
theorem searchNotFound_graded {s : State} (h : s.iso.assess ≠ .fault) :
    s.searchNotFound = s.isoChange fun x => (x.searchOver .notFound none none).afterSearch := by
  have assess : (s.isoChange fun x => (x.searchOver .notFound none none).afterSearch).iso.assess = s.iso.assess := by
    rw [isoChange_iso, Insulation.afterSearch]
    split <;> rfl
  rw [searchNotFound]
  simp [doIf_eq, assess, h]

end State

theorem Insulation.afterSearch_facts (x : Insulation) :
    x.afterSearch.st = (if x.dcContext && x.stationMon then .yielded else .measuring) ∧ x.afterSearch.search = x.search ∧
      x.afterSearch.assess = x.assess := by
  unfold Insulation.afterSearch
  by_cases h : x.dcContext ∧ x.stationMon
  · simp [h, Insulation.yielded]
  · simp only [if_neg h, and_true]
    rw [if_neg (by simpa using h)]

end Sys2Proof.Machine

namespace Sys2Proof.Proofs

open Machine Safety

/-- R97: what a step that tests `b` at once leaves, from a search record that has come to it. -/
theorem tests_now {u : State} {b : Nat} (rest : List Nat) (active : (u.node b).st = .active) (joined : (u.node b).isolated = false)
    (free : b ∉ u.iso.memory) (rests : 3 < b ∨ (u.node b).commanded = 0) :
    ∃ t, State.searchFrom (b :: rest) u = t ∧ t.iso = { u.iso with search := (u.iso.search.testing b).isolating u.now } ∧
      (⟨.isolate, b⟩ : StageEntry) ∈ t.stage.urgent ∧ State.Onward u t ∧
      onlyChanges [.iso, .heating, .stage, .link, .budgetIn] u t := by
  have now : ¬ (b ≤ 3 ∧ 0 < (u.node b).commanded) := by omega
  have step : State.searchFrom (b :: rest) u = (u.onSearch fun x => x.testing b).isolateNow b := by
    rw [State.searchFrom_tests rest (State.skipsEntry_eq_false active joined free), State.beginTest_eq, if_neg now]
  refine ⟨_, step, State.isolateNow_iso _ _, State.isolateNow_queues (by exact active), ?_, ?_⟩
  · exact (State.Onward.of_frame (State.onSearch_frame u _)).trans (State.isolateNow_onward _ _)
  · exact onlyChanges_trans (State.onSearch_frame u _) (State.isolateNow_frame _ _)

/-- R100: what the end of a search without a culprit leaves, with an assessment other than FAULT. -/
theorem ends_notFound {u : State} (h : u.iso.assess ≠ .fault) :
    ∃ t, u.searchNotFound = t ∧ t.iso = (u.iso.searchOver .notFound none none).afterSearch ∧
      (u.iso.st = .searching → t.session.causes.searchHold = (t.iso).hold) ∧
      onlyChanges [.iso, .session, .pins, .heating, .link, .budgetIn] u t := by
  refine ⟨_, State.searchNotFound_graded h, State.isoChange_iso _ _, fun hs => ?_, State.isoChange_frame _ _⟩
  refine (State.isoChange_tells fun same => ?_).1.trans (by rw [State.isoChange_iso])
  have still := same.1
  rw [(Insulation.afterSearch_facts _).1, hs] at still
  split at still <;> simp at still

/-- Settles O43: the two ways a step ends early, and the two ways a search goes on. -/
theorem searchTimeoutsStep : Obligations.SearchTimeoutsStep := by
  intro s a run under q skipped waits goesOn
  have waiting (c : Instr) (step : exec c s = .next s.skipAndReconnect) (active : (s.node a).st = .active) : waits c := by
    refine ⟨_, step.trans (by rw [State.skipAndReconnect_active under active]), State.reconnectStep_iso _ _, ?_, ?_⟩
    · exact State.mem_queueReconnect (s := s.markEntry .skipped) active
    · exact onlyChanges_trans (State.markEntry_frame s _) (State.reconnectStep_frame _ _)
  have going (c : Instr) (marks : List Mark) (u : State) (step : exec c s = .next u.nextStep) (frame : onlyChanges [.iso] s u)
      (iso : u.iso = { s.iso with search := { q with marks := marks } }) : goesOn c marks := by
    have stage := onlyChanges_stage frame
    have node (b : Nat) : u.node b = s.node b := State.node_congr (congrArg Stage.nodes stage) b
    have now := onlyChanges_now frame
    have list : u.iso.searchList.drop (u.iso.search.cursor + 1) = s.iso.searchList.drop (q.cursor + 1) := by rw [iso]
    refine ⟨fun b rest next active joined free rests => ?_, fun last graded => ?_⟩
    · obtain ⟨t, ht, hiso, queued, -, kept⟩ := tests_now (u := u.onSearch Search.stepOver) rest (b := b)
        (by rw [← node] at active; exact active) (by rw [← node] at joined; exact joined)
        (by rw [show (u.onSearch Search.stepOver).iso.memory = s.iso.memory by simp [State.onSearch, State.onIso, iso]]; exact free)
        (by rw [← node] at rests; exact rests)
      have passed : (u.onSearch Search.stepOver).iso = { s.iso with search := { q with marks := marks }.stepOver } := by
        simp [State.onSearch, State.onIso, iso]
      have hnow : (u.onSearch Search.stepOver).now = s.now := now
      rw [passed, hnow] at hiso
      refine ⟨t, step.trans (by rw [State.nextStep_eq, list, next, ht]), ?_⟩
      rw [hiso]
      have kept' := onlyChanges_trans (State.onSearch_frame u Search.stepOver) kept
        (rs := [.iso, .heating, .stage, .link, .budgetIn])
      exact ⟨rfl, rfl, rfl, rfl, rfl, rfl, rfl, rfl, queued, onlyChanges_trans frame kept'⟩
    · have passed : (u.onSearch Search.stepOver).iso = { s.iso with search := { q with marks := marks }.stepOver } := by
        simp [State.onSearch, State.onIso, iso]
      obtain ⟨t, ht, hiso, -, kept⟩ := ends_notFound (u := u.onSearch Search.stepOver) (by rw [passed]; exact graded)
      rw [passed] at hiso
      obtain ⟨st, search, -⟩ := Insulation.afterSearch_facts
        ({ s.iso with search := { q with marks := marks }.stepOver }.searchOver .notFound none none)
      rw [← hiso] at st search
      refine ⟨t, step.trans (by rw [State.nextStep_eq, list, last]; exact congrArg _ ht), ?_⟩
      rw [search, st]
      exact ⟨rfl, rfl, rfl, rfl, onlyChanges_trans frame (onlyChanges_trans (State.onSearch_frame u _) kept
        (rs := [.iso, .session, .pins, .heating, .link, .budgetIn]))⟩
  have confirm (h : q.confirmTimer ≠ none) : exec .isolateConfirmTimeout s = .next s.skipAndReconnect := by
    show Host.Outcome.next (s.whenRun State.confirmTimeout) = _
    rw [State.whenRun_run run, State.confirmTimeout, State.doIf_eq, if_pos (Option.isSome_iff_ne_none.2 h)]
  have deadline (h : q.deadlineTimer ≠ none) : exec .resultDeadlineExpiry s = .next s.skipAndReconnect := by
    show Host.Outcome.next (s.whenRun State.deadlineEvent) = _
    rw [State.whenRun_run run, State.deadlineEvent, State.doIf_eq, if_pos (Option.isSome_iff_ne_none.2 h)]
  have wait (h : q.reconnectTimer ≠ none) : exec .reconnectWaitTimeout s = .next s.nextStep := by
    show Host.Outcome.next (s.whenRun State.reconnectTimeout) = _
    rw [State.whenRun_run run, State.reconnectTimeout, State.doIf_eq, if_pos (Option.isSome_iff_ne_none.2 h)]
  refine ⟨fun h active => waiting _ (confirm h) active, fun h active => waiting _ (deadline h) active, fun h gone => ?_,
    fun h => going _ _ s (wait h) (onlyChanges_refl _ s) rfl⟩
  exact going _ _ _ ((confirm h).trans (by rw [State.skipAndReconnect_gone under gone])) (State.markEntry_frame s _) rfl

/-- Settles O40: the session held, then the first entry that can be tested, or the end. -/
theorem searchStarts : Obligations.SearchStarts := by
  intro s tag serve starts
  have taken (h : starts) (some : s.iso.searchList ≠ []) :
      State.owner (.startSearch tag) s = okWith (s.beginSearch .host) [] := by
    obtain ⟨hs, ha⟩ := h
    exact if_pos ⟨hs, ha, some⟩
  obtain ⟨u, hu⟩ : ∃ u, u = s.isoChange fun x =>
    { x with st := .searching, streaks := x.streaks.profileOnly, search := searchBegun x .host } := ⟨_, rfl⟩
  have begun : s.beginSearch .host = State.searchFrom s.iso.searchList u := by
    have list : u.iso.searchList = s.iso.searchList := by rw [hu, State.isoChange_iso]
    rw [← list, hu]
    rfl
  have iso : u.iso = { s.iso with
      st := .searching, streaks := s.iso.streaks.profileOnly, search := searchBegun s.iso .host } := by
    rw [hu, State.isoChange_iso]
  have frame : onlyChanges [.iso, .session, .pins, .heating, .link, .budgetIn] s u := hu ▸ State.isoChange_frame s _
  have node (b : Nat) : u.node b = s.node b := State.node_congr (congrArg Stage.nodes (onlyChanges_stage frame)) b
  have now := onlyChanges_now frame
  refine ⟨fun h => exec_refused serve rfl (if_neg ?_), fun a rest h list active joined free => ?_, fun h warning some gone => ?_⟩
  case refine_1 => tauto
  case refine_2 =>
    have changed : ¬ (MonState.searching = s.iso.st ∧ s.iso.assess = s.iso.assess ∧ s.iso.source = s.iso.source) := by
      simp [h.1]
    obtain ⟨hold, posted, noticed⟩ := State.isoChange_tells (s := s) (f := fun x =>
      { x with st := .searching, streaks := x.streaks.profileOnly, search := searchBegun x .host }) changed
    have pauses := State.isoChange_pauses (s := s) (f := fun x =>
      { x with st := .searching, streaks := x.streaks.profileOnly, search := searchBegun x .host }) changed rfl
    rw [← hu] at hold posted noticed pauses
    have onward : State.Onward s u := hu ▸ (State.isoChange_moved s _).onward
    have replies := onward.replies
    have own := taken h (by simp [list])
    rw [begun, list] at own
    have tested : ∃ w x, State.searchFrom (a :: rest) u = w ∧
        w.iso = { u.iso with search := { u.iso.search.testing a with phase := x, confirmTimer := w.iso.search.confirmTimer } } ∧
        (3 < a ∨ (s.node a).commanded = 0 → x = some .isolateWait ∧ w.iso.search.confirmTimer = some s.now ∧
          (⟨.isolate, a⟩ : StageEntry) ∈ w.stage.urgent) ∧
        (a ≤ 3 → (s.node a).commanded ≠ 0 → x = some .setpointWait ∧ w.stage = s.stage) ∧
        State.Onward u w ∧ onlyChanges [.iso, .heating, .stage, .link, .budgetIn] u w := by
      have stage : u.stage = s.stage := onlyChanges_stage frame
      have free' : a ∉ u.iso.memory := by rw [iso]; exact free
      by_cases rests : 3 < a ∨ (s.node a).commanded = 0
      · obtain ⟨w, hw, hiso, queued, onward, kept⟩ := tests_now rest (u := u) (b := a) (by rw [node]; exact active)
          (by rw [node]; exact joined) free' (by rw [node]; exact rests)
        refine ⟨w, some .isolateWait, hw, ?_, fun _ => ⟨rfl, ?_, queued⟩, fun h3 hc => absurd rests (by omega), onward, kept⟩
        · rw [hiso]
          rfl
        · rw [hiso]
          exact congrArg some now
      · refine ⟨u.onSearch fun x => x.testing a, some .setpointWait, ?_, rfl, fun h => absurd h rests,
          fun _ _ => ⟨rfl, stage⟩, State.Onward.of_frame (State.onSearch_frame u _),
          onlyChanges_mono (State.onSearch_frame u _)⟩
        rw [State.searchFrom_tests rest (State.skipsEntry_eq_false (by rw [node]; exact active) (by rw [node]; exact joined) free'),
          State.beginTest_eq, node, if_pos (by omega)]
    obtain ⟨w, x, hw, hiso, now', waits, onward', kept⟩ := tested
    rw [hw] at own
    have session := onlyChanges_session kept
    refine ⟨_, exec_ok serve rfl own, ?_⟩
    show w.iso.st = _ ∧ w.iso.assess = _ ∧ w.iso.search.outcome = _ ∧ w.iso.search.origin = _ ∧ w.iso.search.cursor = _ ∧
      w.iso.search.under = _ ∧ w.iso.search.marks = _ ∧
      (_ → w.iso.search.phase = _ ∧ w.iso.search.confirmTimer = _ ∧ _ ∈ w.stage.urgent) ∧
      (_ → _ → w.iso.search.phase = _ ∧ w.stage = _) ∧ w.session.causes.searchHold = _ ∧
      (_ → _ → w.session.st = _) ∧ _ ∈ w.budgetIn ∧ _ ∈ w.link.notices ∧ w.link.replies ++ _ = _ ∧ _
    have phase : w.iso.search.phase = x := by rw [hiso]
    rw [session, phase, onward'.replies, replies]
    refine ⟨?_, ?_, ?_, ?_, ?_, ?_, ?_, now', waits, hold, fun draws free => pauses draws free, onward'.budgetIn.subset posted,
      onward'.notices _ noticed, rfl, ?_⟩
    · rw [hiso, iso]
    · rw [hiso, iso]
    · rw [hiso, iso]; rfl
    · rw [hiso, iso]; rfl
    · rw [hiso, iso]; rfl
    · rw [hiso]; rfl
    · rw [hiso, iso]; rfl
    · exact onlyChanges_replied (onlyChanges_trans frame kept) _ _ _
  case refine_3 =>
    have own := taken h some
    have marks : u.iso.search.marks = [] ++ s.iso.searchList.map fun _ => .pending := by rw [iso]; rfl
    rw [begun, State.searchFrom_skips s.iso.searchList u [] marks (by rw [iso]; rfl) fun b hb => by rw [node]; exact gone b hb] at own
    obtain ⟨v, hv⟩ : ∃ v, v = u.onSearch fun x =>
        { x with marks := ([] ++ s.iso.searchList.map fun _ => .skipped : List Mark)
                 cursor := ([] : List Mark).length + s.iso.searchList.length } := ⟨_, rfl⟩
    rw [← hv] at own
    have searching : v.iso.st = .searching := by rw [hv]; exact congrArg Insulation.st iso
    have assess : v.iso.assess = .warning := by rw [hv]; exact (congrArg Insulation.assess iso).trans warning
    have context : v.iso.dcContext = s.iso.dcContext ∧ v.iso.stationMon = s.iso.stationMon := by
      rw [hv]
      exact ⟨(congrArg Insulation.dcContext iso :), (congrArg Insulation.stationMon iso :)⟩
    obtain ⟨t, ht, hiso, hold, kept⟩ := ends_notFound (u := v) (by simp [assess])
    obtain ⟨st, search, assess'⟩ := Insulation.afterSearch_facts (v.iso.searchOver .notFound none none)
    rw [← hiso] at st search assess'
    rw [ht] at own
    refine ⟨_, exec_ok serve rfl own, ?_⟩
    show t.iso.st = _ ∧ t.iso.search.outcome = _ ∧ t.iso.search.under = _ ∧ t.iso.search.phase = _ ∧ t.iso.search.marks = _ ∧
      t.session.causes.searchHold = _ ∧ _
    rw [search]
    refine ⟨?_, rfl, rfl, rfl, ?_, ?_, ?_⟩
    · rw [st, ← context.1, ← context.2]
      rfl
    · rw [hv]
      rfl
    · rw [hold searching, Insulation.hold, assess', st]
      show ((if _ then _ else _ : MonState) == .searching || v.iso.assess == .fault || v.iso.assess == .critical) = false
      rw [assess]
      split <;> rfl
    · have set : onlyChanges [.iso] u v := hv ▸ State.onSearch_frame u _
      exact onlyChanges_replied (onlyChanges_trans frame (onlyChanges_trans set kept
        (rs := [.iso, .session, .pins, .heating, .link, .budgetIn]))) _ _ _

end Sys2Proof.Proofs
end

section
/-! The node table: what a change at one node leaves of the others, and the roster (R113 to R115). -/

-- One declaration at a time: each thread the elaborator opens takes its whole stack from the memory limit.
set_option Elab.async false

namespace Sys2Proof.Machine

open Safety

namespace State

/-! ### What the heating controller is told of a node -/

theorem Heated.trans {s t u : State} (h : Heated s t) (h' : Heated t u) : Heated s u :=
  ⟨h.commands.trans h'.commands, onlyChanges_trans h.frame h'.frame, h.onward.trans h'.onward⟩

theorem atHeater_heated (s : State) (a : Nat) (f : Zone → Zone) : Heated s (s.atHeater a fun n s => s.zoneStep n f) := by
  unfold atHeater
  split
  · exact zoneStep_heated s _ _
  · exact Heated.refl s

theorem heatNodeState_heated (s : State) (a : Nat) (st : NodeState) : Heated s (s.heatNodeState a st) := atHeater_heated s a _

theorem heatRollCall_heated (s : State) (a : Nat) (st : NodeState) (r : Nat) : Heated s (s.heatRollCall a st r) :=
  atHeater_heated s a _

theorem heatReply_heated (s : State) (a : Nat) (temp : Option HalfDeg) (b c d : Bool) : Heated s (s.heatReply a temp b c d) :=
  atHeater_heated s a _

theorem heatConfigure_heated (s : State) (kinds : List NodeKind) : Heated s (s.heatConfigure kinds) := by
  obtain ⟨-, commands, frame, onward⟩ := heatStep_stepped s [] [] false fun h =>
    { h with zones := configureZones (kinds.drop 3) 0 h.zones }
  exact ⟨commands, frame, onward⟩

theorem heatConfigure_zones (s : State) (kinds : List NodeKind) :
    (s.heatConfigure kinds).heating.zones = (configureZones (kinds.drop 3) 0 s.heating.zones).map Zone.refresh := by
  obtain ⟨rows, -, -, -⟩ := heatStep_stepped s [] [] false fun h =>
    { h with zones := configureZones (kinds.drop 3) 0 h.zones }
  obtain ⟨zones, -⟩ := rows.fields
  rw [heatConfigure, zones]

theorem postCharger_heated (s : State) (a : Nat) : Heated s (s.postCharger a) where
  commands := Commands.of_stage (onlyChanges_stage (postCharger_frame s a))
  frame := onlyChanges_mono (postCharger_frame s a)
  onward := (Onward.refl s).doIf _ _ fun t => Onward.postBudget t _

theorem raise_heated (s : State) (k : NoticeKind) : Heated s (s.raise k) where
  commands := Commands.of_stage rfl
  frame := onlyChanges_mono (raise_frame s k)
  onward := Onward.raise s k

/-- R113: a node's new state told to the heating controller, the budget unit and the host. -/
theorem told_heated (s : State) (a : Nat) (st : NodeState) :
    Heated s (((s.heatNodeState a st).postCharger a).raise .stage) :=
  ((heatNodeState_heated s a st).trans (postCharger_heated _ a)).trans (raise_heated _ _)

theorem zoneStep_zones_length (s : State) (n : Nat) (f : Zone → Zone) :
    (s.zoneStep n f).heating.zones.length = s.heating.zones.length := by
  cases n with
  | zero => rfl
  | succ i =>
    obtain ⟨rows, -, -, -⟩ := heatStep_stepped s [] [] false fun h => { h with zones := h.zones.modify i f }
    obtain ⟨zones, -⟩ := rows.fields
    rw [show s.zoneStep (i + 1) f = s.heatStep [] [] false fun h => { h with zones := h.zones.modify i f } from rfl, zones]
    simp

theorem told_zones_length (s : State) (a : Nat) (st : NodeState) :
    (((s.heatNodeState a st).postCharger a).raise .stage).heating.zones.length = s.heating.zones.length := by
  rw [onlyChanges_heating (raise_frame _ _), onlyChanges_heating (postCharger_frame _ _), heatNodeState, atHeater]
  split
  · exact zoneStep_zones_length s _ _
  · rfl

/-- A node that is not ACTIVE and has no entry gets none from setpoints written. -/
theorem Commands.noEntry {s t : State} (h : Commands s t) {a : Nat} (hs : (s.node a).st ≠ .active)
    (none : ∀ e ∈ s.stage.normal, e.addr ≠ a) : ∀ e ∈ t.stage.normal, e.addr ≠ a := by
  obtain ⟨l, hl, active⟩ := h.normal
  intro e he ha
  rw [hl, List.mem_append] at he
  rcases he with he | he
  · exact none e he ha
  · exact hs (ha ▸ (active e he).2)

/-! ### A change at one node -/

/-- What a change at the node `a` leaves: the other nodes but for their commanded setpoints, their entries but for SETPOINTs of
ACTIVE nodes, and every other block but for what the node's state is told to. -/
structure Elsewhere (a : Nat) (s t : State) : Prop where
  others : ∀ b, b ≠ a → ∃ w, t.node b = { s.node b with commanded := w }
  length : t.stage.nodes.length = s.stage.nodes.length
  normal_of : ∀ e ∈ t.stage.normal, e ∈ s.stage.normal ∨ e.addr = a ∨ (s.node e.addr).st = .active
  normal_kept : ∀ e ∈ s.stage.normal, e.addr ≠ a → e ∈ t.stage.normal
  urgent_of : ∀ e ∈ t.stage.urgent, e ∈ s.stage.urgent ∨ e.addr = a
  frame : onlyChanges [.heating, .stage, .budgetIn, .link] s t
  onward : Onward s t

namespace Elsewhere

variable {a : Nat} {s t u : State}

theorem refl (a : Nat) (s : State) : Elsewhere a s s :=
  ⟨fun _ _ => ⟨_, rfl⟩, rfl, fun _ h => .inl h, fun _ h _ => h, fun _ h => .inl h, onlyChanges_refl _ s, Onward.refl s⟩

theorem trans (h : Elsewhere a s t) (k : Elsewhere a t u) : Elsewhere a s u where
  others b hb := by
    obtain ⟨w, hw⟩ := h.others b hb
    obtain ⟨w', hw'⟩ := k.others b hb
    exact ⟨w', by rw [hw', hw]⟩
  length := k.length.trans h.length
  normal_of e he := by
    rcases k.normal_of e he with he | ha | active
    · exact h.normal_of e he
    · exact .inr (.inl ha)
    · by_cases ha : e.addr = a
      · exact .inr (.inl ha)
      · obtain ⟨w, hw⟩ := h.others e.addr ha
        rw [hw] at active
        exact .inr (.inr active)
  normal_kept e he ha := k.normal_kept e (h.normal_kept e he ha) ha
  urgent_of e he := by
    rcases k.urgent_of e he with he | ha
    · exact h.urgent_of e he
    · exact .inr ha
  frame := onlyChanges_trans h.frame k.frame
  onward := h.onward.trans k.onward

theorem of_heated (h : Heated s t) : Elsewhere a s t where
  others b _ := h.commands.rows b
  length := h.commands.length
  normal_of e he := by
    obtain ⟨l, hn, active⟩ := h.commands.normal
    rw [hn, List.mem_append] at he
    exact he.imp id fun he => .inr (active e he).2
  normal_kept e he _ := by
    obtain ⟨l, hn, -⟩ := h.commands.normal
    rw [hn]
    exact List.mem_append_left _ he
  urgent_of e he := .inl (by rwa [h.commands.urgent] at he)
  frame := h.frame
  onward := h.onward

theorem onNode (s : State) (a : Nat) (f : Node → Node) : Elsewhere a s (s.onNode a f) where
  others b hb := ⟨(s.node b).commanded, by rw [node_onNode_ne s b a f hb]⟩
  length := onNode_length s a f
  normal_of e he := by
    cases a <;> exact .inl he
  normal_kept e he _ := by
    cases a <;> exact he
  urgent_of e he := by
    cases a <;> exact .inl he
  frame := onlyChanges_mono (onNode_frame s a f)
  onward := Onward.of_frame (onNode_frame s a f)

theorem dropEntries (s : State) (a : Nat) : Elsewhere a s (s.dropEntries a) where
  others b _ := ⟨_, rfl⟩
  length := rfl
  normal_of e he := .inl (List.mem_of_mem_filter he)
  normal_kept e he ha := List.mem_filter.2 ⟨he, by simpa using ha⟩
  urgent_of e he := .inl (List.mem_of_mem_filter he)
  frame := onlyChanges_mono (dropEntries_frame s a)
  onward := Onward.of_frame (dropEntries_frame s a)

theorem queueNormal (s : State) (c : StageCmd) (a : Nat) : Elsewhere a s (s.queueNormal c a) where
  others b _ := ⟨(s.node b).commanded, by rw [node_congr (queueNormal_nodes s c a)]⟩
  length := by rw [queueNormal_nodes]
  normal_of e he := by
    simp only [State.queueNormal, onStage] at he
    split at he
    · exact .inl he
    · rcases List.mem_append.1 he with he | he
      · exact .inl he
      · exact .inr (.inl (by simp_all))
  normal_kept e he _ := by
    simp only [State.queueNormal, onStage]
    split
    · exact he
    · exact List.mem_append_left _ he
  urgent_of e he := by
    simp only [State.queueNormal, onStage] at he
    split at he <;> exact .inl he
  frame := onlyChanges_mono (queueNormal_frame s c a)
  onward := Onward.of_frame (queueNormal_frame s c a)

end Elsewhere

theorem mem_queueNormal (s : State) (c : StageCmd) (a : Nat) : (⟨c, a⟩ : StageEntry) ∈ (s.queueNormal c a).stage.normal := by
  simp only [queueNormal, onStage]
  split
  · assumption
  · simp

theorem isoNodeLeft_idle {s : State} {a : Nat} (h : ¬ (s.iso.st = .searching ∧ s.iso.search.under = some a)) :
    s.isoNodeLeft a = s := if_neg h

/-- R113: a node that leaves the link, by the change `f` of its row, while no search tests it. -/
def left (s : State) (a : Nat) (st : NodeState) (f : Node → Node) : State :=
  (((((s.dropEntries a).onNode a f).heatNodeState a st).postCharger a).raise .stage)

theorem leaveActive_left {s : State} {a : Nat} (h : ¬ (s.iso.st = .searching ∧ s.iso.search.under = some a)) (st : NodeState) :
    s.leaveActive a st =
      s.left a st fun n =>
        { n with st := st, pollTimer := none, refreshTimer := none, temp := none, headroom := 0, acked := none } := by
  rw [leaveActive, isoNodeLeft_idle, left]
  rw [onlyChanges_iso (postCharger_frame _ _), onlyChanges_iso (heatNodeState_heated _ a st).frame,
    onlyChanges_iso (onNode_frame _ _ _)]
  exact h

theorem left_elsewhere (s : State) (a : Nat) (st : NodeState) (f : Node → Node) : Elsewhere a s (s.left a st f) :=
  ((Elsewhere.dropEntries s a).trans (Elsewhere.onNode _ a f)).trans (Elsewhere.of_heated (told_heated _ a st))

theorem dropped_node {s : State} {a : Nat} (ha : 1 ≤ a) (hl : a ≤ s.stage.nodes.length) (f : Node → Node) :
    ((s.dropEntries a).onNode a f).node a = f (s.node a) := node_onNode_self (s.dropEntries a) a f ha hl

theorem left_node {s : State} {a : Nat} (ha : 1 ≤ a) (hl : a ≤ s.stage.nodes.length) (st : NodeState) (f : Node → Node) :
    ∃ w, (s.left a st f).node a = { f (s.node a) with commanded := w } := by
  obtain ⟨w, hw⟩ := (told_heated ((s.dropEntries a).onNode a f) a st).commands.rows a
  rw [dropped_node ha hl f] at hw
  exact ⟨w, hw⟩

/-- R113, R114: a node that is not ACTIVE keeps no entry. -/
theorem left_noEntry {s : State} {a : Nat} (ha : 1 ≤ a) (hl : a ≤ s.stage.nodes.length) (st : NodeState) {f : Node → Node}
    (hf : (f (s.node a)).st ≠ .active) :
    (∀ e ∈ (s.left a st f).stage.normal, e.addr ≠ a) ∧ ∀ e ∈ (s.left a st f).stage.urgent, e.addr ≠ a := by
  have told := told_heated ((s.dropEntries a).onNode a f) a st
  have stage : ((s.dropEntries a).onNode a f).stage.normal = s.stage.normal.filter (fun e => e.addr != a) ∧
      ((s.dropEntries a).onNode a f).stage.urgent = s.stage.urgent.filter (fun e => e.addr != a) := by
    cases a <;> exact ⟨rfl, rfl⟩
  refine ⟨told.commands.noEntry ?_ ?_, ?_⟩
  · rw [dropped_node ha hl f]
    exact hf
  · rw [stage.1]
    intro e he
    simpa using (List.mem_filter.1 he).2
  · rw [left, told.commands.urgent, stage.2]
    intro e he
    simpa using (List.mem_filter.1 he).2

theorem left_zones_length (s : State) (a : Nat) (st : NodeState) (f : Node → Node) :
    (s.left a st f).heating.zones.length = s.heating.zones.length := by
  rw [left, told_zones_length, onlyChanges_heating (onNode_frame _ a f)]
  rfl

/-! ### The roster (R114) -/

/-- R114: what the roster's change of one address leaves at it. -/
structure Renamed (a : Nat) (k : NodeKind) (t : State) : Prop where
  expected : (t.node a).expected = k
  absent : k = .none → (t.node a).st = .absent ∧ (∀ e ∈ t.stage.normal, e.addr ≠ a) ∧ ∀ e ∈ t.stage.urgent, e.addr ≠ a
  missing : k ≠ .none → (t.node a).st = .missing ∧ (⟨.rollCall, a⟩ : StageEntry) ∈ t.stage.normal

/-- R114: it stands when other addresses change after it. -/
theorem Renamed.later {a b : Nat} {k : NodeKind} {s t : State} (h : Renamed a k s) (later : Elsewhere b s t) (hb : a ≠ b) :
    Renamed a k t := by
  obtain ⟨w, hw⟩ := later.others a hb
  refine ⟨by rw [hw]; exact h.expected, fun hk => ?_, fun hk => ?_⟩
  · obtain ⟨st, normal, urgent⟩ := h.absent hk
    refine ⟨by rw [hw]; exact st, fun e he ha => ?_, fun e he ha => ?_⟩
    · rcases later.normal_of e he with he | h' | active
      · exact normal e he ha
      · exact hb (ha.symm.trans h')
      · rw [ha, st] at active
        simp at active
    · rcases later.urgent_of e he with he | h'
      · exact urgent e he ha
      · exact hb (ha.symm.trans h')
  · obtain ⟨st, called⟩ := h.missing hk
    exact ⟨by rw [hw]; exact st, later.normal_kept _ called hb⟩

theorem Renamed.told {a : Nat} {k : NodeKind} {s t : State} (h : Renamed a k s) (told : Heated s t) : Renamed a k t := by
  obtain ⟨w, hw⟩ := told.commands.rows a
  refine ⟨by rw [hw]; exact h.expected, fun hk => ?_, fun hk => ?_⟩
  · obtain ⟨st, normal, urgent⟩ := h.absent hk
    refine ⟨by rw [hw]; exact st, told.commands.noEntry (by simp [st]) normal, ?_⟩
    rw [told.commands.urgent]
    exact urgent
  · obtain ⟨st, called⟩ := h.missing hk
    obtain ⟨l, hl, -⟩ := told.commands.normal
    refine ⟨by rw [hw]; exact st, ?_⟩
    rw [hl]
    exact List.mem_append_left _ called

theorem rosterChange_facts {s : State} {a : Nat} (ha : 1 ≤ a) (hl : a ≤ s.stage.nodes.length) (hs : s.iso.st ≠ .searching)
    (k : NodeKind) :
    Renamed a k (s.rosterChange a k) ∧ Elsewhere a s (s.rosterChange a k) ∧
      (s.rosterChange a k).heating.zones.length = s.heating.zones.length := by
  obtain ⟨u, hu⟩ : ∃ u, u = s.onNode a fun n => { n with expected := k } := ⟨_, rfl⟩
  have named : Elsewhere a s u := hu ▸ Elsewhere.onNode s a _
  have row : u.node a = { s.node a with expected := k } := by rw [hu, node_onNode_self s a _ ha hl]
  have hl' : a ≤ u.stage.nodes.length := by rw [named.length]; exact hl
  have zones : u.heating.zones.length = s.heating.zones.length := by rw [hu, onlyChanges_heating (onNode_frame s a _)]
  by_cases hk : k = .none
  · obtain ⟨f, hf, step⟩ : ∃ f : Node → Node, (∀ n, (f n).st = .absent ∧ (f n).expected = n.expected) ∧
        s.rosterChange a k = u.left a .absent f := by
      by_cases hst : (s.node a).st = .active
      · refine ⟨fun n => { n with st := .absent, pollTimer := none, refreshTimer := none, temp := none, headroom := 0, acked := none },
          fun n => ⟨rfl, rfl⟩, ?_⟩
        rw [rosterChange, if_pos hk, if_pos hst, ← hu, leaveActive_left]
        rw [onlyChanges_iso named.frame]
        exact fun h => hs h.1
      · refine ⟨fun n => { n with st := .absent }, fun n => ⟨rfl, rfl⟩, ?_⟩
        rw [rosterChange, if_pos hk, if_neg hst, ← hu]
        rfl
    obtain ⟨w, hw⟩ := left_node ha hl' .absent f
    rw [step]
    refine ⟨⟨?_, fun _ => ⟨?_, left_noEntry ha hl' _ (by simp [hf])⟩, fun h => absurd hk h⟩, named.trans (left_elsewhere u a _ f),
      (left_zones_length u a _ f).trans zones⟩
    · rw [hw]
      exact (hf _).2.trans (by rw [row])
    · rw [hw]
      exact (hf _).1
  · obtain ⟨v, hv⟩ : ∃ v, v = (u.onNode a fun n => { n with st := .missing }).queueNormal .rollCall a := ⟨_, rfl⟩
    have step : s.rosterChange a k = ((v.heatNodeState a .missing).postCharger a).raise .stage := by
      rw [rosterChange, if_neg hk, ← hu, hv]
    have called : Elsewhere a u v := hv ▸ (Elsewhere.onNode u a _).trans (Elsewhere.queueNormal _ _ a)
    have told := told_heated v a .missing
    have row' : v.node a = { s.node a with expected := k, st := .missing } := by
      rw [hv, node_congr (queueNormal_nodes _ _ _), node_onNode_self u a _ ha hl', row]
    have renamed : Renamed a k v :=
      ⟨by rw [row'], fun h => absurd h hk, fun _ => ⟨by rw [row'], hv ▸ mem_queueNormal _ _ _⟩⟩
    rw [step]
    refine ⟨renamed.told told, (named.trans called).trans (Elsewhere.of_heated told), (told_zones_length v a _).trans ?_⟩
    rw [← zones, hv, onlyChanges_heating (queueNormal_frame _ _ _), onlyChanges_heating (onNode_frame _ _ _)]

/-- R114: the addresses that change, one after another. -/
def takeKinds (s : State) (l : List (Nat × NodeKind)) : State :=
  l.foldl (fun s p => s.doIf ((s.node p.1).expected != p.2) fun s => s.rosterChange p.1 p.2) s

/-- What a roster leaves of one address: named anew, or as it was. -/
def Rostered (a : Nat) (k : NodeKind) (s t : State) : Prop :=
  (k = (s.node a).expected → ∃ w, t.node a = { s.node a with commanded := w }) ∧ (k ≠ (s.node a).expected → Renamed a k t)

theorem takeKinds_facts (l : List (Nat × NodeKind)) (s : State) (hs : s.iso.st ≠ .searching)
    (range : ∀ p ∈ l, 1 ≤ p.1 ∧ p.1 ≤ s.stage.nodes.length) (nodup : (l.map Prod.fst).Nodup) :
    (∀ p ∈ l, Rostered p.1 p.2 s (s.takeKinds l)) ∧
      (∀ b, b ∉ l.map Prod.fst → (∃ w, (s.takeKinds l).node b = { s.node b with commanded := w }) ∧
        ∀ k, Renamed b k s → Renamed b k (s.takeKinds l)) ∧
      (s.takeKinds l).stage.nodes.length = s.stage.nodes.length ∧
      (s.takeKinds l).heating.zones.length = s.heating.zones.length ∧
      onlyChanges [.heating, .stage, .budgetIn, .link] s (s.takeKinds l) ∧ Onward s (s.takeKinds l) := by
  induction l generalizing s with
  | nil => exact ⟨fun _ h => absurd h List.not_mem_nil, fun b _ => ⟨⟨_, rfl⟩, fun _ h => h⟩, rfl, rfl, onlyChanges_refl _ s, Onward.refl s⟩
  | cons p l ih =>
    obtain ⟨a, k⟩ := p
    obtain ⟨ha, hl⟩ := range _ List.mem_cons_self
    obtain ⟨u, hu⟩ : ∃ u, u = s.doIf ((s.node a).expected != k) fun s => s.rosterChange a k := ⟨_, rfl⟩
    obtain ⟨renamed, changes, zones⟩ := rosterChange_facts ha hl hs k
    have here : Rostered a k s u ∧ Elsewhere a s u ∧ u.heating.zones.length = s.heating.zones.length := by
      by_cases h : (s.node a).expected = k
      · have same : u = s := by rw [hu, doIf_eq, if_neg (by simpa using h)]
        rw [same]
        exact ⟨⟨fun _ => ⟨_, rfl⟩, fun h' => absurd h.symm h'⟩, Elsewhere.refl a s, rfl⟩
      · have step : u = s.rosterChange a k := by rw [hu, doIf_eq, if_pos (by simpa using h)]
        rw [step]
        exact ⟨⟨fun h' => absurd h'.symm h, fun _ => renamed⟩, changes, zones⟩
    obtain ⟨rostered, elsewhere, zones'⟩ := here
    rw [List.map_cons, List.nodup_cons] at nodup
    obtain ⟨fresh, nodup⟩ := nodup
    obtain ⟨each, rest, length, zonesL, frame, onward⟩ := ih u (by rw [onlyChanges_iso elsewhere.frame]; exact hs)
      (fun p hp => by rw [elsewhere.length]; exact range p (List.mem_cons_of_mem _ hp)) nodup
    have step : s.takeKinds ((a, k) :: l) = u.takeKinds l := by rw [hu]; rfl
    rw [step]
    refine ⟨fun p hp => ?_, fun b hb => ?_, length.trans elsewhere.length, zonesL.trans zones',
      onlyChanges_trans elsewhere.frame frame, elsewhere.onward.trans onward⟩
    · rcases List.mem_cons.1 hp with rfl | hp
      · obtain ⟨⟨w, hw⟩, stands⟩ := rest a fresh
        refine ⟨fun h => ?_, fun h => stands _ (rostered.2 h)⟩
        obtain ⟨w', hw'⟩ := rostered.1 h
        exact ⟨w, by rw [hw, hw']⟩
      · have hne : p.1 ≠ a := fun h => fresh (List.mem_map.2 ⟨p, hp, h⟩)
        obtain ⟨w, hw⟩ := elsewhere.others p.1 hne
        obtain ⟨same, anew⟩ := each p hp
        have expected : (u.node p.1).expected = (s.node p.1).expected := by rw [hw]
        refine ⟨fun h => ?_, fun h => anew (by rwa [expected])⟩
        obtain ⟨w', hw'⟩ := same (by rw [expected]; exact h)
        exact ⟨w', by rw [hw', hw]⟩
    · rw [List.map_cons, List.mem_cons, not_or] at hb
      obtain ⟨hne, hb⟩ := hb
      obtain ⟨⟨w, hw⟩, stands⟩ := rest b hb
      obtain ⟨w', hw'⟩ := elsewhere.others b hne
      exact ⟨⟨w, by rw [hw, hw']⟩, fun k h => stands k (h.later elsewhere hne)⟩

end State

/-! ### The zones of a roster (R53) -/

theorem Zone.refresh_configured (z : Zone) : z.refresh.configured = z.configured := rfl

theorem configureZones_length (ks : List NodeKind) (i : Nat) (zs : List Zone) : (configureZones ks i zs).length = zs.length := by
  induction ks generalizing i zs with
  | nil => rfl
  | cons k ks ih =>
    unfold configureZones
    split
    · rfl
    · rw [ih]
      unfold configureZone unconfigureZone
      split_ifs <;> simp

/-- R53: a zone is configured exactly when its address is expected to be a heater. -/
theorem configureZones_configured (ks : List NodeKind) (i : Nat) (zs : List Zone) (hl : i + ks.length ≤ zs.length) (j : Nat) :
    ((configureZones ks i zs).getD j {}).configured =
      if i ≤ j ∧ j < i + ks.length then decide (ks.getD (j - i) .none = .heater) else (zs.getD j {}).configured := by
  induction ks generalizing i zs with
  | nil =>
    rw [if_neg (by simp)]
    rfl
  | cons k ks ih =>
    have hi : i < zs.length := by simp at hl; omega
    obtain ⟨us, hus⟩ : ∃ us, us = if k = .heater ∧ !zs[i].configured then configureZone i zs
      else if k ≠ .heater ∧ zs[i].configured then unconfigureZone i zs else zs := ⟨_, rfl⟩
    have step : configureZones (k :: ks) i zs = configureZones ks (i + 1) us := by
      rw [configureZones, List.getElem?_eq_getElem hi, hus]
    have length : us.length = zs.length := by
      rw [hus]
      unfold configureZone unconfigureZone
      split_ifs <;> simp
    have here : (us.getD i {}).configured = decide (k = .heater) := by
      rw [hus]
      split_ifs with h h'
      · simp [configureZone, hi, h.1]
      · simp [unconfigureZone, hi, h'.1]
      · simp only [List.getD_eq_getElem?_getD, List.getElem?_eq_getElem hi, Option.getD_some]
        by_cases hk : k = .heater <;> simp_all
    have other (m : Nat) (hm : m ≠ i) : (us.getD m {}).configured = (zs.getD m {}).configured := by
      rw [hus]
      unfold configureZone unconfigureZone
      split_ifs
      · simp only [List.getD_eq_getElem?_getD, List.getElem?_modify, Ne.symm hm, if_false, List.getElem?_map]
        cases zs[m]? <;> rfl
      · simp only [List.getD_eq_getElem?_getD, List.getElem?_modify, Ne.symm hm, if_false, List.getElem?_map]
        cases zs[m]? <;> rfl
      · rfl
    rw [step, ih (i + 1) us (by rw [length]; simp at hl; omega)]
    by_cases hj : j = i
    · subst hj
      rw [if_neg (by omega), here, if_pos (by simp), Nat.sub_self]
      rfl
    · rw [other j hj, List.length_cons]
      by_cases hr : i + 1 ≤ j ∧ j < i + 1 + ks.length
      · rw [if_pos hr, if_pos (by omega), show j - i = j - (i + 1) + 1 by omega]
        rfl
      · rw [if_neg hr, if_neg (by omega)]

end Sys2Proof.Machine

namespace Sys2Proof.Proofs

open Machine Safety

/-! ### Roll calls (R115) -/

/-- R115: roll calls go to the tail, but those that stand. -/
theorem rollCallFor_eq (l : List Nat) (s : State) (nodup : l.Nodup) :
    s.rollCallFor l =
      { s with
        stage :=
          { s.stage with
            normal := s.stage.normal ++ (l.filter fun a => !s.stage.normal.contains ⟨.rollCall, a⟩).map fun a => ⟨.rollCall, a⟩ } } := by
  induction l generalizing s with
  | nil => simp [State.rollCallFor]
  | cons a l ih =>
    rw [List.nodup_cons] at nodup
    have step : s.rollCallFor (a :: l) = (s.queueNormal .rollCall a).rollCallFor l := rfl
    rw [step, ih _ nodup.2]
    by_cases h : (⟨.rollCall, a⟩ : StageEntry) ∈ s.stage.normal
    · have same : s.queueNormal .rollCall a = s := by
        simp only [State.queueNormal, State.onStage, if_pos h]
      simp [same, h]
    · have tail : s.queueNormal .rollCall a =
          { s with stage := { s.stage with normal := s.stage.normal ++ [(⟨.rollCall, a⟩ : StageEntry)] } } := by
        simp only [State.queueNormal, State.onStage, if_neg h]
      have others : (l.filter fun b => !(s.stage.normal ++ [(⟨.rollCall, a⟩ : StageEntry)]).contains ⟨.rollCall, b⟩) =
          l.filter fun b => !s.stage.normal.contains ⟨.rollCall, b⟩ := by
        refine List.filter_congr fun b hb => ?_
        have hne : b ≠ a := fun h => nodup.1 (h ▸ hb)
        simp [hne]
      rw [tail]
      simp only [others]
      simp [h]

/-! ### The roster (R114) -/

theorem nodeKind?_of_le {n : Nat} (h : n ≤ 2) : nodeKind? n = some (if n = 0 then .none else if n = 1 then .charger else .heater) := by
  obtain rfl | rfl | rfl : n = 0 ∨ n = 1 ∨ n = 2 := by omega
  · rfl
  · rfl
  · rfl

theorem nodeKind?_none {n : Nat} (h : ¬ n ≤ 2) : nodeKind? n = none := by
  obtain ⟨k, rfl⟩ : ∃ k, n = k + 3 := ⟨n - 3, by omega⟩
  rfl

/-- The kind a roster's code names. -/
def kindOf (n : Nat) : NodeKind := if n = 0 then .none else if n = 1 then .charger else .heater

/-- R114: the codes of a roster, each in its set and legal at its address. -/
def rosterLegal (l : List Nat) : Prop :=
  ∀ a, 1 ≤ a → a ≤ 11 → l.getD (a - 1) 0 = 0 ∨ l.getD (a - 1) 0 = if a ≤ 3 then 1 else 2

theorem addresses_getElem {i : Nat} (h : i < 11) : addresses.getD i 0 = i + 1 := by
  interval_cases i <;> rfl

theorem rosterKindLegal_kindOf {a n : Nat} (h : n ≤ 2) :
    rosterKindLegal a (kindOf n) = true ↔ n = 0 ∨ n = if a ≤ 3 then 1 else 2 := by
  obtain rfl | rfl | rfl : n = 0 ∨ n = 1 ∨ n = 2 := by omega
  · simp [rosterKindLegal, kindOf]
  · by_cases ha : a ≤ 3 <;> simp [rosterKindLegal, kindOf, ha]
  · by_cases ha : a ≤ 3 <;> simp [rosterKindLegal, kindOf, ha]

/-- The code at an address, in the pairs a roster is taken by. -/
theorem mem_zip_addresses {l : List Nat} (hl : l.length = 11) {i : Nat} (hi : i < 11) :
    (i + 1, kindOf (l.getD i 0)) ∈ addresses.zip (l.map kindOf) := by
  refine List.mem_iff_getElem.2 ⟨i, by simp [addresses, hl]; omega, ?_⟩
  have at_i := addresses_getElem hi
  simp only [List.getElem_zip, List.getElem_map, Prod.mk.injEq]
  refine ⟨?_, by simp [hl, hi]⟩
  rw [← at_i]
  simp [addresses, hi]

theorem roster_all_iff {l : List Nat} (hl : l.length = 11) (range : ∀ n ∈ l, n ≤ 2) :
    ((addresses.zip (l.map kindOf)).all fun p => rosterKindLegal p.1 p.2) = true ↔ rosterLegal l := by
  have row (i : Nat) (hi : i < 11) : rosterKindLegal (i + 1) (kindOf (l.getD i 0)) = true ↔
      l.getD i 0 = 0 ∨ l.getD i 0 = if i + 1 ≤ 3 then 1 else 2 := by
    refine rosterKindLegal_kindOf (range _ ?_)
    simp [hl, hi]
  rw [List.all_eq_true]
  constructor
  · intro h a h1 h2
    obtain ⟨i, rfl⟩ : ∃ i, a = i + 1 := ⟨a - 1, by omega⟩
    exact (row i (by omega)).1 (h (i + 1, kindOf (l.getD i 0)) (mem_zip_addresses hl (by omega)))
  · intro h p hp
    obtain ⟨i, hi, rfl⟩ := List.mem_iff_getElem.1 hp
    have hi' : i < 11 := by simp [addresses, hl] at hi; omega
    have := (row i hi').2 (h (i + 1) (by omega) (by omega))
    have at_i := addresses_getElem hi'
    simp only [List.getElem_zip, List.getElem_map]
    have hlist : l[i]'(by omega) = l.getD i 0 := by simp [hl, hi']
    have haddr : addresses[i]'(by simp [addresses]; omega) = i + 1 := by rw [← at_i]; simp [addresses, hi']
    rw [hlist, haddr]
    exact this

theorem kinds_of_codes {l : List Nat} (range : ∀ n ∈ l, n ≤ 2) : l.mapM nodeKind? = some (l.map kindOf) :=
  mapM_eq_map fun n hn => nodeKind?_of_le (range n hn)

theorem rosterLegal.range {l : List Nat} (hl : l.length = 11) (legal : rosterLegal l) : ∀ n ∈ l, n ≤ 2 := by
  intro n hn
  obtain ⟨i, hi, rfl⟩ := List.mem_iff_getElem.1 hn
  have := legal (i + 1) (by omega) (by omega)
  simp only [Nat.add_sub_cancel, List.getD_eq_getElem?_getD, List.getElem?_eq_getElem hi, Option.getD_some] at this
  split at this <;> omega

theorem rosterOf_some {l : List Nat} (hl : l.length = 11) (legal : rosterLegal l) : rosterOf l = some (l.map kindOf) := by
  rw [rosterOf, kinds_of_codes (legal.range hl)]
  exact if_pos ((roster_all_iff hl (legal.range hl)).2 legal)

theorem rosterOf_none {l : List Nat} (hl : l.length = 11) (illegal : ¬ rosterLegal l) : rosterOf l = none := by
  by_cases range : ∀ n ∈ l, n ≤ 2
  · rw [rosterOf, kinds_of_codes range]
    exact if_neg fun h => illegal ((roster_all_iff hl range).1 h)
  · obtain ⟨n, hn, high⟩ : ∃ n ∈ l, ¬ n ≤ 2 := by simpa using range
    rw [rosterOf, mapM_eq_none hn (nodeKind?_none high)]

/-- The kind a roster's code expects at an address. -/
def kindAt (l : List Nat) (a : Nat) : NodeKind :=
  if l.getD (a - 1) 0 = 0 then .none else if a ≤ 3 then .charger else .heater

theorem kindOf_at {l : List Nat} {a : Nat} (legal : rosterLegal l) (h1 : 1 ≤ a) (h2 : a ≤ 11) :
    kindOf (l.getD (a - 1) 0) = kindAt l a := by
  unfold kindOf kindAt
  rcases legal a h1 h2 with h | h
  · rw [h]
    rfl
  · rw [h]
    split <;> rfl

/-- R114: a legal roster taken. -/
theorem ownSetRoster_takes {s : State} {l : List Nat} (hl : l.length = 11) (legal : rosterLegal l)
    (still : s.iso.st ≠ .searching) : s.ownSetRoster l = okWith (s.setRoster (l.map kindOf)) [] := by
  rw [State.ownSetRoster, if_neg (by simp [hl]), rosterOf_some hl legal]
  exact if_neg still

theorem setRoster_eq (s : State) (kinds : List NodeKind) :
    s.setRoster kinds =
      ((((s.takeKinds (addresses.zip kinds)).heatConfigure kinds).postCharger 1).postCharger 2).postCharger 3 := rfl

theorem setRoster_heated (s : State) (l : List Nat) : State.Heated (s.takeKinds (addresses.zip (l.map kindOf))) (s.setRoster (l.map kindOf)) := by
  rw [setRoster_eq]
  exact (((State.heatConfigure_heated _ _).trans (State.postCharger_heated _ 1)).trans (State.postCharger_heated _ 2)).trans
    (State.postCharger_heated _ 3)

section
variable {s : State} {l : List Nat} (hl : l.length = 11) (still : s.iso.st ≠ .searching) (nodes : s.stage.nodes.length = 11)
include hl still nodes

theorem roster_taken :
    (∀ p ∈ addresses.zip (l.map kindOf), State.Rostered p.1 p.2 s (s.takeKinds (addresses.zip (l.map kindOf)))) ∧
      (s.takeKinds (addresses.zip (l.map kindOf))).heating.zones.length = s.heating.zones.length ∧
      onlyChanges [.heating, .stage, .budgetIn, .link] s (s.takeKinds (addresses.zip (l.map kindOf))) ∧
      State.Onward s (s.takeKinds (addresses.zip (l.map kindOf))) := by
  have firsts : (addresses.zip (l.map kindOf)).map Prod.fst = addresses := by
    rw [List.map_fst_zip]
    simp [addresses, hl]
  obtain ⟨each, -, -, zones, frame, onward⟩ := State.takeKinds_facts (addresses.zip (l.map kindOf)) s still
    (fun p hp => by
      have := firsts ▸ List.mem_map_of_mem (f := Prod.fst) hp
      simp only [addresses, List.mem_cons, List.not_mem_nil, or_false] at this
      omega)
    (by rw [firsts]; decide)
  exact ⟨each, zones, frame, onward⟩

theorem setRoster_kept : onlyChanges [.heating, .stage, .budgetIn, .link] s (s.setRoster (l.map kindOf)) ∧
    State.Onward s (s.setRoster (l.map kindOf)) := by
  obtain ⟨-, -, frame, onward⟩ := roster_taken hl still nodes
  have told := setRoster_heated s l
  exact ⟨onlyChanges_trans frame told.frame, onward.trans told.onward⟩

variable (legal : rosterLegal l) {a : Nat} (h2 : a ≤ 11)
include legal h2

/-- R114: what a roster leaves at each address. -/
theorem setRoster_rostered (h1 : 1 ≤ a) : State.Rostered a (kindAt l a) s (s.setRoster (l.map kindOf)) := by
  obtain ⟨each, -, -, -⟩ := roster_taken hl still nodes
  have told := setRoster_heated s l
  have entry : (a, kindAt l a) ∈ addresses.zip (l.map kindOf) := by
    have pair := mem_zip_addresses hl (show a - 1 < 11 by omega)
    rwa [kindOf_at legal h1 h2, show a - 1 + 1 = a by omega] at pair
  obtain ⟨same, anew⟩ := each _ entry
  refine ⟨fun h => ?_, fun h => (anew h).told told⟩
  obtain ⟨w, hw⟩ := same h
  obtain ⟨w', hw'⟩ := told.commands.rows a
  exact ⟨w', by rw [hw', hw]⟩

/-- R53: the zones a roster configures. -/
theorem setRoster_configured (zones : s.heating.zones.length = 8) (h4 : 4 ≤ a) :
    ((s.setRoster (l.map kindOf)).zone (a - 3)).configured = decide (kindAt l a = .heater) := by
  obtain ⟨-, zones', -, -⟩ := roster_taken hl still nodes
  obtain ⟨u, hu⟩ : ∃ u, u = s.takeKinds (addresses.zip (l.map kindOf)) := ⟨_, rfl⟩
  rw [← hu, zones] at zones'
  obtain ⟨t, ht⟩ : ∃ t, t = s.setRoster (l.map kindOf) := ⟨_, rfl⟩
  have heating : t.heating.zones = (configureZones ((l.map kindOf).drop 3) 0 u.heating.zones).map Zone.refresh := by
    rw [ht, setRoster_eq, ← hu, onlyChanges_heating (State.postCharger_frame _ 3), onlyChanges_heating (State.postCharger_frame _ 2),
      onlyChanges_heating (State.postCharger_frame _ 1)]
    exact State.heatConfigure_zones u _
  obtain ⟨i, rfl⟩ : ∃ i, a = i + 4 := ⟨a - 4, by omega⟩
  rw [← ht]
  show (t.heating.zones.getD i {}).configured = _
  have length := configureZones_length ((l.map kindOf).drop 3) 0 u.heating.zones
  have row := configureZones_configured ((l.map kindOf).drop 3) 0 u.heating.zones (by simp [hl, zones']) i
  have hi : i < ((configureZones ((l.map kindOf).drop 3) 0 u.heating.zones)).length := by rw [length, zones']; omega
  have code : ((l.map kindOf).drop 3).getD i .none = kindOf (l.getD (i + 3) 0) := by
    simp [show 3 + i < l.length by omega, Nat.add_comm i 3]
  have kind := kindOf_at legal (a := i + 4) (by omega) h2
  rw [if_pos (by simp [hl]; omega), Nat.sub_zero, code, show i + 3 = i + 4 - 1 by omega, kind] at row
  rw [heating, ← row]
  simp [hi, Zone.refresh_configured]

end

theorem setRoster_rows {s : State} (serve : mayServe s) (tag : Byte) {l : List Nat} (hl : l.length = 11) :
    (¬ rosterLegal l → refusedWith (.setRoster tag l) 0x50 tag .badValue s) ∧
      (rosterLegal l → s.iso.st = .searching → refusedWith (.setRoster tag l) 0x50 tag .state s) ∧
      (rosterLegal l → s.iso.st ≠ .searching → s.iso.search.under = none → s.stage.nodes.length = 11 →
        s.heating.zones.length = 8 →
        ∃ t, exec (.setRoster tag l) s = .next t ∧
          (∀ a, 1 ≤ a → a ≤ 11 →
            (t.node a).expected = kindAt l a ∧
            (kindAt l a = (s.node a).expected → (t.node a).st = (s.node a).st ∧ (t.node a).rating = (s.node a).rating) ∧
            (kindAt l a ≠ (s.node a).expected → kindAt l a = .none →
              (t.node a).st = .absent ∧ (∀ e ∈ t.stage.normal, e.addr ≠ a) ∧ ∀ e ∈ t.stage.urgent, e.addr ≠ a) ∧
            (kindAt l a ≠ (s.node a).expected → kindAt l a ≠ .none →
              (t.node a).st = .missing ∧ (⟨.rollCall, a⟩ : StageEntry) ∈ t.stage.normal) ∧
            (4 ≤ a → (t.zone (a - 3)).configured = decide (kindAt l a = .heater))) ∧
          t.link.replies = s.link.replies ++ [⟨0xD0, tag, [byte Status.ok.code], .plain⟩] ∧
          onlyChanges [.stage, .heating, .link, .budgetIn] s t) := by
  refine ⟨fun illegal => ?_, fun legal searching => ?_, fun legal still _ nodes zones => ?_⟩
  · refine exec_refused serve rfl ?_
    show s.ownSetRoster l = _
    rw [State.ownSetRoster, if_neg (by simp [hl]), rosterOf_none hl illegal]
  · refine exec_refused serve rfl ?_
    show s.ownSetRoster l = _
    rw [State.ownSetRoster, if_neg (by simp [hl]), rosterOf_some hl legal]
    exact if_pos searching
  · obtain ⟨t, ht⟩ : ∃ t, t = s.setRoster (l.map kindOf) := ⟨_, rfl⟩
    have own : State.owner (.setRoster tag l) s = okWith t [] := ht ▸ ownSetRoster_takes hl legal still
    obtain ⟨frame, onward⟩ := ht ▸ setRoster_kept hl still nodes
    refine ⟨_, exec_ok serve rfl own, fun a h1 h2 => ?_, ?_, onlyChanges_replied (onlyChanges_mono frame) _ _ _⟩
    · have rostered : State.Rostered a (kindAt l a) s t := ht ▸ setRoster_rostered hl still nodes legal h2 h1
      obtain ⟨same, anew⟩ := rostered
      have configured (h4 : 4 ≤ a) : (t.zone (a - 3)).configured = decide (kindAt l a = .heater) :=
        ht ▸ setRoster_configured hl still nodes legal h2 zones h4
      refine ⟨?_, fun h => ?_, fun h hk => (anew h).absent hk, fun h hk => (anew h).missing hk, configured⟩
      · by_cases h : kindAt l a = (s.node a).expected
        · obtain ⟨w, hw⟩ := same h
          exact (congrArg Node.expected hw).trans h.symm
        · exact (anew h).expected
      · obtain ⟨w, hw⟩ := same h
        exact ⟨(congrArg Node.st hw :), (congrArg Node.rating hw :)⟩
    · show t.link.replies ++ _ = _
      rw [onward.replies]
      rfl

/-- Settles O44: the roster address by address, the roll calls as one addition to the normal queue. -/
theorem rosterAndRollCalls : Obligations.RosterAndRollCalls := by
  intro s new
  have nodup (f : Nat → Bool) : (addresses.filter f).Nodup := List.Nodup.filter _ (by decide)
  refine ⟨fun tag serve => ⟨fun l hl => ?_, ?_⟩, fun run => ⟨fun rests => ?_, fun runs => ?_⟩⟩
  case refine_1 =>
    obtain ⟨illegal, searching, taken⟩ := setRoster_rows serve tag hl
    exact ⟨illegal, searching, taken⟩
  case refine_2 =>
    have callable : s.callable = addresses.filter fun a =>
        decide ((s.node a).st = .missing ∨ (s.node a).st = .lost ∨ (s.node a).st = .mismatch) := by
      refine List.filter_congr fun a _ => ?_
      simp [Bool.or_assoc, beq_eq_decide]
    have called : s.rollCallFor s.callable = { s with stage := { s.stage with normal := s.stage.normal ++ new } } := by
      rw [callable, rollCallFor_eq _ s (nodup _)]
    have own : State.owner (.rollCall tag) s =
        okWith { s with stage := { s.stage with normal := s.stage.normal ++ new } } [byte new.length] := by
      show s.ownRollCall = _
      simp only [State.ownRollCall, called, List.length_append, Nat.add_sub_cancel_left]
    exact exec_ok serve rfl own
  case refine_3 =>
    show Host.Outcome.next (s.whenRun State.recallEvent) = _
    rw [State.whenRun_run run, State.recallEvent, rests]
    rfl
  case refine_4 =>
    have called : addresses.filter (fun a => (s.node a).st == .missing || (s.node a).st == .lost) =
        addresses.filter fun a => decide ((s.node a).st = .missing ∨ (s.node a).st = .lost) := by
      refine List.filter_congr fun a _ => ?_
      simp [beq_eq_decide]
    show Host.Outcome.next (s.whenRun State.recallEvent) = _
    rw [State.whenRun_run run, State.recallEvent, Option.isSome_iff_ne_none.2 runs, State.doIf_true, rollCallFor_eq _ _ (nodup _), called]
    rfl

end Sys2Proof.Proofs
end

section
/-! One sample of the meter (R128 to R134, R137). -/

-- One declaration at a time: each thread the elaborator opens takes its whole stack from the memory limit.
set_option Elab.async false

namespace Sys2Proof.Machine

open Safety

/-! ### The powers and the channel of a sample (R131, R134) -/

theorem heatPower_eq (f : FrontEnd) : heatPower f = ((((packReading f).getD 0 : Nat) : Int) * f.iHeat / 100).toNat := by
  unfold heatPower
  cases packReading f <;> simp

theorem packNetPower_eq (f : FrontEnd) :
    packNetPower f = ((((packReading f).getD 0 : Nat) : Int) * (f.iHv - f.iHeat)).tdiv 100 := by
  unfold packNetPower
  cases packReading f <;> simp

theorem heatChannelOf_eq (src : HeatSource) (p : Nat) :
    heatChannelOf src p = if src = .grid ∨ (src = .none ∧ 0 < p) then .heatGrid else .heatPack := by
  cases src <;> simp [heatChannelOf]

/-- R132 to R134, R137: the energies of a sample, field by field. -/
theorem Meter.integrate_eq (m : Meter) {src : HeatSource} {pGrid : Nat} (pHeat : Nat) (pNet : Int) (toGrid : Bool)
    (h : heatChannelOf src pGrid = if toGrid then .heatGrid else .heatPack) :
    m.integrate src pGrid pHeat pNet =
      (let grid := (m.resGrid + pGrid) / 36
       let heatGrid := if toGrid then (m.resHeatGrid + pHeat) / 36 else 0
       let heatPack := if toGrid then 0 else (m.resHeatPack + pHeat) / 36
       { m with
         resGrid := (m.resGrid + pGrid) % 36
         resHeatGrid := if toGrid then (m.resHeatGrid + pHeat) % 36 else m.resHeatGrid
         resHeatPack := if toGrid then m.resHeatPack else (m.resHeatPack + pHeat) % 36
         resPackNet := (m.resPackNet + pNet).tmod 36
         channel := m.channel.take grid heatGrid heatPack ((m.resPackNet + pNet).tdiv 36)
         totals :=
           { grid := min totalLimit (m.totals.grid + grid)
             heatGrid := min totalLimit (m.totals.heatGrid + heatGrid)
             heatPack := min totalLimit (m.totals.heatPack + heatPack) }
         satGrid := m.satGrid || decide (totalLimit < m.totals.grid + grid)
         satHeatGrid := m.satHeatGrid || decide (totalLimit < m.totals.heatGrid + heatGrid)
         satHeatPack := m.satHeatPack || decide (totalLimit < m.totals.heatPack + heatPack)
         lastChannel := if toGrid then .heatGrid else .heatPack }) := by
  cases toGrid <;> simp only [Meter.integrate, h, credit, creditNet] <;> rfl

/-! ### What a sample posts (R129) -/

/-- R129: a phase voltage that moved. -/
theorem phaseTrigger_iff (a b : Nat) :
    phaseTrigger a b = true ↔ 5 ≤ distance a b ∨ (1800 < a ∧ b ≤ 1800) ∨ (a ≤ 1800 ∧ 1800 < b) := by
  unfold phaseTrigger
  by_cases ha : 1800 < a <;> by_cases hb : 1800 < b <;> simp [ha, hb] <;> omega

/-- R129: a pack voltage that moved. -/
def packMoved (a b : Option Nat) : Prop :=
  b.isSome ≠ a.isSome ∨
    ∃ x y, a = some x ∧ b = some y ∧ (5 ≤ distance x y ∨ (500 < x ∧ y ≤ 500) ∨ (x ≤ 500 ∧ 500 < y))

theorem packTrigger_iff (a b : Option Nat) : packTrigger a b = true ↔ packMoved a b := by
  cases a with
  | none => cases b <;> simp [packTrigger, packMoved]
  | some x =>
    cases b with
    | none => simp [packTrigger, packMoved]
    | some y =>
      by_cases hx : 500 < x <;> by_cases hy : 500 < y <;> simp [packTrigger, packMoved, hx, hy] <;> omega

/-- The meter's record and energies after one sample, its postings apart (R128, R132 to R134). -/
def sampledMeter (s : State) (f : FrontEnd) : Meter :=
  { s.meter.integrate s.heating.source (liveOf s.meter.mode f).pGrid (liveOf s.meter.mode f).pHeat
      (liveOf s.meter.mode f).pPackNet with
    live := liveOf s.meter.mode f, sampleStamp := some s.now, period := some s.now }

/-- A voltage last posted, after a sample (R129). -/
def postedNow (posted v : Nat) : Nat := if phaseTrigger posted v then v else posted

/-- The meter after one sample and its postings. -/
def postedMeter (s : State) (f : FrontEnd) : Meter :=
  { sampledMeter s f with
    posted1 := postedNow s.meter.posted1 f.v1, posted2 := postedNow s.meter.posted2 f.v2
    posted3 := postedNow s.meter.posted3 f.v3
    postedPack := if packTrigger s.meter.postedPack (packReading f) then packReading f else s.meter.postedPack }

/-- What a sample posts to the budget input record. -/
def samplePosts (s : State) (f : FrontEnd) : List BudgetPosting :=
  (if phaseTrigger s.meter.posted1 f.v1 || phaseTrigger s.meter.posted2 f.v2 || phaseTrigger s.meter.posted3 f.v3 then
    [.phaseVolts (postedNow s.meter.posted1 f.v1) (postedNow s.meter.posted2 f.v2) (postedNow s.meter.posted3 f.v3)]
  else []) ++
    if packTrigger s.meter.postedPack (packReading f) then [.packVolts (packReading f)] else []

namespace State

/-- The state after one sample, before the session looks at it. -/
def sampled (s : State) (f : FrontEnd) : State :=
  { s with
    meter := postedMeter s f
    budgetIn := s.budgetIn ++ samplePosts s f
    isoIn := s.isoIn ++ if packTrigger s.meter.postedPack (packReading f) then [packReading f] else [] }

theorem postPhases_eq (s : State) (v1 v2 v3 : Nat) :
    s.postPhases v1 v2 v3 =
      { s with
        meter :=
          { s.meter with
            posted1 := postedNow s.meter.posted1 v1, posted2 := postedNow s.meter.posted2 v2
            posted3 := postedNow s.meter.posted3 v3 }
        budgetIn :=
          s.budgetIn ++
            if phaseTrigger s.meter.posted1 v1 || phaseTrigger s.meter.posted2 v2 || phaseTrigger s.meter.posted3 v3 then
              [.phaseVolts (postedNow s.meter.posted1 v1) (postedNow s.meter.posted2 v2) (postedNow s.meter.posted3 v3)]
            else [] } := by
  unfold postPhases postedNow
  cases h : phaseTrigger s.meter.posted1 v1 || phaseTrigger s.meter.posted2 v2 || phaseTrigger s.meter.posted3 v3
  · simp only [Bool.or_eq_false_iff] at h
    obtain ⟨⟨h1, h2⟩, h3⟩ := h
    simp [h1, h2, h3]
  · simp [h, onMeter, State.postBudget]

theorem postPack_eq (s : State) (v : Option Nat) :
    s.postPack v =
      { s with
        meter := { s.meter with postedPack := if packTrigger s.meter.postedPack v then v else s.meter.postedPack }
        budgetIn := s.budgetIn ++ if packTrigger s.meter.postedPack v then [.packVolts v] else []
        isoIn := s.isoIn ++ if packTrigger s.meter.postedPack v then [v] else [] } := by
  unfold postPack
  cases h : packTrigger s.meter.postedPack v
  · simp
  · simp [onMeter, State.postBudget, State.postIso]

theorem sample_eq {s : State} {f : FrontEnd} (held : heldReadings f = f) :
    s.sample f = (s.sampled f).acVoltageCheck.rampCheck := by
  obtain ⟨u, hu⟩ : ∃ u, u = s.onMeter fun _ => sampledMeter s f := ⟨_, rfl⟩
  have step : s.sample f = ((u.postPhases f.v1 f.v2 f.v3).postPack (packReading f)).acVoltageCheck.rampCheck := by
    rw [hu]
    unfold sample
    rw [held]
    rfl
  have posted : u.meter.posted1 = s.meter.posted1 ∧ u.meter.posted2 = s.meter.posted2 ∧
      u.meter.posted3 = s.meter.posted3 ∧ u.meter.postedPack = s.meter.postedPack := by
    rw [hu]
    exact ⟨rfl, rfl, rfl, rfl⟩
  obtain ⟨p1, p2, p3, pk⟩ := posted
  rw [step, postPhases_eq, postPack_eq]
  simp only [p1, p2, p3, pk]
  rw [hu]
  simp only [sampled, postedMeter, samplePosts, onMeter, List.append_assoc]

/-! ### What the session makes of a sample (R10, R21) -/

theorem acVoltageCheck_closes {s : State} (hs : s.session.st = .energising) (hm : s.session.mode = some .ac)
    (ht : s.session.energiseTimer ≠ none) (hv : 1800 < s.meter.live.v1) :
    s.acVoltageCheck =
      { s with
        session := { s.session with acK := .closing, energiseTimer := none, closeTimer := some s.now }
        pins := { s.pins with kacDrive := true } }.acClosedCheck := by
  have runs : s.session.energiseTimer.isSome = true := Option.isSome_iff_ne_none.2 ht
  simp [acVoltageCheck, hs, hm, runs, acVoltage, hv, onSession, onPins]

theorem acVoltageCheck_stays {s : State}
    (h : ¬ (s.session.st = .energising ∧ s.session.mode = some .ac ∧ s.session.energiseTimer ≠ none ∧ 1800 < s.meter.live.v1)) :
    s.acVoltageCheck = s := by
  rw [acVoltageCheck, doIf_eq, if_neg]
  simpa [acVoltage, Option.isSome_iff_ne_none, and_assoc] using h

theorem rampCheck_opens {s : State} (hs : s.session.st = .stopping) (hr : s.session.rampTimer ≠ none) (hc : s.inletCurrent < 10) :
    s.rampCheck = s.openContactors := by
  have runs : s.session.rampTimer.isSome = true := Option.isSome_iff_ne_none.2 hr
  simp [rampCheck, hs, runs, hc]

theorem rampCheck_stays {s : State}
    (h : ¬ (s.session.st = .stopping ∧ s.session.rampTimer ≠ none ∧ s.inletCurrent < 10)) : s.rampCheck = s := by
  rw [rampCheck, doIf_eq, if_neg]
  simpa [Option.isSome_iff_ne_none, and_assoc] using h

end State

end Sys2Proof.Machine

namespace Sys2Proof.Proofs

open Machine Safety

/-! ### The sample (R128 to R134) -/

theorem sampled_isoIn (s : State) (f : FrontEnd) : onlyChanges [.meter, .budgetIn, .isoIn] s (s.sampled f) := by
  simp [State.sampled, onlyChanges]

theorem posted_pack {s t : State} {f : FrontEnd} (steered : Steered (s.sampled f) t) :
    (packMoved s.meter.postedPack (packReading f) → t.meter.postedPack = packReading f ∧ t.isoIn = s.isoIn ++ [packReading f] ∧
      BudgetPosting.packVolts (packReading f) ∈ t.budgetIn) ∧
    (¬ packMoved s.meter.postedPack (packReading f) → t.meter.postedPack = s.meter.postedPack ∧ t.isoIn = s.isoIn) := by
  have isoIn := onlyChanges_isoIn steered.frame
  have pack : t.meter.postedPack = (s.sampled f).meter.postedPack := by rw [steered.meter]
  rw [isoIn, pack]
  refine ⟨fun h => ?_, fun h => ?_⟩
  · have trigger := (packTrigger_iff _ _).2 h
    refine ⟨if_pos trigger, congrArg (s.isoIn ++ ·) (if_pos trigger), steered.budgetIn.subset ?_⟩
    refine List.mem_append_right _ (List.mem_append_right _ ?_)
    rw [trigger]
    exact List.mem_singleton_self _
  · have still := mt (packTrigger_iff _ _).1 h
    exact ⟨if_neg still, (congrArg (s.isoIn ++ ·) (if_neg still)).trans (List.append_nil _)⟩

theorem postedNow_moved {a b : Nat} (h : phaseTrigger a b = true) : postedNow a b = b := if_pos h

theorem postedNow_still {a b : Nat} (h : ¬ phaseTrigger a b = true) : postedNow a b = a := if_neg h

theorem posted_phases {s t : State} {f : FrontEnd} (steered : Steered (s.sampled f) t) :
    (t.meter.posted1 = postedNow s.meter.posted1 f.v1 ∧ t.meter.posted2 = postedNow s.meter.posted2 f.v2 ∧
      t.meter.posted3 = postedNow s.meter.posted3 f.v3) ∧
    (phaseTrigger s.meter.posted1 f.v1 = true ∨ phaseTrigger s.meter.posted2 f.v2 = true ∨
      phaseTrigger s.meter.posted3 f.v3 = true →
      BudgetPosting.phaseVolts t.meter.posted1 t.meter.posted2 t.meter.posted3 ∈ t.budgetIn) := by
  have posted : t.meter.posted1 = postedNow s.meter.posted1 f.v1 ∧ t.meter.posted2 = postedNow s.meter.posted2 f.v2 ∧
      t.meter.posted3 = postedNow s.meter.posted3 f.v3 := by
    rw [steered.meter]
    exact ⟨rfl, rfl, rfl⟩
  refine ⟨posted, fun h => steered.budgetIn.subset (List.mem_append_right _ (List.mem_append_left _ ?_))⟩
  obtain ⟨p1, p2, p3⟩ := posted
  rw [p1, p2, p3, if_pos (by simpa [or_assoc] using h)]
  exact List.mem_singleton_self _

/-- Settles O50: the sample as one change of the meter with its postings, then the session's two looks at it. -/
theorem meterSamples : Obligations.MeterSamples := by
  intro s f run
  refine ⟨fun rests => ?_, fun runs held => ?_⟩
  · show Host.Outcome.next (s.whenRun fun s => s.sampleEvent f) = _
    rw [State.whenRun_run run, State.sampleEvent, rests]
    rfl
  intro m pack pGrid pHeat pNet toGrid grid heatGrid heatPack net moved moved' current starts ramps
  obtain ⟨u, hu⟩ : ∃ u, u = s.sampled f := ⟨_, rfl⟩
  have exec_eq : exec (.meterSample f) s = .next u.acVoltageCheck.rampCheck := by
    show Host.Outcome.next (s.whenRun fun s => s.sampleEvent f) = _
    rw [State.whenRun_run run, State.sampleEvent, Option.isSome_iff_ne_none.2 runs, State.doIf_true, State.sample_eq held, hu]
  have frame : onlyChanges [.meter, .budgetIn, .isoIn] s u := hu ▸ sampled_isoIn s f
  have session := onlyChanges_session frame
  have pins := onlyChanges_pins frame
  have now := onlyChanges_now frame
  have iso := onlyChanges_iso frame
  have live : u.meter.live = liveOf s.meter.mode f := by rw [hu]; rfl
  have current_eq : u.inletCurrent = current := by
    unfold State.inletCurrent
    rw [live, session]
    rfl
  have starts_iff : starts ↔ u.session.st = .energising ∧ u.session.mode = some .ac ∧ u.session.energiseTimer ≠ none ∧
      1800 < u.meter.live.v1 := by
    rw [session, live]
    rfl
  have ramps_iff : ramps ↔ u.session.st = .stopping ∧ u.session.rampTimer ≠ none ∧ u.inletCurrent < 10 := by
    rw [session, current_eq]
  have apart : ¬ (starts ∧ ramps) := fun ⟨h, h'⟩ => by simpa [h.1] using h'.1
  have acted : ∃ t, u.acVoltageCheck.rampCheck = t ∧ Steered u t ∧
      (¬ (ramps ∧ contactsOpen s) → t.meter = u.meter) ∧ (¬ starts → ¬ ramps → t = u) ∧
      (starts → s.pins.kacFb = false → t = { u with
        session := { u.session with acK := .closing, energiseTimer := none, closeTimer := some u.now }
        pins := { u.pins with kacDrive := true } }) ∧
      (ramps → ¬ contactsOpen s → t = u.commandOpen) ∧
      (starts → s.pins.kacFb = true → t = ({ u with
        session := { u.session with acK := .closed, energiseTimer := none, closeTimer := none }
        pins := { u.pins with kacDrive := true } } : State).enterActive) ∧
      (ramps → contactsOpen s → stopDone s.session.stopCause s.session.fault u t) := by
    by_cases hs : starts
    · have hr : ¬ ramps := fun hr => apart ⟨hs, hr⟩
      obtain ⟨st, mode, timer, volts⟩ := starts_iff.1 hs
      obtain ⟨w, hw⟩ : ∃ w : State, w = { u with
        session := { u.session with acK := .closing, energiseTimer := none, closeTimer := some u.now }
        pins := { u.pins with kacDrive := true } } := ⟨_, rfl⟩
      have looks : u.acVoltageCheck.rampCheck = w.acClosedCheck.rampCheck := by
        rw [State.acVoltageCheck_closes st mode timer volts, hw]
      have kac : w.pins.kacFb = s.pins.kacFb := by rw [hw, ← pins]
      have wst : w.session.st = .energising := by rw [hw]; exact st
      have wacK : w.session.acK = .closing := by rw [hw]
      have steered : Steered u w := (Steered.refl u).set (ps := [.session, .pins]) (by rw [hw]; simp [onlyChanges])
        (warm := by rw [hw]; exact fun h => h) (sensors := by rw [hw]; exact ⟨rfl, rfl⟩)
      cases hf : s.pins.kacFb with
      | false =>
        have waits : w.acClosedCheck.rampCheck = w := by
          rw [State.acClosedCheck_stays (.inr (by rw [kac, hf]; simp)), State.rampCheck_stays (by simp [wst])]
        refine ⟨w, looks.trans waits, steered, fun _ => ?_, fun h => absurd hs h, fun _ _ => hw, fun h => absurd h hr,
          fun _ h => by simp at h, fun h => absurd h hr⟩
        rw [hw]
      | true =>
        have closed := State.acClosedCheck_closes wst wacK (kac.trans hf)
        have after := State.enterActive_closed (w.onSession fun x => { x with acK := .closed, closeTimer := none })
        have draws : w.acClosedCheck.rampCheck = w.acClosedCheck := by
          refine State.rampCheck_stays fun h => ?_
          rw [closed, after] at h
          have st := h.1
          simp only [State.closedState] at st
          split at st <;> simp at st
        refine ⟨w.acClosedCheck, looks.trans draws, ?_, fun _ => ?_, fun h => absurd hs h, fun _ h => by simp at h,
          fun h => absurd h hr, fun _ _ => ?_, fun h => absurd h hr⟩
        · rw [closed]
          exact (steered.onSession _).enterActive
        · rw [closed, after, hw]
          rfl
        · rw [closed, hw]
          rfl
    · have stays : u.acVoltageCheck = u := State.acVoltageCheck_stays (mt starts_iff.2 hs)
      rw [stays]
      by_cases hr : ramps
      · obtain ⟨st, timer, low⟩ := ramps_iff.1 hr
        have opens : u.rampCheck = u.openContactors := State.rampCheck_opens st timer low
        have opened : contactsOpen u ↔ contactsOpen s := by simp only [contactsOpen, pins]
        refine ⟨_, opens, (Steered.refl u).openContactors, fun h => ?_, fun _ h => absurd hr h, fun h => absurd h hs,
          fun _ closed => State.openContactors_waiting (mt opened.1 closed), fun h => absurd h hs, fun _ h => ?_⟩
        · rw [State.openContactors_waiting fun h' => h ⟨hr, opened.1 h'⟩]
          rfl
        · have stop : State.StopOpen u u :=
            { frame := onlyChanges_refl _ u, mode := rfl, station := rfl, lock := rfl, unlockOnStop := rfl
              plugLossSeen := rfl, prox := rfl, lockFb := rfl, st := st, opened := opened.2 h }
          have done := stop.done ((congrArg Power.part (onlyChanges_power frame)).trans run)
          rwa [session] at done
      · exact ⟨u, State.rampCheck_stays (mt ramps_iff.2 hr), Steered.refl u, fun _ => rfl, fun _ _ => rfl, fun h => absurd h hs,
          fun h => absurd h hr, fun h => absurd h hs, fun h => absurd h hr⟩
  obtain ⟨t, acts, steered, still, rests, closes, opens, draws, ended⟩ := acted
  rw [acts] at exec_eq
  have steered' : Steered (s.sampled f) t := hu ▸ steered
  obtain ⟨phases, posts⟩ := posted_phases steered'
  obtain ⟨p1, p2, p3⟩ := phases
  have pack_posted := posted_pack steered'
  have channel : heatChannelOf s.heating.source pGrid = if toGrid then .heatGrid else .heatPack := by
    simp only [toGrid, decide_eq_true_eq, heatChannelOf_eq]
  have power : liveOf m.mode f = { liveOf m.mode f with pGrid := pGrid, pHeat := pHeat, pPackNet := pNet } := by
    simp only [liveOf, heatPower_eq, packNetPower_eq]
    rfl
  have energy := Meter.integrate_eq m pHeat pNet toGrid channel
  have meter : u.meter = { m.integrate s.heating.source pGrid pHeat pNet with
      live := { liveOf m.mode f with pGrid := pGrid, pHeat := pHeat, pPackNet := pNet }
      sampleStamp := some s.now, period := some s.now, posted1 := u.meter.posted1, posted2 := u.meter.posted2
      posted3 := u.meter.posted3, postedPack := u.meter.postedPack } := by
    rw [← power, hu]
    show postedMeter s f = _
    rw [postedMeter, sampledMeter, show s.meter = m from rfl, power]
    rfl
  rw [energy] at meter
  refine ⟨t, u.meter, exec_eq, ?_⟩
  have quotient : net * 36 + (m.resPackNet + pNet).tmod 36 = m.resPackNet + pNet := by
    rw [Int.mul_comm]
    exact Int.mul_tdiv_add_tmod _ _
  have small : ((m.resPackNet + pNet).tmod 36).natAbs ≤ 35 := by
    rw [Int.natAbs_tmod]
    exact Nat.le_of_lt_succ (Nat.mod_lt _ (by decide))
  have phase (a b : Nat) : moved a b ↔ phaseTrigger a b = true := (phaseTrigger_iff a b).symm
  have taken (hd : m.channel.isOpen = true) : m.channel.take grid heatGrid heatPack net =
      { m.channel with
        grid := min accLimit (m.channel.grid + grid)
        heatGrid := min accLimit (m.channel.heatGrid + heatGrid)
        heatPack := min accLimit (m.channel.heatPack + heatPack) }.addNet net := by
    rw [Channel.take, if_pos hd]
  have refused (hd : m.channel.isOpen = false) : m.channel.take grid heatGrid heatPack net = m.channel := by
    simp [Channel.take, hd]
  refine ⟨by rw [meter]; rfl, by rw [meter], by rw [meter], by rw [meter], by rw [meter], by rw [meter], by rw [meter],
    by rw [meter]; exact quotient, by rw [meter]; exact small, by rw [meter]; rfl, by rw [meter]; rfl, by rw [meter]; rfl,
    by rw [meter]; rfl, by rw [meter], by rw [meter], by rw [meter], fun hd => by rw [meter]; exact refused hd,
    fun hd => by rw [meter]; exact taken hd, pack_posted.1, pack_posted.2,
    fun h => p1.trans (postedNow_moved ((phase _ _).1 h)), fun h => p1.trans (postedNow_still (mt (phase _ _).2 h)),
    fun h => p2.trans (postedNow_moved ((phase _ _).1 h)), fun h => p2.trans (postedNow_still (mt (phase _ _).2 h)),
    fun h => p3.trans (postedNow_moved ((phase _ _).1 h)), fun h => p3.trans (postedNow_still (mt (phase _ _).2 h)),
    fun h => posts (h.imp (phase _ _).1 (Or.imp (phase _ _).1 (phase _ _).1)), fun h1 h2 h3 hp hs hr => ?_, fun hs hr => ?_, fun hs hf => ?_, fun hr closed => ?_,
    fun hs hf => ?_, still, fun hr opened => ?_⟩
  case refine_1 =>
    have still' : ¬ packTrigger s.meter.postedPack (packReading f) = true := mt (packTrigger_iff _ _).1 hp
    have quiet : samplePosts s f = [] := by
      rw [samplePosts, if_neg, if_neg still']
      · rfl
      · simpa [← phase] using ⟨⟨h1, h2⟩, h3⟩
    rw [rests hs hr, hu]
    simp [onlyChanges, State.sampled, quiet, if_neg still']
  case refine_2 =>
    rw [rests hs hr]
    exact frame
  case refine_3 =>
    rw [closes hs hf]
    refine ⟨by rw [session, now], by rw [pins], onlyChanges_trans frame (qs := [.session, .pins]) ?_⟩
    simp [onlyChanges]
  case refine_4 =>
    rw [opens hr closed, State.commandOpen_eq]
    refine ⟨by rw [session, now], by rw [pins], onlyChanges_trans frame (qs := [.session, .pins]) ?_⟩
    simp [onlyChanges]
  case refine_5 =>
    intro c
    rw [draws hs hf, State.enterActive_closed]
    have causes : ({ u with
        session := { u.session with acK := .closed, energiseTimer := none, closeTimer := none }
        pins := { u.pins with kacDrive := true } } : State).closedCauses = c := by
      simp only [State.closedCauses, session, iso]
      rfl
    refine ⟨rfl, rfl, rfl, causes, ?_, onlyChanges_trans frame (qs := [.session, .pins, .heating, .link, .budgetIn]) ?_⟩
    · simp only [State.closedState, causes]
    · simp [onlyChanges, noticed]
  case refine_6 =>
    have isoIn : t.isoIn = u.isoIn := onlyChanges_isoIn steered.frame
    have same : State.SameStop { s with meter := u.meter, isoIn := t.isoIn } u := by
      refine ⟨?_, by rw [session], by rw [session], by rw [session], by rw [session], by rw [session], by rw [session],
        by rw [pins]⟩
      rw [isoIn, hu]
      simp [onlyChanges, State.sampled]
    exact State.stopDone_of same (ended hr opened)

end Sys2Proof.Proofs
end

section
/-! What an attempt's outcome leaves (R109, R110, R111, R123, R124). -/

-- One declaration at a time: each thread the elaborator opens takes its whole stack from the memory limit.
set_option Elab.async false

namespace Sys2Proof.Machine

open Safety

/-- R110: the outcomes that another attempt answers. -/
def AttemptOutcome.retried : AttemptOutcome → Bool
  | .accept _ => false
  | .reject => false
  | .retry => true
  | .checkError => true
  | .noResponse => true
  | .rxCheck => true

namespace State

theorem finishEntry_rests {s : State} (h : s.stage.entryWait = false) : s.finishEntry = s := by
  simp [finishEntry, h]

/-! ### The end of an attempt (R109, R110) -/

/-- R109: what a status byte other than ACCEPT tells of the attempt. -/
def slotOutcome (b : Byte) : AttemptOutcome :=
  if b = 2 then .retry else if b = 3 then .reject else if b = 4 then .checkError else .rxCheck

theorem slotOutcome_retried {b : Byte} (h : b ≠ 3) : (slotOutcome b).retried = true := by
  unfold slotOutcome
  split_ifs <;> rfl

theorem statusSlot_eq {s : State} {x : Transaction} (flight : s.stage.inFlight = some x) (awaits : x.phase = .awaitStatus) {b : Byte}
    (hb : b ≠ 1) : s.statusSlot b = s.attemptEnd x (slotOutcome b) := by
  unfold statusSlot slotOutcome
  rw [flight]
  simp only [awaits, if_true, if_neg hb]
  split_ifs <;> rfl

theorem statusSlot_accept {s : State} {x : Transaction} (flight : s.stage.inFlight = some x) (awaits : x.phase = .awaitStatus) :
    s.statusSlot 1 =
      if x.cmd.responds then s.onStage fun g => { g with inFlight := some { x with phase := .awaitResponse } }
      else s.attemptEnd x (.accept []) := by
  rw [statusSlot, flight]
  simp only [awaits, if_true]

theorem statusSlot_ignored {s : State} {x : Transaction} (flight : s.stage.inFlight = some x) (h : x.phase ≠ .awaitStatus) (b : Byte) :
    s.statusSlot b = s := by
  rw [statusSlot, flight]
  simp only [if_neg h]

theorem slotTimeout_eq {s : State} {x : Transaction} (flight : s.stage.inFlight = some x) (h : x.phase ≠ .retryWait) :
    s.slotTimeout = s.attemptEnd x .noResponse := by
  rw [slotTimeout, flight]
  simp only [if_neg h]

/-- A transaction has left the link, with the error record `e`. -/
def ended (s : State) (e : StageErrors) : State := { s with stage := { s.stage with inFlight := none, errors := e } }

/-- A transaction waits for another attempt, with the error record `e` (R110). -/
def retrying (s : State) (x : Transaction) (e : StageErrors) : State :=
  { s with stage := { s.stage with inFlight := some { x with phase := .retryWait }, errors := e } }

theorem attemptEnd_abandoned {s : State} {x : Transaction} (h : x.abandon = true) (o : AttemptOutcome) :
    s.attemptEnd x o = s.ended (s.stage.errors.mark o) := by
  simp [attemptEnd, h, onStage, ended]

section
variable {s : State} {x : Transaction} (h : x.abandon = false)
include h

theorem attemptEnd_accepted (p : List Byte) :
    s.attemptEnd x (.accept p) = (s.ended s.stage.errors).actFinal x (.accept p) := by
  simp [attemptEnd, h, endTransaction, onStage, ended, StageErrors.mark]

theorem attemptEnd_rejected :
    s.attemptEnd x .reject = (s.ended { s.stage.errors with rejected := true }).actFinal x .reject := by
  simp [attemptEnd, h, endTransaction, onStage, ended, StageErrors.mark]

theorem attemptEnd_retries {o : AttemptOutcome} (ho : o.retried = true) (more : x.attempt < 4) :
    s.attemptEnd x o = s.retrying x (s.stage.errors.mark o) := by
  cases o <;> simp_all [attemptEnd, retryOrFail, onStage, retrying, AttemptOutcome.retried]

theorem attemptEnd_fails {o : AttemptOutcome} (ho : o.retried = true) (last : 4 ≤ x.attempt) :
    s.attemptEnd x o = (s.ended (s.stage.errors.mark o)).actFinal x .failed := by
  have none_left : ¬ x.attempt < 4 := by omega
  cases o <;> simp_all [attemptEnd, retryOrFail, endTransaction, onStage, ended, AttemptOutcome.retried]

end

/-! ### The final outcome (R110, R111) -/

theorem actFinal_failed_other {s : State} {x : Transaction} (h : (s.node x.addr).st ≠ .active) : s.actFinal x .failed = s := by
  simp [actFinal, failedNode, doIf_eq, h]

theorem actFinal_failed {s : State} {x : Transaction} (h : (s.node x.addr).st = .active) :
    s.actFinal x .failed =
      (s.onStage fun g => { g with errors := { g.errors with lostEvent := true } }).leaveActive x.addr .lost := by
  simp [actFinal, failedNode, doIf_eq, h]

/-- R111: of a node that is ABSENT the outcome is discarded, of another one not ACTIVE a command that is answered by no frame
does nothing. -/
theorem actFinal_active {s : State} {x : Transaction} (o : FinalOutcome) (f : State → State)
    (ho : (s.node x.addr).st ≠ .absent → s.actFinal x o = s.doIf ((s.node x.addr).st == .active) f) :
    s.actFinal x o = s.doIf ((s.node x.addr).st == .active) f := by
  by_cases h : (s.node x.addr).st = .absent
  · simp [actFinal, doIf_eq, h]
  · exact ho h

theorem actFinal_setpoint {s : State} {x : Transaction} (hc : x.cmd = .setpoint) :
    s.actFinal x (.accept []) = s.doIf ((s.node x.addr).st == .active) (fun s => s.acknowledge x) ∧
      s.actFinal x .reject = s.doIf ((s.node x.addr).st == .active) fun s => s.rejectedSetpoint x :=
  ⟨actFinal_active _ _ fun h => by simp [actFinal, h, hc], actFinal_active _ _ fun h => by simp [actFinal, h, hc]⟩

theorem actFinal_isolation {s : State} {x : Transaction} (hc : x.cmd = .isolate ∨ x.cmd = .reconnect) :
    s.actFinal x (.accept []) = s.doIf ((s.node x.addr).st == .active) (fun s => s.isoOutcome x.cmd x.addr true) ∧
      s.actFinal x .reject = s.doIf ((s.node x.addr).st == .active) fun s => s.isoOutcome x.cmd x.addr false := by
  rcases hc with hc | hc <;>
    exact ⟨actFinal_active _ _ fun h => by simp [actFinal, h, hc], actFinal_active _ _ fun h => by simp [actFinal, h, hc]⟩

theorem actFinal_queried {s : State} {x : Transaction} (hc : x.cmd = .rollCall ∨ x.cmd = .statusQuery) : s.actFinal x .reject = s := by
  rcases hc with hc | hc <;> simp [actFinal, hc]

/-- R113: what a node that leaves ACTIVE while no search tests it leaves. -/
structure Departed (a : Nat) (st : NodeState) (s t : State) : Prop where
  st : (t.node a).st = st
  acked : (t.node a).acked = none
  headroom : (t.node a).headroom = 0
  normal : ∀ q ∈ t.stage.normal, q.addr ≠ a
  urgent : ∀ q ∈ t.stage.urgent, q.addr ≠ a
  stage : t.stage = { s.stage with nodes := t.stage.nodes, urgent := t.stage.urgent, normal := t.stage.normal }
  noticed : NoticeKind.stage ∈ t.link.notices
  frame : onlyChanges [.stage, .heating, .link, .budgetIn] s t

theorem mem_raise (s : State) (k : NoticeKind) : k ∈ (s.raise k).link.notices := by
  rw [raise_notices]
  split <;> simp_all

theorem leaveActive_departed {s : State} {a : Nat} (ha : 1 ≤ a) (hl : a ≤ s.stage.nodes.length)
    (free : ¬ (s.iso.st = .searching ∧ s.iso.search.under = some a)) {st : NodeState} (hst : st ≠ .active) :
    Departed a st s (s.leaveActive a st) := by
  rw [leaveActive_left free]
  obtain ⟨w, hw⟩ := left_node ha hl st fun n =>
    { n with st := st, pollTimer := none, refreshTimer := none, temp := none, headroom := 0, acked := none }
  obtain ⟨normal, urgent⟩ := left_noEntry ha hl st (f := fun n =>
    { n with st := st, pollTimer := none, refreshTimer := none, temp := none, headroom := 0, acked := none }) hst
  refine ⟨by rw [hw], by rw [hw], by rw [hw], normal, urgent, ?_, mem_raise _ _, onlyChanges_mono (left_elsewhere s a st _).frame⟩
  have told := (told_heated ((s.dropEntries a).onNode a fun n =>
    { n with st := st, pollTimer := none, refreshTimer := none, temp := none, headroom := 0, acked := none }) a st).commands.stage
  rw [left, told]
  cases a <;> rfl

end State

end Sys2Proof.Machine

namespace Sys2Proof.Machine.State

open Safety

/-- R123: a SETPOINT's acknowledgement, as one change. -/
theorem acknowledge_facts {s : State} {x : Transaction} (h1 : 1 ≤ x.addr) (hl : x.addr ≤ s.stage.nodes.length)
    (active : (s.node x.addr).st = .active) :
    (s.acknowledge x).node x.addr = { s.node x.addr with acked := some x.value, refreshTimer := some s.now } ∧
      (setpointDiffers (some x.value) (s.node x.addr).commanded = true →
        (⟨.setpoint, x.addr⟩ : StageEntry) ∈ (s.acknowledge x).stage.normal) ∧
      (setpointDiffers (some x.value) (s.node x.addr).commanded = false → (s.acknowledge x).stage.normal = s.stage.normal) ∧
      (s.acknowledge x).stage.inFlight = s.stage.inFlight ∧ (s.acknowledge x).stage.entryWait = s.stage.entryWait ∧
      onlyChanges [.stage] s (s.acknowledge x) := by
  obtain ⟨u, hu⟩ : ∃ u, u = s.onNode x.addr fun n => { n with acked := some x.value, refreshTimer := some s.now } := ⟨_, rfl⟩
  have row : u.node x.addr = { s.node x.addr with acked := some x.value, refreshTimer := some s.now } := by
    rw [hu, node_onNode_self s _ _ h1 hl]
  have stage : u.stage.normal = s.stage.normal ∧ u.stage.inFlight = s.stage.inFlight ∧ u.stage.entryWait = s.stage.entryWait := by
    rw [hu]
    cases x.addr <;> exact ⟨rfl, rfl, rfl⟩
  obtain ⟨normal, flight, entry⟩ := stage
  have frame : onlyChanges [.stage] s u := hu ▸ onNode_frame s _ _
  have step : s.acknowledge x =
      u.doIf (setpointDiffers (some x.value) (s.node x.addr).commanded) fun s => s.queueNormal .setpoint x.addr := by
    rw [acknowledge, ← hu, compareSetpoint, row]
    simp [active]
  rw [step]
  cases hd : setpointDiffers (some x.value) (s.node x.addr).commanded
  · exact ⟨row, fun h => by simp at h, fun _ => normal, flight, entry, frame⟩
  · have queued : (u.queueNormal .setpoint x.addr).stage.inFlight = u.stage.inFlight ∧
        (u.queueNormal .setpoint x.addr).stage.entryWait = u.stage.entryWait := by
      simp only [queueNormal, onStage]
      split <;> exact ⟨rfl, rfl⟩
    exact ⟨(node_congr (queueNormal_nodes u _ _) _).trans row, fun _ => mem_queueNormal u _ _, fun h => by simp at h,
      queued.1.trans flight, queued.2.trans entry, onlyChanges_trans frame (queueNormal_frame u _ _)⟩

theorem reconnectStep_outlying (s : State) (a : Nat) : Outlying s (s.reconnectStep a) := by
  refine Outlying.trans (t := s.queueReconnect a) ?_ (Outlying.of_frame (onSearch_frame _ _))
  refine (Outlying.queueUrgent s .reconnect a).trans ?_
  show Outlying _ ((s.queueUrgent .reconnect a).heatRelease a)
  unfold heatRelease atHeater
  split
  · exact Outlying.zoneStep _ _ _
  · exact Outlying.refl _

end Sys2Proof.Machine.State

namespace Sys2Proof.Proofs

open Machine Safety

/-- R113: the node that an attempt's last failure makes LOST. -/
theorem failed_lost {s : State} {x : Transaction} (h1 : 1 ≤ x.addr) (hl : x.addr ≤ s.stage.nodes.length)
    (active : (s.node x.addr).st = .active) (free : s.iso.search.under ≠ some x.addr) (e : StageErrors) :
    ∃ t, (s.ended e).actFinal x .failed = t ∧ t.stage.entryWait = s.stage.entryWait ∧ (t.node x.addr).st = .lost ∧
      (t.node x.addr).acked = none ∧ (t.node x.addr).headroom = 0 ∧ t.stage.errors = { e with lostEvent := true } ∧
      t.stage.inFlight = none ∧ (∀ q ∈ t.stage.normal, q.addr ≠ x.addr) ∧ (∀ q ∈ t.stage.urgent, q.addr ≠ x.addr) ∧
      NoticeKind.stage ∈ t.link.notices ∧ onlyChanges [.stage, .heating, .link, .budgetIn] s t := by
  obtain ⟨u, hu⟩ : ∃ u, u = (s.ended e).onStage fun g => { g with errors := { g.errors with lostEvent := true } } := ⟨_, rfl⟩
  have gone := State.leaveActive_departed (s := u) (a := x.addr) (st := .lost) h1 (by rw [hu]; exact hl)
    (by rw [hu]; exact fun h => free h.2) (by simp)
  have stage := gone.stage
  refine ⟨_, State.actFinal_failed (s := s.ended e) active, ?_⟩
  rw [← hu]
  have set : onlyChanges [.stage] s u := by simp [hu, State.ended, State.onStage, onlyChanges]
  refine ⟨?_, gone.st, gone.acked, gone.headroom, ?_, ?_, gone.normal, gone.urgent, gone.noticed, onlyChanges_trans set gone.frame⟩
  · rw [stage, hu]
    rfl
  · rw [stage, hu]
    rfl
  · rw [stage, hu]
    rfl

/-- Settles O46: the outcome of the attempt, then the final outcome by the command. -/
theorem attemptOutcomes : Obligations.AttemptOutcomes := by
  intro s x flight free ended waits err lost row
  have slot {b : Byte} {t : State} (h : s.statusSlot b = t) (ht : t.stage.entryWait = false) :
      exec (.statusSlotReceived b) s = .next t := by
    show Host.Outcome.next (s.statusSlot b).finishEntry = _
    rw [h, State.finishEntry_rests ht]
  have timeout {t : State} (h : s.slotTimeout = t) (ht : t.stage.entryWait = false) :
      exec .slotWaitTimeout s = .next t := by
    show Host.Outcome.next s.slotTimeout.finishEntry = _
    rw [h, State.finishEntry_rests ht]
  have error (b : Byte) : s.stage.errors.mark (State.slotOutcome b) = err b := by
    unfold State.slotOutcome err
    split_ifs <;> rfl
  have failed_ended (h : (s.node x.addr).st ≠ .active) (e : StageErrors) : (s.ended e).actFinal x .failed = ended e :=
    State.actFinal_failed_other (s := s.ended e) h
  have rejects (hb : x.abandon = false) (ha : x.phase = .awaitStatus) : s.statusSlot 3 = (ended (err 3)).actFinal x .reject :=
    (State.statusSlot_eq flight ha (by decide)).trans (State.attemptEnd_rejected hb)
  have accepts (hb : x.abandon = false) (ha : x.phase = .awaitStatus) (hr : x.cmd.responds = false) :
      s.statusSlot 1 = (ended s.stage.errors).actFinal x (.accept []) := by
    rw [State.statusSlot_accept flight ha, hr]
    exact State.attemptEnd_accepted hb []
  refine ⟨fun h b => ?_, fun ha hb b h1 => ?_, fun ha hc => ?_, fun ha hb hc active hrow => ?_, fun ha hb more b h1 h3 => ?_,
    fun ha hb hc => ?_, fun ha hb hc same => ?_, fun ha hb hc => ?_, fun ha hb last active hrow under b h1 h3 => ?_,
    fun ha hb last other b h1 h3 => ?_, fun ha hb last other => ?_, fun ha => ?_, fun ha hb more => ?_,
    fun ha hb last active hrow under => ?_⟩
  case refine_1 => exact slot (State.statusSlot_ignored flight h b) free
  case refine_2 =>
    refine slot ?_ free
    rw [State.statusSlot_eq flight ha h1, State.attemptEnd_abandoned hb, error]
    rfl
  case refine_3 =>
    have responds : x.cmd.responds = true := by rcases hc with hc | hc <;> rw [hc] <;> rfl
    refine slot ?_ free
    rw [State.statusSlot_accept flight ha, if_pos responds]
    rfl
  case refine_4 =>
    obtain ⟨node, differs, same, gone, entry, frame⟩ :=
      State.acknowledge_facts (s := ended s.stage.errors) (x := x) hrow.1 hrow.2 active
    have set : onlyChanges [.stage] s (ended s.stage.errors) := by simp [ended, onlyChanges]
    have acked : s.statusSlot 1 = (ended s.stage.errors).acknowledge x := by
      rw [accepts hb ha (by rw [hc]; rfl), (State.actFinal_setpoint hc).1,
        show ((ended s.stage.errors).node x.addr).st = .active from active]
      rfl
    exact ⟨_, slot acked (entry.trans free), gone, node, differs, same, onlyChanges_trans set frame⟩
  case refine_5 =>
    refine slot ?_ free
    rw [State.statusSlot_eq flight ha h1, State.attemptEnd_retries hb (State.slotOutcome_retried h3) more, error]
    rfl
  case refine_6 => exact slot ((rejects hb ha).trans (State.actFinal_queried hc)) free
  case refine_7 =>
    refine slot ((rejects hb ha).trans ?_) free
    rw [(State.actFinal_setpoint hc).2, State.doIf_eq]
    split
    · show (ended (err 3)).doIf ((s.node x.addr).commanded != x.value) _ = _
      rw [same, show (x.value != x.value) = false by simp]
      rfl
    · rfl
  case refine_8 =>
    have silent : x.cmd.responds = false := by rcases hc with hc | hc <;> rw [hc] <;> rfl
    refine ⟨fun away => ?_, fun ht active => ?_⟩
    · have nothing (u : State) (iso : u.iso = s.iso) (b : Bool) : u.isoOutcome x.cmd x.addr b = u := by
        refine if_neg ?_
        rw [iso]
        exact fun h => away ⟨h.2.2, h.1, h.2.1⟩
      have both (u : State) (iso : u.iso = s.iso) (c b : Bool) : (u.doIf c fun s => s.isoOutcome x.cmd x.addr b) = u := by
        cases c
        · rfl
        · exact nothing u iso b
      exact ⟨slot ((accepts hb ha silent).trans ((State.actFinal_isolation hc).1.trans (both (ended s.stage.errors) rfl _ _))) free,
        slot ((rejects hb ha).trans ((State.actFinal_isolation hc).2.trans (both (ended (err 3)) rfl _ _))) free⟩
    · obtain ⟨cmd, under, phase⟩ := ht
      have does (u : State) (iso : u.iso = s.iso) (hu : (u.node x.addr).st = .active) (b : Bool) :
          (u.doIf ((u.node x.addr).st == .active) fun s => s.isoOutcome x.cmd x.addr b) =
            if b then u.onSearch fun x => { x with accepted := true } else (u.markEntry .skipped).reconnectStep x.addr := by
        rw [hu, show (NodeState.active == NodeState.active) = true from rfl, State.doIf_true, State.isoOutcome, iso,
          if_pos ⟨under, phase, cmd⟩]
      refine ⟨slot ((accepts hb ha silent).trans ((State.actFinal_isolation hc).1.trans (does (ended s.stage.errors) rfl active _))) free, ?_⟩
      obtain ⟨v, hv⟩ : ∃ v, v = (ended (err 3)).markEntry .skipped := ⟨_, rfl⟩
      have skipped := (rejects hb ha).trans ((State.actFinal_isolation hc).2.trans (does (ended (err 3)) rfl active false))
      rw [if_neg (by simp), ← hv] at skipped
      have iso := State.reconnectStep_iso v x.addr
      have stage := (State.reconnectStep_outlying v x.addr).stage
      refine ⟨_, slot skipped ?_, ?_, ?_, ?_, ?_, ?_, ?_, ?_⟩
      · rw [stage, hv]
        exact free
      · rw [stage, hv]
        rfl
      · rw [stage, hv]
        rfl
      · rw [iso, hv]
        rfl
      · rw [iso]
        rfl
      · rw [iso, hv]
        rfl
      · exact State.mem_queueReconnect (s := v) (by rw [hv]; exact active)
      · have set : onlyChanges [.stage, .iso] s v := by
          simp [hv, ended, State.markEntry, State.onSearch, State.onIso, onlyChanges]
        exact onlyChanges_trans set (State.reconnectStep_frame v x.addr)
  case refine_9 =>
    obtain ⟨t, ht, entry, facts⟩ := failed_lost hrow.1 hrow.2 active under (err b)
    refine ⟨t, slot ?_ (entry.trans free), facts⟩
    rw [State.statusSlot_eq flight ha h1, State.attemptEnd_fails hb (State.slotOutcome_retried h3) last, error, ht]
  case refine_10 =>
    refine slot ?_ free
    rw [State.statusSlot_eq flight ha h1, State.attemptEnd_fails hb (State.slotOutcome_retried h3) last, error,
      failed_ended other]
  case refine_11 =>
    refine timeout ?_ free
    rw [State.slotTimeout_eq flight ha, State.attemptEnd_fails hb rfl last, failed_ended other]
    rfl
  case refine_12 =>
    refine timeout ?_ free
    rw [State.slotTimeout, flight]
    exact if_pos ha
  case refine_13 =>
    refine timeout ?_ free
    rw [State.slotTimeout_eq flight ha, State.attemptEnd_retries hb rfl more]
    rfl
  case refine_14 =>
    obtain ⟨t, ht, entry, facts⟩ := failed_lost hrow.1 hrow.2 active under (s.stage.errors.mark .noResponse)
    refine ⟨t, timeout ?_ (entry.trans free), facts⟩
    rw [State.slotTimeout_eq flight ha, State.attemptEnd_fails hb rfl last, ht]

end Sys2Proof.Proofs
end

section
/-! Response frames: what a join, a mismatch and a status reply leave (R102, R112, R113, R121, R199). -/

-- One declaration at a time: each thread the elaborator opens takes its whole stack from the memory limit.
set_option Elab.async false

namespace Sys2Proof.Machine

open Safety

namespace State

/-! ### The row of a zone after a step (R54) -/

theorem zoneStep_zone {s : State} {n : Nat} (f : Zone → Zone) (h1 : 1 ≤ n) (hl : n ≤ s.heating.zones.length) :
    (s.zoneStep n f).zone n = (f (s.zone n)).refresh := by
  obtain ⟨i, rfl⟩ : ∃ i, n = i + 1 := ⟨n - 1, by omega⟩
  obtain ⟨rows, -, -, -⟩ := heatStep_stepped s [] [] false fun h => { h with zones := h.zones.modify i f }
  obtain ⟨zones, -⟩ := rows.fields
  have hi : i < s.heating.zones.length := by omega
  show ((s.zoneStep (i + 1) f).heating.zones.getD i {}) = _
  rw [show s.zoneStep (i + 1) f = s.heatStep [] [] false fun h => { h with zones := h.zones.modify i f } from rfl, zones]
  simp [zone, hi]

theorem atHeater_zone {s : State} {a : Nat} (f : Zone → Zone) (h4 : 4 ≤ a) (h11 : a ≤ 11) (hz : s.heating.zones.length = 8) :
    (s.atHeater a fun n s => s.zoneStep n f).zone (a - 3) = (f (s.zone (a - 3))).refresh := by
  rw [atHeater, if_pos ⟨h4, h11⟩]
  exact zoneStep_zone f (by omega) (by omega)

theorem atHeater_zones_length (s : State) (a : Nat) (f : Zone → Zone) :
    (s.atHeater a fun n s => s.zoneStep n f).heating.zones.length = s.heating.zones.length := by
  unfold atHeater
  split
  · exact zoneStep_zones_length s _ _
  · rfl

/-! ### Steps that leave the node table alone but for commanded setpoints -/

/-- The rows stand but for their commanded setpoints, and of the rest of the link the queues alone moved. -/
structure Rowed (s t : State) : Prop where
  rows : ∀ a, ∃ w, t.node a = { s.node a with commanded := w }
  length : t.stage.nodes.length = s.stage.nodes.length
  held : ∀ a, (s.node a).isolated = true → (s.node a).commanded = 0 → (t.node a).commanded = 0
  stage : t.stage = { s.stage with nodes := t.stage.nodes, urgent := t.stage.urgent, normal := t.stage.normal }
  zones : t.heating.zones.length = s.heating.zones.length
  frame : onlyChanges [.heating, .stage, .budgetIn, .link] s t

namespace Rowed

variable {s t u : State}

theorem refl (s : State) : Rowed s s := ⟨fun _ => ⟨_, rfl⟩, rfl, fun _ _ h => h, rfl, rfl, onlyChanges_refl _ s⟩

theorem trans (h : Rowed s t) (k : Rowed t u) : Rowed s u where
  rows a := by
    obtain ⟨w, hw⟩ := h.rows a
    obtain ⟨w', hw'⟩ := k.rows a
    exact ⟨w', by rw [hw', hw]⟩
  length := k.length.trans h.length
  held a hi hc := by
    obtain ⟨w, hw⟩ := h.rows a
    exact k.held a (by rw [hw]; exact hi) (h.held a hi hc)
  stage := by rw [k.stage, h.stage]
  zones := k.zones.trans h.zones
  frame := onlyChanges_trans h.frame k.frame

theorem of_heated (h : Heated s t) (zones : t.heating.zones.length = s.heating.zones.length) : Rowed s t :=
  ⟨h.commands.rows, h.commands.length, h.commands.held, by rw [h.commands.stage], zones, h.frame⟩

theorem of_queues (nodes : t.stage.nodes = s.stage.nodes)
    (stage : t.stage = { s.stage with nodes := t.stage.nodes, urgent := t.stage.urgent, normal := t.stage.normal })
    (frame : onlyChanges [.stage] s t) : Rowed s t where
  rows a := ⟨(s.node a).commanded, by rw [node_congr nodes]⟩
  length := by rw [nodes]
  held a _ hc := by rw [node_congr nodes]; exact hc
  stage := stage
  zones := by rw [onlyChanges_heating frame]
  frame := onlyChanges_mono frame

theorem queueUrgent (s : State) (c : StageCmd) (a : Nat) : Rowed s (s.queueUrgent c a) := by
  refine of_queues (queueUrgent_nodes s c a) ?_ (queueUrgent_frame s c a)
  unfold State.queueUrgent
  split
  · dsimp only [onStage]
    split <;> rfl
  · rfl

theorem queueNormal (s : State) (c : StageCmd) (a : Nat) : Rowed s (s.queueNormal c a) := by
  refine of_queues (queueNormal_nodes s c a) ?_ (queueNormal_frame s c a)
  dsimp only [State.queueNormal, onStage]
  split <;> rfl

theorem queueReconnect (s : State) (a : Nat) : Rowed s (s.queueReconnect a) :=
  (queueUrgent s _ a).trans (of_heated (heatRelease_heated _ a) (atHeater_zones_length _ a _))

theorem queueIsolate (s : State) (a : Nat) : Rowed s (s.queueIsolate a) := by
  rw [State.queueIsolate, doIf_eq]
  split
  · exact (queueUrgent s _ a).trans (of_heated (heatIsolate_heated _ a) (atHeater_zones_length _ a _))
  · exact refl s

theorem raise (s : State) (k : NoticeKind) : Rowed s (s.raise k) := of_heated (raise_heated s k) rfl

theorem postCharger (s : State) (a : Nat) : Rowed s (s.postCharger a) :=
  of_heated (postCharger_heated s a) (by rw [onlyChanges_heating (postCharger_frame s a)])

theorem doIf {c : Bool} {f : State → State} (hf : ∀ u, Rowed u (f u)) (s : State) : Rowed s (s.doIf c f) := by
  cases c
  · exact refl s
  · exact hf s

end Rowed

/-! ### A join (R102, R113) -/

theorem isoJoin_rowed (s : State) (a : Nat) : Rowed s (s.isoJoin a) := by
  unfold isoJoin
  split
  · exact Rowed.queueIsolate s a
  · exact Rowed.queueReconnect s a

/-- R102: a node that joins is isolated or reconnected as the memory has it. -/
theorem isoJoin_queues {s : State} {a : Nat} (active : (s.node a).st = .active) :
    (a ∈ s.iso.memory → (⟨.isolate, a⟩ : StageEntry) ∈ (s.isoJoin a).stage.urgent) ∧
      (a ∉ s.iso.memory → (⟨.reconnect, a⟩ : StageEntry) ∈ (s.isoJoin a).stage.urgent) := by
  refine ⟨fun h => ?_, fun h => ?_⟩
  · rw [isoJoin, if_pos (by simpa using h)]
    exact mem_queueIsolate active
  · rw [isoJoin, if_neg (by simpa using h)]
    exact mem_queueReconnect active

/-- A node's row as a join leaves it (R113). -/
def joinedRow (n : Node) (rating : Nat) : Node :=
  { n with
    st := .active, rating := some rating, headroom := 0, temp := none, faultA := false, faultB := false
    isolated := false, acked := none, replyStamp := none }

/-- A join as far as the memory's command (R102). -/
def joinStart (s : State) (a rating : Nat) : State :=
  ((s.onNode a fun n => joinedRow n rating).onStage fun g =>
    { g with normal := g.normal.filter fun e => e != ⟨.rollCall, a⟩ }).isoJoin a

theorem join_eq (s : State) (a rating : Nat) :
    s.join a rating =
      (((((((s.joinStart a rating).heatRollCall a .active rating).postCharger a).queueNormal .statusQuery a).queueNormal
        .setpoint a).onNode a fun n => { n with pollTimer := some s.now, refreshTimer := some s.now }).raise .stage) := by
  have now : ((((s.joinStart a rating).heatRollCall a .active rating).postCharger a).queueNormal .statusQuery a).now = s.now := by
    rw [onlyChanges_now (queueNormal_frame _ _ _), onlyChanges_now (postCharger_frame _ _),
      onlyChanges_now (heatRollCall_heated _ _ _ _).frame, joinStart, onlyChanges_now (isoJoin_rowed _ _).frame]
    exact (onlyChanges_now (onStage_frame _ _)).trans (onlyChanges_now (onNode_frame s a _))
  have now' : (((((s.joinStart a rating).heatRollCall a .active rating).postCharger a).queueNormal .statusQuery a).queueNormal
      .setpoint a).now = s.now := (onlyChanges_now (queueNormal_frame _ _ _)).trans now
  rw [← now']
  rfl

theorem join_facts {s : State} {a : Nat} (h1 : 1 ≤ a) (h11 : a ≤ 11) (hl : s.stage.nodes.length = 11)
    (hz : s.heating.zones.length = 8) (rating : Nat) :
    (∃ w, (s.join a rating).node a =
      { joinedRow (s.node a) rating with commanded := w, pollTimer := some s.now, refreshTimer := some s.now }) ∧
      (⟨.statusQuery, a⟩ : StageEntry) ∈ (s.join a rating).stage.normal ∧
      (⟨.setpoint, a⟩ : StageEntry) ∈ (s.join a rating).stage.normal ∧
      (a ∈ s.iso.memory → (⟨.isolate, a⟩ : StageEntry) ∈ (s.join a rating).stage.urgent) ∧
      (a ∉ s.iso.memory → (⟨.reconnect, a⟩ : StageEntry) ∈ (s.join a rating).stage.urgent) ∧
      (4 ≤ a → ((s.join a rating).zone (a - 3)).node = .active ∧
        ((s.join a rating).zone (a - 3)).rating = if legalRating rating then some rating else none) ∧
      (s.join a rating).stage.inFlight = s.stage.inFlight ∧ (s.join a rating).stage.entryWait = s.stage.entryWait ∧
      NoticeKind.stage ∈ (s.join a rating).link.notices ∧ onlyChanges [.stage, .heating, .link, .budgetIn] s (s.join a rating) := by
  obtain ⟨u, hu⟩ : ∃ u, u = (s.onNode a fun n => joinedRow n rating).onStage fun g =>
    { g with normal := g.normal.filter fun e => e != ⟨.rollCall, a⟩ } := ⟨_, rfl⟩
  obtain ⟨v, hv⟩ : ∃ v, v = u.isoJoin a := ⟨_, rfl⟩
  obtain ⟨w, hw⟩ : ∃ w, w = ((v.heatRollCall a .active rating).postCharger a).queueNormal .statusQuery a := ⟨_, rfl⟩
  obtain ⟨x, hx⟩ : ∃ x, x = w.queueNormal .setpoint a := ⟨_, rfl⟩
  have step : s.join a rating = (x.onNode a fun n => { n with pollTimer := some s.now, refreshTimer := some s.now }).raise .stage := by
    rw [join_eq, hx, hw, hv, hu]
    rfl
  have row : u.node a = joinedRow (s.node a) rating := by
    rw [hu]
    exact node_onNode_self s a _ h1 (by omega)
  have set : onlyChanges [.stage] s u := by
    rw [hu]
    exact onlyChanges_trans (onNode_frame s a _) (onStage_frame _ _)
  have queues : u.stage.inFlight = s.stage.inFlight ∧ u.stage.entryWait = s.stage.entryWait := by
    rw [hu]
    cases a <;> exact ⟨rfl, rfl⟩
  have length : u.stage.nodes.length = 11 := by
    rw [← hl, hu]
    exact onNode_length s a _
  have joined : Rowed u v := hv ▸ isoJoin_rowed u a
  have told : Rowed v ((v.heatRollCall a .active rating).postCharger a) :=
    (Rowed.of_heated (heatRollCall_heated v a _ _) (atHeater_zones_length v a _)).trans (Rowed.postCharger _ a)
  have queued : Rowed v x := by
    rw [hx, hw]
    exact (told.trans (Rowed.queueNormal _ _ a)).trans (Rowed.queueNormal _ _ a)
  have rowed := joined.trans queued
  have hlx : a ≤ x.stage.nodes.length := by rw [rowed.length, length]; exact h11
  obtain ⟨c, hc⟩ := rowed.rows a
  have isolation := isoJoin_queues (s := u) (a := a) (by rw [row]; rfl)
  rw [onlyChanges_iso set, ← hv] at isolation
  have urgent : (s.join a rating).stage.urgent = v.stage.urgent := by
    rw [step, onlyChanges_stage (raise_frame _ _)]
    have queues (t : State) (q : StageCmd) : (t.queueNormal q a).stage.urgent = t.stage.urgent := by
      simp only [State.queueNormal, onStage]
      split <;> rfl
    have timers : (x.onNode a fun n => { n with pollTimer := some s.now, refreshTimer := some s.now }).stage.urgent =
        x.stage.urgent := by cases a <;> rfl
    rw [timers, hx, queues, hw, queues, onlyChanges_stage (postCharger_frame _ _), (heatRollCall_heated v a _ _).commands.urgent]
  have normal : (s.join a rating).stage.normal = x.stage.normal := by
    rw [step, onlyChanges_stage (raise_frame _ _)]
    cases a <;> rfl
  have heating : (s.join a rating).heating = (v.heatRollCall a .active rating).heating := by
    rw [step, onlyChanges_heating (raise_frame _ _), onlyChanges_heating (onNode_frame _ _ _), hx,
      onlyChanges_heating (queueNormal_frame _ _ _), hw, onlyChanges_heating (queueNormal_frame _ _ _),
      onlyChanges_heating (postCharger_frame _ _)]
  have stage : (s.join a rating).stage.inFlight = x.stage.inFlight ∧ (s.join a rating).stage.entryWait = x.stage.entryWait := by
    rw [step, onlyChanges_stage (raise_frame _ _)]
    cases a <;> exact ⟨rfl, rfl⟩
  rw [urgent, normal]
  refine ⟨⟨c, ?_⟩, ?_, hx ▸ mem_queueNormal _ _ _, isolation.1, isolation.2, fun h4 => ?_, ?_, ?_, ?_, ?_⟩
  · rw [step]
    refine (node_onNode_self x a _ h1 hlx).trans ?_
    rw [hc, row]
  · rw [hx]
    simp only [State.queueNormal, onStage]
    split
    · exact hw ▸ mem_queueNormal _ _ _
    · exact List.mem_append_left _ (hw ▸ mem_queueNormal _ _ _)
  · have zone : (s.join a rating).zone (a - 3) = (v.heatRollCall a .active rating).zone (a - 3) := by
      unfold State.zone
      rw [heating]
    rw [zone, heatRollCall, atHeater_zone _ h4 h11 (by rw [joined.zones, onlyChanges_heating set]; exact hz)]
    exact ⟨rfl, rfl⟩
  · rw [stage.1, rowed.stage]
    exact queues.1
  · rw [stage.2, rowed.stage]
    exact queues.2
  · rw [step]
    exact mem_raise _ _
  · rw [step]
    refine onlyChanges_trans (onlyChanges_trans set rowed.frame (rs := [.stage, .heating, .link, .budgetIn])) ?_
      (qs := [.stage, .link])
    exact onlyChanges_trans (onNode_frame _ _ _) (raise_frame _ _)

/-! ### A mismatch (R112) -/

theorem mismatchReply_facts {s : State} {a : Nat} (h1 : 1 ≤ a) (h11 : a ≤ 11) (hl : s.stage.nodes.length = 11)
    (hz : s.heating.zones.length = 8) (rating : Nat) :
    ((s.mismatchReply a rating).node a).st = .mismatch ∧ ((s.mismatchReply a rating).node a).rating = some rating ∧
      (4 ≤ a → ((s.mismatchReply a rating).zone (a - 3)).node = .mismatch) ∧
      (s.mismatchReply a rating).stage.inFlight = s.stage.inFlight ∧
      (s.mismatchReply a rating).stage.entryWait = s.stage.entryWait ∧
      onlyChanges [.stage, .heating, .link, .budgetIn] s (s.mismatchReply a rating) := by
  obtain ⟨u, hu⟩ : ∃ u, u = s.onNode a fun n => { n with st := .mismatch, rating := some rating } := ⟨_, rfl⟩
  have row : u.node a = { s.node a with st := .mismatch, rating := some rating } := by
    rw [hu]
    exact node_onNode_self s a _ h1 (by omega)
  have set : onlyChanges [.stage] s u := hu ▸ onNode_frame s a _
  have queues : u.stage.inFlight = s.stage.inFlight ∧ u.stage.entryWait = s.stage.entryWait := by
    rw [hu]
    cases a <;> exact ⟨rfl, rfl⟩
  have step : s.mismatchReply a rating =
      (u.heatRollCall a .mismatch rating).doIf ((s.node a).st != .mismatch) fun s => (s.postCharger a).raise .stage := by
    rw [hu]
    rfl
  have told : Rowed (u.heatRollCall a .mismatch rating) (s.mismatchReply a rating) := by
    rw [step]
    exact Rowed.doIf (fun t => (Rowed.postCharger t a).trans (Rowed.raise _ _)) _
  have rowed := (Rowed.of_heated (heatRollCall_heated u a _ _) (atHeater_zones_length u a _)).trans told
  obtain ⟨c, hc⟩ := rowed.rows a
  refine ⟨by rw [hc, row], by rw [hc, row], fun h4 => ?_, ?_, ?_, onlyChanges_trans set rowed.frame⟩
  · have heating : (s.mismatchReply a rating).heating = (u.heatRollCall a .mismatch rating).heating := by
      rw [step]
      exact onlyChanges_heating (onlyChanges_doIf (onlyChanges_trans (postCharger_frame _ _) (raise_frame _ _) (rs := [.budgetIn, .link])))
    have zone : (s.mismatchReply a rating).zone (a - 3) = (u.heatRollCall a .mismatch rating).zone (a - 3) := by
      unfold State.zone
      rw [heating]
    rw [zone, heatRollCall, atHeater_zone _ h4 h11 (by rw [onlyChanges_heating set]; exact hz)]
    rfl
  · rw [rowed.stage]
    exact queues.1
  · rw [rowed.stage]
    exact queues.2

/-! ### A status reply (R121) -/

theorem compareSetpoint_heated (s : State) (a : Nat) : Heated s (s.compareSetpoint a) where
  commands := by
    unfold compareSetpoint
    exact (Commands.refl s).doIf _ fun h => Commands.queueSetpoint (by simp_all)
  frame := onlyChanges_mono (compareSetpoint_frame s a)
  onward := Onward.of_frame (compareSetpoint_frame s a)

theorem Heated.doIf {s t : State} (h : Heated s t) (c : Bool) {f : State → State} (hf : ∀ u, Heated u (f u)) : Heated s (t.doIf c f) := by
  cases c
  · exact h
  · exact h.trans (hf t)

/-- A status reply taken into the row, with what the row is told to, as far as the monitor (R121). -/
def rowTaken (s : State) (a : Nat) (p : List Byte) : State :=
  let u := s.onNode a fun n => n.takeReply p s.now
  let new := u.node a
  ((u.doIf (new.commanded != (s.node a).commanded) fun s => s.compareSetpoint a).doIf
    (new.headroom != (s.node a).headroom || new.isolated != (s.node a).isolated) fun s => s.postCharger a).heatReply a new.temp
      new.faultA new.faultB new.isolated

theorem takeReply_eq {s : State} {a : Nat} (h1 : 1 ≤ a) (hl : a ≤ s.stage.nodes.length) (p : List Byte) :
    s.takeReply a p =
      ((s.rowTaken a p).isoReply a ((p.getD 5 0).getLsbD 1)).doIf
        (((s.node a).takeReply p s.now).faultA != (s.node a).faultA || ((s.node a).takeReply p s.now).faultB != (s.node a).faultB ||
          ((s.node a).takeReply p s.now).isolated != (s.node a).isolated) fun s => s.raise .stage := by
  have row := node_onNode_self s a (fun n => n.takeReply p s.now) h1 hl
  unfold takeReply rowTaken
  dsimp only
  rw [row]
  rfl

/-- R121: the row, the zone and the rest of the link after a status reply was taken. -/
structure RowTaken (a : Nat) (p : List Byte) (s t : State) : Prop where
  row : ∃ w, t.node a = { (s.node a).takeReply p s.now with commanded := w }
  held : (p.getD 5 0).getLsbD 1 = true → (t.node a).commanded = 0
  zone : 4 ≤ a → (t.zone (a - 3)).replyStamp = some s.now ∧
    (t.zone (a - 3)).temp = if (p.getD 5 0).getLsbD 2 then none else ((s.node a).takeReply p s.now).temp
  urgent : t.stage.urgent = s.stage.urgent
  stage : t.stage = { s.stage with nodes := t.stage.nodes, urgent := t.stage.urgent, normal := t.stage.normal }
  length : t.stage.nodes.length = s.stage.nodes.length
  zones : t.heating.zones.length = s.heating.zones.length
  frame : onlyChanges [.stage, .heating, .link, .budgetIn] s t

theorem rowTaken_facts {s : State} {a : Nat} (h1 : 1 ≤ a) (h11 : a ≤ 11) (hl : s.stage.nodes.length = 11)
    (hz : s.heating.zones.length = 8) (p : List Byte) : RowTaken a p s (s.rowTaken a p) := by
  obtain ⟨u, hu⟩ : ∃ u, u = s.onNode a fun n => n.takeReply p s.now := ⟨_, rfl⟩
  have row : u.node a = (s.node a).takeReply p s.now := hu ▸ node_onNode_self s a _ h1 (by omega)
  have set : onlyChanges [.stage] s u := hu ▸ onNode_frame s a _
  have queues : u.stage = { s.stage with nodes := u.stage.nodes } := by
    rw [hu]
    cases a <;> rfl
  obtain ⟨v, hv⟩ : ∃ v, v = (u.doIf ((u.node a).commanded != (s.node a).commanded) fun s => s.compareSetpoint a).doIf
    ((u.node a).headroom != (s.node a).headroom || (u.node a).isolated != (s.node a).isolated) fun s => s.postCharger a := ⟨_, rfl⟩
  have step : s.rowTaken a p = v.heatReply a (u.node a).temp (u.node a).faultA (u.node a).faultB (u.node a).isolated := by
    rw [hv, hu]
    rfl
  have first : Heated u v := hv ▸ ((Heated.refl u).doIf _ fun t => compareSetpoint_heated t a).doIf _ fun t => postCharger_heated t a
  have heatingV : v.heating = u.heating := by
    have moved : onlyChanges [.stage, .budgetIn] u v := by
      rw [hv]
      exact onlyChanges_trans (onlyChanges_doIf (f := fun s => s.compareSetpoint a) (compareSetpoint_frame u a))
        (onlyChanges_doIf (f := fun s => s.postCharger a) (postCharger_frame _ a))
    exact onlyChanges_heating moved
  have heating : v.heating = s.heating := heatingV.trans (onlyChanges_heating set)
  have told : Rowed u (s.rowTaken a p) := by
    rw [step]
    refine (Rowed.of_heated first (by rw [heatingV])).trans ?_
    exact Rowed.of_heated (heatReply_heated v a _ _ _ _) (atHeater_zones_length v a _)
  have now : v.now = s.now := (onlyChanges_now first.frame).trans (onlyChanges_now set)
  obtain ⟨c, hc⟩ := told.rows a
  refine ⟨⟨c, by rw [hc, row]⟩, fun h => told.held a (by rw [row]; exact h) ?_, fun h4 => ?_, ?_, ?_, ?_, ?_,
    onlyChanges_trans set told.frame⟩
  · rw [row]
    exact if_pos h
  · rw [step, heatReply, atHeater_zone _ h4 h11 (by rw [heating]; exact hz), row, now]
    exact ⟨rfl, rfl⟩
  · rw [step, (heatReply_heated v a _ _ _ _).commands.urgent, first.commands.urgent, queues]
  · rw [told.stage, queues]
  · rw [told.length, hu, onNode_length]
  · rw [told.zones, onlyChanges_heating set]

/-- R102: a reply of a node that no search tests, as the memory has it. -/
theorem isoReply_untested {s : State} {a : Nat} (free : s.iso.search.under ≠ some a) (isolated : Bool) :
    s.isoReply a isolated =
      if a ∈ s.iso.memory then (if isolated then s else s.queueIsolate a) else if isolated then s.queueReconnect a else s := by
  unfold isoReply
  by_cases h : a ∈ s.iso.memory
  · rw [if_pos (by simpa using h), if_pos h]
  · rw [if_neg (by simpa using h), if_neg h, if_neg free]

theorem isoReply_tested {s : State} {a : Nat} (tested : s.iso.search.under = some a) (free : a ∉ s.iso.memory) (isolated : Bool) :
    s.isoReply a isolated =
      match s.iso.search.phase with
      | some .isolateWait =>
        s.doIf (isolated && s.iso.search.accepted) fun s =>
          s.onIso fun x =>
            { x with
              period := some s.now
              search := { x.search with phase := some .results, confirmTimer := none, deadlineTimer := some s.now } }
      | some .reconnectWait => if isolated then s else s.nextStep
      | some .setpointWait => s.setpointWaitCheck
      | some .results => s
      | none => s := by
  exact (if_neg (by simpa using free)).trans (if_pos tested)

/-- R58: a request of the monitor moves nothing that a reply brought. -/
theorem queueReconnect_zone {s : State} {a : Nat} (h4 : 4 ≤ a) (h11 : a ≤ 11) (hz : s.heating.zones.length = 8) :
    ((s.queueReconnect a).zone (a - 3)).temp = (s.zone (a - 3)).temp ∧
      ((s.queueReconnect a).zone (a - 3)).replyStamp = (s.zone (a - 3)).replyStamp := by
  have same := onlyChanges_heating (queueUrgent_frame s .reconnect a)
  have zone : (s.queueUrgent .reconnect a).zone (a - 3) = s.zone (a - 3) := by
    unfold State.zone
    rw [same]
  rw [queueReconnect, heatRelease, atHeater_zone _ h4 h11 (by rw [same]; exact hz), zone]
  exact ⟨rfl, rfl⟩

theorem queueIsolate_zone {s : State} {a : Nat} (h4 : 4 ≤ a) (h11 : a ≤ 11) (hz : s.heating.zones.length = 8) :
    ((s.queueIsolate a).zone (a - 3)).temp = (s.zone (a - 3)).temp ∧
      ((s.queueIsolate a).zone (a - 3)).replyStamp = (s.zone (a - 3)).replyStamp := by
  have same := onlyChanges_heating (queueUrgent_frame s .isolate a)
  have zone : (s.queueUrgent .isolate a).zone (a - 3) = s.zone (a - 3) := by
    unfold State.zone
    rw [same]
  rw [queueIsolate, doIf_eq]
  split
  · rw [heatIsolate, atHeater_zone _ h4 h11 (by rw [same]; exact hz), zone]
    exact ⟨rfl, rfl⟩
  · exact ⟨rfl, rfl⟩

/-- R102: what the monitor makes of a reply of a node that no search tests. -/
theorem isoReply_facts {s : State} {a : Nat} (active : (s.node a).st = .active) (free : s.iso.search.under ≠ some a) (h11 : a ≤ 11)
    (hz : s.heating.zones.length = 8) (isolated : Bool) :
    Rowed s (s.isoReply a isolated) ∧
      (a ∈ s.iso.memory → isolated = false → (⟨.isolate, a⟩ : StageEntry) ∈ (s.isoReply a isolated).stage.urgent) ∧
      (a ∉ s.iso.memory → isolated = true → (⟨.reconnect, a⟩ : StageEntry) ∈ (s.isoReply a isolated).stage.urgent) ∧
      (isolated = decide (a ∈ s.iso.memory) → s.isoReply a isolated = s) ∧
      (4 ≤ a → ((s.isoReply a isolated).zone (a - 3)).temp = (s.zone (a - 3)).temp ∧
        ((s.isoReply a isolated).zone (a - 3)).replyStamp = (s.zone (a - 3)).replyStamp) := by
  rw [isoReply_untested free]
  by_cases h : a ∈ s.iso.memory
  · rw [if_pos h]
    cases isolated
    · exact ⟨Rowed.queueIsolate s a, fun _ _ => mem_queueIsolate active, fun h' => absurd h h', fun h' => by simp [h] at h',
        fun h4 => queueIsolate_zone h4 h11 hz⟩
    · exact ⟨Rowed.refl s, fun _ h' => by simp at h', fun h' => absurd h h', fun _ => rfl, fun _ => ⟨rfl, rfl⟩⟩
  · rw [if_neg h]
    cases isolated
    · exact ⟨Rowed.refl s, fun h' => absurd h' h, fun _ h' => by simp at h', fun _ => rfl, fun _ => ⟨rfl, rfl⟩⟩
    · exact ⟨Rowed.queueReconnect s a, fun h' => absurd h' h, fun _ _ => mem_queueReconnect active, fun h' => by simp [h] at h',
        fun h4 => queueReconnect_zone h4 h11 hz⟩

/-- R108, R109: a frame received while one is awaited. -/
theorem responseFrame_eq {s : State} {x : Transaction} (flight : s.stage.inFlight = some x) (awaits : x.phase = .awaitResponse)
    (bytes : List Byte) :
    s.responseFrame bytes =
      match responsePayload x bytes with
      | some p => s.attemptEnd x (.accept p)
      | none => s.attemptEnd x .rxCheck := by
  rw [responseFrame, flight]
  exact if_pos awaits

theorem actFinal_rollCall {s : State} {x : Transaction} (hc : x.cmd = .rollCall) {p : List Byte}
    (waiting : (s.node x.addr).st = .missing ∨ (s.node x.addr).st = .lost ∨ (s.node x.addr).st = .mismatch) :
    s.actFinal x (.accept p) =
      if replyNodeKind (p.getD 0 0) = some (s.node x.addr).expected then s.join x.addr (ofBe ((p.drop 1).take 2))
      else s.mismatchReply x.addr (ofBe ((p.drop 1).take 2)) := by
  rcases waiting with h | h | h <;> simp [actFinal, judgeRollCall, h, hc]

theorem actFinal_statusQuery {s : State} {x : Transaction} (hc : x.cmd = .statusQuery) {p : List Byte}
    (active : (s.node x.addr).st = .active) :
    s.actFinal x (.accept p) =
      if replyNodeKind (p.getD 0 0) = some (s.node x.addr).expected ∧ (s.node x.addr).rating = some (ofBe ((p.drop 1).take 2)) then
        s.takeReply x.addr p
      else s.leaveActive x.addr .mismatch := by
  simp [actFinal, statusReply, active, hc, Node.agrees]

end State

/-- R108, R199: what a response frame's payload tells of the frame. -/
theorem responsePayload_some {x : Transaction} {bytes p : List Byte} (h : responsePayload x bytes = some p) :
    p.length = x.cmd.responseLen ∧ bytes.head? = some (byte (x.addr * 16 + x.cmd.code)) ∧ sum8 bytes = 255 := by
  unfold responsePayload at h
  split at h
  · next head len rest =>
    split at h
    · next good =>
      obtain ⟨hd, -, hlen, sum⟩ := good
      obtain rfl := Option.some.inj h
      refine ⟨by simp [hlen], by rw [List.head?_cons, hd], by simpa [good8] using sum⟩
    · simp at h
  · simp at h

end Sys2Proof.Machine

namespace Sys2Proof.Proofs

open Machine Safety

/-- Settles O47: a bad frame is another attempt or the last one, a good one is the reply of its command. -/
theorem responseFramesJudged : Obligations.ResponseFramesJudged := by
  intro s x bytes flight awaits free kept
  have frame {t : State} (h : s.responseFrame bytes = t) (ht : t.stage.entryWait = false) :
      exec (.responseFrameReceived bytes) s = .next t := by
    show Host.Outcome.next (s.responseFrame bytes).finishEntry = _
    rw [h, State.finishEntry_rests ht]
  have bad (h : responsePayload x bytes = none) : s.responseFrame bytes = s.attemptEnd x .rxCheck := by
    rw [State.responseFrame_eq flight awaits, h]
  have mark : s.stage.errors.mark .rxCheck = { s.stage.errors with rxCheck := true } := rfl
  refine ⟨fun h more => ?_, fun h last other => ?_, fun h last active h1 hl under => ?_, fun p h => responsePayload_some h,
    fun p h h1 h11 hl hz => ?_⟩
  case refine_1 =>
    refine frame ?_ free
    rw [bad h, State.attemptEnd_retries kept rfl more]
    rfl
  case refine_2 =>
    refine frame ?_ free
    rw [bad h, State.attemptEnd_fails kept rfl last, mark]
    exact State.actFinal_failed_other (s := s.ended { s.stage.errors with rxCheck := true }) other
  case refine_3 =>
    obtain ⟨t, ht, entry, facts⟩ := failed_lost h1 hl active under { s.stage.errors with rxCheck := true }
    refine ⟨t, frame ?_ (entry.trans free), facts⟩
    rw [bad h, State.attemptEnd_fails kept rfl last, mark, ht]
  case refine_4 =>
    intro n kind rating waiting
    obtain ⟨u, hu⟩ : ∃ u, u = s.ended s.stage.errors := ⟨_, rfl⟩
    have good : s.responseFrame bytes = u.actFinal x (.accept p) := by
      rw [State.responseFrame_eq flight awaits, h, hu]
      exact State.attemptEnd_accepted kept p
    have set : onlyChanges [.stage] s u := by simp [hu, State.ended, onlyChanges]
    have node : u.node x.addr = n := by rw [hu]; rfl
    have iso := onlyChanges_iso set
    have now := onlyChanges_now set
    have urgentU : u.stage.urgent = s.stage.urgent := by rw [hu]; rfl
    have flightU : u.stage.inFlight = none := by rw [hu]; rfl
    have entryU : u.stage.entryWait = false := by rw [hu]; exact free
    have hlU : u.stage.nodes.length = 11 := by rw [hu]; exact hl
    have hzU : u.heating.zones.length = 8 := by rw [hu]; exact hz
    have queried (hc : x.cmd = .statusQuery) (active : n.st = .active) (hk : kind = some n.expected) (hr : n.rating = some rating) :
        s.responseFrame bytes = u.takeReply x.addr p := by
      rw [good, State.actFinal_statusQuery hc (by rw [node]; exact active), node, if_pos ⟨hk, hr⟩]
    have taken := State.rowTaken_facts h1 h11 hlU hzU p
    obtain ⟨r, hr⟩ : ∃ r, r = u.rowTaken x.addr p := ⟨_, rfl⟩
    rw [← hr] at taken
    have reply := State.takeReply_eq (s := u) (a := x.addr) h1 (by omega) p
    rw [← hr] at reply
    have isoR : r.iso = s.iso := (onlyChanges_iso taken.frame).trans iso
    obtain ⟨c, row⟩ := taken.row
    rw [node, now] at row
    have activeR (active : n.st = .active) : (r.node x.addr).st = .active := by rw [row]; exact active
    have frameR : onlyChanges [.stage, .heating, .link, .budgetIn] s r := onlyChanges_trans set taken.frame
    have flightR : r.stage.inFlight = none := by rw [taken.stage]; exact flightU
    have entryR : r.stage.entryWait = false := by rw [taken.stage]; exact entryU
    refine ⟨fun hc wait hk => ?_, fun hc wait hk => ?_, fun hc active hk hrating under => ?_,
      fun hc active hk hrating under out phase accepted isolated => ?_, fun hc active hk hrating under out phase isolated => ?_,
      fun hc active disagrees under => ?_⟩
    case refine_1 =>
      obtain ⟨⟨w, hw⟩, status, setpoint, isolate, reconnect, zone, gone, entry, noticed, moved⟩ :=
        State.join_facts h1 h11 hlU hzU rating
      refine ⟨_, frame (good.trans ?_) (entry.trans entryU), ?_⟩
      · rw [State.actFinal_rollCall hc (by rw [node]; exact wait), node]
        exact if_pos hk
      · rw [hw, node, now]
        rw [iso] at isolate reconnect
        exact ⟨rfl, rfl, rfl, rfl, rfl, rfl, rfl, status, setpoint, isolate, reconnect, zone, gone.trans flightU, noticed,
          onlyChanges_trans set moved⟩
    case refine_2 =>
      obtain ⟨st, rated, zone, gone, entry, moved⟩ := State.mismatchReply_facts h1 h11 hlU hzU rating
      refine ⟨_, frame (good.trans ?_) (entry.trans entryU), st, rated, zone, gone.trans flightU, onlyChanges_trans set moved⟩
      rw [State.actFinal_rollCall hc (by rw [node]; exact wait), node]
      exact if_neg hk
    case refine_3 =>
      intro flags
      obtain ⟨v, hv⟩ : ∃ v, v = r.isoReply x.addr (flags.getLsbD 1) := ⟨_, rfl⟩
      obtain ⟨rowed, isolate, reconnect, agrees, zone⟩ := State.isoReply_facts (s := r) (a := x.addr) (activeR active)
        (by rw [isoR]; exact under) h11 (taken.zones.trans hzU) (flags.getLsbD 1)
      rw [← hv, isoR] at isolate reconnect agrees
      rw [← hv] at rowed zone
      obtain ⟨t, ht, raises⟩ : ∃ t, s.responseFrame bytes = t ∧ (t = v ∨ t = v.raise .stage) := by
        refine ⟨_, (queried hc active hk hrating).trans reply, ?_⟩
        rw [hv, State.doIf_eq]
        split
        · exact .inr rfl
        · exact .inl rfl
      have last : State.Rowed v t := by
        rcases raises with rfl | rfl
        · exact State.Rowed.refl _
        · exact State.Rowed.raise _ _
      have stage : t.stage = v.stage := by rcases raises with rfl | rfl <;> rfl
      have heating : t.heating = v.heating := by rcases raises with rfl | rfl <;> rfl
      have all := rowed.trans last
      obtain ⟨w, hw⟩ := all.rows x.addr
      rw [row] at hw
      refine ⟨t, frame ht ?_, ?_, ?_, ?_, ?_, ?_, ?_, ?_, fun hi => ?_, ?_, ?_, ?_, fun h4 => ?_, ?_,
        onlyChanges_trans frameR all.frame⟩
      · rw [all.stage]; exact entryR
      · rw [hw]; exact active
      · rw [hw]; rfl
      · rw [hw]; rfl
      · rw [hw]; rfl
      · rw [hw]; rfl
      · rw [hw]; rfl
      · rw [hw]; rfl
      · exact all.held x.addr (by rw [row]; exact hi) (taken.held hi)
      · rw [stage]; exact isolate
      · rw [stage]; exact reconnect
      · rw [stage]
        intro same
        rw [agrees same, taken.urgent, urgentU]
      · have zoned : t.zone (x.addr - 3) = v.zone (x.addr - 3) := by
          unfold State.zone
          rw [heating]
        obtain ⟨stamp, temp⟩ := taken.zone h4
        obtain ⟨temp', stamp'⟩ := zone h4
        rw [zoned, stamp', temp', stamp, temp, now, node, hw]
        exact ⟨rfl, rfl⟩
      · rw [all.stage]; exact flightR
    case refine_4 =>
      obtain ⟨v, hv⟩ : ∃ v, v = r.onIso fun y =>
          { y with
            period := some r.now
            search := { y.search with phase := some .results, confirmTimer := none, deadlineTimer := some r.now } } := ⟨_, rfl⟩
      have judged : r.isoReply x.addr ((p.getD 5 0).getLsbD 1) = v := by
        rw [State.isoReply_tested (by rw [isoR]; exact under) (by rw [isoR]; exact out), isoR, phase, isolated, accepted, hv]
        rfl
      have nowR : r.now = s.now := (onlyChanges_now taken.frame).trans now
      obtain ⟨t, ht, raises⟩ : ∃ t, s.responseFrame bytes = t ∧ (t = v ∨ t = v.raise .stage) := by
        refine ⟨_, (queried hc active hk hrating).trans reply, ?_⟩
        rw [judged, State.doIf_eq]
        split
        · exact .inr rfl
        · exact .inl rfl
      have set' : onlyChanges [.iso] r v := hv ▸ State.onIso_frame r _
      have moved : onlyChanges [.link] v t := by
        rcases raises with rfl | rfl
        · exact onlyChanges_refl _ _
        · exact State.raise_frame _ _
      have isoT : t.iso = v.iso := onlyChanges_iso moved
      have stage : t.stage = r.stage := (onlyChanges_stage moved).trans (onlyChanges_stage set')
      have rowT : t.node x.addr = r.node x.addr := State.node_congr (by rw [stage]) _
      refine ⟨t, frame ht (by rw [stage]; exact entryR), ?_, ?_, ?_, ?_, ?_, ?_⟩
      · rw [rowT, row]; exact isolated
      · rw [isoT, hv]; rfl
      · rw [isoT, hv]; rfl
      · rw [isoT, hv]; exact congrArg some nowR
      · rw [isoT, hv]; exact congrArg some nowR
      · exact onlyChanges_trans frameR (onlyChanges_trans set' moved (rs := [.iso, .link]))
    case refine_5 =>
      have rests : (r.node x.addr).commanded = 0 := taken.held isolated
      obtain ⟨v, hv⟩ : ∃ v, v = r.isolateNow x.addr := ⟨_, rfl⟩
      have judged : r.isoReply x.addr ((p.getD 5 0).getLsbD 1) = v := by
        rw [State.isoReply_tested (by rw [isoR]; exact under) (by rw [isoR]; exact out), isoR, phase, hv]
        show r.setpointWaitCheck = _
        rw [State.setpointWaitCheck, isoR, under]
        simp only [phase, rests]
        rfl
      have nowR : r.now = s.now := (onlyChanges_now taken.frame).trans now
      obtain ⟨t, ht, raises⟩ : ∃ t, s.responseFrame bytes = t ∧ (t = v ∨ t = v.raise .stage) := by
        refine ⟨_, (queried hc active hk hrating).trans reply, ?_⟩
        rw [judged, State.doIf_eq]
        split
        · exact .inr rfl
        · exact .inl rfl
      have moved : onlyChanges [.link] v t := by
        rcases raises with rfl | rfl
        · exact onlyChanges_refl _ _
        · exact State.raise_frame _ _
      have isoT : t.iso = v.iso := onlyChanges_iso moved
      have isoV := State.isolateNow_iso r x.addr
      rw [← hv] at isoV
      have rowed : State.Rowed r (r.queueIsolate x.addr) := State.Rowed.queueIsolate r x.addr
      have stageV : v.stage = (r.queueIsolate x.addr).stage := by rw [hv]; rfl
      have stage : t.stage = (r.queueIsolate x.addr).stage := (onlyChanges_stage moved).trans stageV
      have rowT : t.node x.addr = (r.queueIsolate x.addr).node x.addr := State.node_congr (by rw [stage]) _
      obtain ⟨w, hw⟩ := rowed.rows x.addr
      refine ⟨t, frame ht ?_, ?_, ?_, ?_, ?_, ?_, ?_⟩
      · rw [stage, rowed.stage]; exact entryR
      · rw [rowT, hw, row]; exact isolated
      · rw [rowT]; exact rowed.held x.addr (by rw [row]; exact isolated) rests
      · rw [isoT, isoV]; rfl
      · rw [isoT, isoV]; exact congrArg some nowR
      · rw [stage]; exact State.mem_queueIsolate (activeR active)
      · have set' : onlyChanges [.iso, .heating, .stage, .budgetIn, .link] r v := hv ▸ State.isolateNow_frame r x.addr
        exact onlyChanges_trans frameR (onlyChanges_trans set' moved (rs := [.iso, .heating, .stage, .budgetIn, .link]))
    case refine_6 =>
      have leaves : u.actFinal x (.accept p) = u.leaveActive x.addr .mismatch := by
        rw [State.actFinal_statusQuery hc (by rw [node]; exact active), node]
        exact if_neg fun h => disagrees.elim (fun h' => h' h.1) fun h' => h' h.2
      have gone := State.leaveActive_departed (s := u) (a := x.addr) (st := .mismatch) h1 (by omega)
        (by rw [iso]; exact fun h => under h.2) (by simp)
      refine ⟨_, frame (good.trans leaves) ?_, gone.st, gone.normal, gone.urgent, ?_, onlyChanges_trans set gone.frame⟩
      · rw [gone.stage]; exact entryU
      · rw [gone.stage]; exact flightU

end Sys2Proof.Proofs
end

section
/-! The NV store: its two copies, the order of service, and how a write ends (R177 to R180). -/

-- One declaration at a time: each thread the elaborator opens takes its whole stack from the memory limit.
set_option Elab.async false

namespace Sys2Proof.Machine

open Safety

/-! ### The two copies (R177) -/

/-- R177: a write begins in the copy that does not hold the newest good content, and its end makes that copy the newest. -/
theorem newest_of_write {α : Type} {x : Area α} {q : Nat} {y : α} {b : Bool} (k : Nat) (c : α) (h : newest x = some (q, y, b)) :
    newest (startCopy x k) = some (q, y, b) ∧ newest (endCopy (startCopy x k) c) = some (q + 1, c, !b) := by
  have started : newest (startCopy x k) = some (q, y, b) ∧
      startCopy x k = if b then { x with a := .torn (q + 1) k } else { x with b := .torn (q + 1) k } := by
    rw [startCopy, h]
    cases b
    · refine ⟨?_, rfl⟩
      cases ha : x.a <;> cases hb : x.b <;> simp_all [newest]
      split at h <;> simp_all
    · refine ⟨?_, rfl⟩
      cases ha : x.a <;> cases hb : x.b <;> simp_all [newest]
      split at h <;> simp_all
  obtain ⟨same, copies⟩ := started
  refine ⟨same, ?_⟩
  rw [endCopy, same, copies]
  rw [copies] at same
  cases b
  · cases ha : x.a <;> simp_all [newest, fillCopy]
  · cases hb : x.b <;> simp_all [newest, fillCopy]

theorem newest_of_first {α : Type} {x : Area α} (k : Nat) (c : α) (h : newest x = none) :
    newest (startCopy x k) = none ∧ ∃ q, newest (endCopy (startCopy x k) c) = some (q, c, false) := by
  have started : startCopy x k = { x with a := .torn (max (copySeq x.a) (copySeq x.b) + 1) k } := by rw [startCopy, h]
  have none_good : newest (startCopy x k) = none := by
    rw [started]
    cases hb : x.b <;> cases ha : x.a <;> simp_all [newest]
    split at h <;> simp at h
  refine ⟨none_good, max (copySeq x.a) (copySeq x.b) + 1, ?_⟩
  rw [endCopy, none_good, started]
  rw [started] at none_good
  cases hb : x.b <;> simp_all [newest, fillCopy]

/-! ### The order of service (R178) -/

theorem Nv.next_held {v : Nv} {f : NvFlight} (ordinary : v.queue.find? NvWrite.supplyLoss = none) (h : v.deferred = some f) :
    v.next = some (.held f) := by
  simp [Nv.next, ordinary, h]

theorem Nv.next_queued {v : Nv} {w : NvWrite}
    (h : v.queue.find? NvWrite.supplyLoss = some w ∨
      (v.queue.find? NvWrite.supplyLoss = none ∧ v.deferred = none ∧
        (v.queue.find? NvWrite.isSlot = some w ∨ (v.queue.find? NvWrite.isSlot = none ∧ v.queue.head? = some w)))) :
    v.next = some (.queued w) := by
  rcases h with h | ⟨h, hd, h' | ⟨h', hh⟩⟩
  · simp [Nv.next, h]
  · simp [Nv.next, h, hd, h']
  · simp [Nv.next, h, hd, h', hh]

theorem Nv.next_none {v : Nv} (hq : v.queue = []) (hd : v.deferred = none) : v.next = none := by
  simp [Nv.next, hq, hd]

theorem Nv.endWrite_deferred (v : Nv) (c : NvContent) : (v.endWrite c).deferred = v.deferred ∧ (v.endWrite c).queue = v.queue := by
  cases c <;> exact ⟨rfl, rfl⟩

end Sys2Proof.Machine

namespace Sys2Proof.Proofs

open Machine Safety

/-- R179: a write that is over, its area's held-back retry given up with it. -/
theorem nvDone_eq (s : State) (c : NvContent) :
    s.nvDone c =
      (let waiting := if s.nv.queue.any fun w => w.content.area == c.area then WriteState.pending else .done
       let done : State := { s with nv :=
         { s.nv.endWrite c with inFlight := none, deferred := s.nv.deferred.filter fun g => g.write.content.area != c.area } }
       match c with
       | .settings _ => { done with power := { s.power with settingsWrite := waiting } }
       | .totals _ => { done with meter := { s.meter with lastWrite := waiting } }
       | .slot i _ =>
         { done with
           billing :=
             { s.billing with
               behind := s.billing.behind.set i false
               rewrite := if (s.billing.behind.set i false).any id then s.billing.rewrite else none } }
       | .tariff _ => done
       | .isoMemory _ => done) := by
  cases c <;> rfl

/-- R179: a write that has failed for good, its slot's record apart. -/
theorem nvFailed_eq (s : State) (c : NvContent) :
    s.nvFailed c =
      (let failed : Nv := { s.nv with
         inFlight := none, deferred := s.nv.deferred.filter fun g => g.write.content.area != c.area }
       match c with
       | .settings _ =>
         { noticed [.part] s with
           nv := { failed with failSettings := true }, power := { s.power with settingsWrite := .failed } }
       | .totals _ =>
         { noticed [.part] s with
           nv := { failed with failTotals := true }, meter := { s.meter with lastWrite := .failed } }
       | .tariff _ => { noticed [.part] s with nv := { failed with failTariff := true } }
       | .isoMemory _ => { noticed [.part] s with nv := { failed with failIso := true } }
       | .slot i _ => ({ s with nv := failed } : State).slotFailed i) := by
  cases c <;> simp only [State.nvFailed, State.raise_eq] <;> rfl

/-- R161: the record of a slot whose write has failed. -/
theorem slotFailed_facts (s : State) (i : Nat) :
    (s.slotFailed i).nv = { s.nv with queue := s.nv.queue.map fun w => { w with content := w.content.faulted i } } ∧
      (i < s.billing.slots.length → ((s.slotFailed i).billing.slot i).record.flags.nvFault = true) ∧
      (s.slotFailed i).billing.behind = s.billing.behind.set i true ∧ (s.slotFailed i).billing.rewrite ≠ none ∧
      onlyChanges [.nv, .billing] s (s.slotFailed i) := by
  refine ⟨rfl, fun hi => ?_, rfl, by simp [State.slotFailed, State.onBilling, State.onNv], ?_⟩
  · simp [State.slotFailed, State.onSlot, State.onBilling, State.onNv, Billing.slot, hi, Slot.faulted]
  · simp [State.slotFailed, State.onSlot, State.onBilling, State.onNv, onlyChanges]

/-- Settles O55: the store's next write, the end of a write by its area, and the two copies. -/
theorem nvWrites : Obligations.NvWrites := by
  refine ⟨fun s tag serve => ?_, fun s => ?_, fun α x k c => ⟨fun q y b h => newest_of_write k c h, fun h => newest_of_first k c h⟩⟩
  case refine_1 =>
    have own : State.owner (.saveSettings tag) s = okWith (s.queueNv (.settings (settingsNow s)) false) [] := rfl
    refine ⟨_, exec_ok serve rfl own, State.queueNv_waits s _ false, rfl, answers_replied (ks := []) rfl _ _ _ _,
      onlyChanges_replied ?_ _ _ _⟩
    simp [State.queueNv, State.onNv, State.onPower, onlyChanges]
  case refine_2 =>
    intro v
    have begin_eq : exec .nvWriteBegin s = .next s.nvBegin := rfl
    have complete_eq (b : Bool) : exec (.nvWriteComplete b) s = .next (s.nvComplete b) := rfl
    refine ⟨fun h => ?_, fun f idle ordinary held => ?_, fun w idle next => ?_, fun idle b => ?_, fun f flight => ?_⟩
    · rw [begin_eq, State.nvBegin]
      rcases h with h | ⟨hq, hd⟩
      · cases hf : s.nv.inFlight with
        | none => exact absurd hf h
        | some f => rfl
      · rw [Nv.next_none hq hd]
        cases s.nv.inFlight <;> rfl
    · rw [begin_eq, State.nvBegin, idle, Nv.next_held ordinary held]
      rfl
    · rw [begin_eq, State.nvBegin, idle, Nv.next_queued next]
      rfl
    · rw [complete_eq, State.nvComplete, idle]
    · have verified : exec (.nvWriteComplete true) s = .next (s.nvDone f.write.content) := by
        rw [complete_eq, State.nvComplete, flight]
        rfl
      have retried (h : f.second = false) : exec (.nvWriteComplete false) s = .next (s.nvRetry f) := by
        rw [complete_eq, State.nvComplete, flight]
        simp [h]
      have given_up (h : f.second = true) : exec (.nvWriteComplete false) s = .next (s.nvFailed f.write.content) := by
        rw [complete_eq, State.nvComplete, flight]
        simp [h]
      rw [nvDone_eq] at verified
      rw [nvFailed_eq] at given_up
      obtain ⟨⟨c, loss⟩, second⟩ := f
      intro c' left waiting done failed
      refine ⟨?_, fun first h => ?_, fun first hold ordinary waits => ?_, fun last => ?_⟩
      · cases c <;> exact verified
      · have again : ¬ (s.power.part = .supplyHold ∧ ¬ loss = true ∧ (s.nv.queue.any NvWrite.supplyLoss) = true) := by
          rintro ⟨hold, ordinary, waits⟩
          obtain ⟨w, hw, urgent⟩ := List.any_eq_true.1 waits
          rcases h with h | h | h
          · exact h hold
          · exact ordinary h
          · simp [h w hw] at urgent
        rw [retried first, State.nvRetry, State.onNv, if_neg again]
      · have later : s.power.part = .supplyHold ∧ ¬ loss = true ∧ (s.nv.queue.any NvWrite.supplyLoss) = true :=
          ⟨hold, by rw [show loss = false from ordinary]; simp, List.any_eq_true.2 waits⟩
        rw [retried first, State.nvRetry, State.onNv, if_pos later]
      · have over_now := given_up last
        cases c with
        | slot i x =>
          obtain ⟨nv, flagged, behind, rewrite, moved⟩ := slotFailed_facts { s with nv := failed } i
          refine ⟨_, over_now, nv, flagged, behind, rewrite, onlyChanges_trans (ps := [.nv]) ?_ moved⟩
          simp [onlyChanges]
        | settings x => exact over_now
        | totals x => exact over_now
        | tariff x => exact over_now
        | isoMemory x => exact over_now

end Sys2Proof.Proofs
end

section
/-! The host link: frames received byte by byte, requests served from the head of the queue, frames sent (R182 to R192). -/

-- One declaration at a time: each thread the elaborator opens takes its whole stack from the memory limit.
set_option Elab.async false

namespace Sys2Proof.Machine

open Safety

/-! ### Serving the head of the queue -/

theorem State.canServe_iff (s : State) : s.canServe = true ↔ serves s := by
  simp [State.canServe, serves]

/-- R196: what a payload of a catalogued KIND spells is a request of that KIND with its tag. -/
theorem requestHead_requestOf {k n : Nat} {p : List Byte} (h : payloadLength k p = some n) (tag : Byte) :
    requestHead (requestOf k tag p) = some (BitVec.ofNat 8 k, tag) := by
  unfold payloadLength at h
  split at h
  case h_44 => cases h
  all_goals rfl

/-- R186 step 4: the command that a request spells carries the request's KIND and tag. -/
theorem requestHead_of_parse {kind tag : Byte} {p : List Byte} {c : Instr} (h : parseRequest kind tag p = .request c) :
    requestHead c = some (kind, tag) := by
  unfold parseRequest at h
  cases hl : payloadLength kind.toNat p with
  | none => simp [hl] at h
  | some n =>
    simp only [hl] at h
    split at h
    case isTrue =>
      obtain rfl := Parsed.request.inj h
      simpa using requestHead_requestOf hl tag
    case isFalse => cases h

/-- A LEN is judged of catalogued KINDs alone, which all lie below 0x80. -/
theorem low_of_badLength {kind tag : Byte} {p : List Byte} (h : parseRequest kind tag p = .badLength) :
    kind.toNat < 0x80 := by
  unfold parseRequest at h
  cases hl : payloadLength kind.toNat p with
  | none => simp [hl] at h
  | some n => simpa using requestHead_low (requestHead_requestOf hl tag)

/-- R191: a link error sets its flag, with a LINK notice when it was clear. -/
theorem State.linkError_eq (s : State) {p : LinkErrors → Bool} {f : LinkErrors → LinkErrors}
    (stands : ∀ e, p e = true → f e = e) :
    s.linkError p f =
      { s with link :=
          { s.link with
            errors := f s.link.errors
            notices := if p s.link.errors then s.link.notices else withNotices [.link] s.link.notices } } := by
  by_cases h : p s.link.errors = true
  · simp [State.linkError, h, stands _ h]
  · simp [State.linkError, h, State.raise_eq, noticed, State.onLink]

theorem State.serveHead_of {s : State} (h : serves s) {r : Request} {rest : List Request} (hq : s.link.requests = r :: rest) :
    s.serveHead = { s with link := { s.link with requests := rest } }.serveFrame r := by
  rw [State.serveHead, if_pos (s.canServe_iff.2 h), hq]
  rfl

/-- R186, R191: an unknown KIND sets its flag and is answered UNKNOWN_KIND. -/
theorem State.serveUnknown_of {s : State} (h : serves s) (kind tag : Byte) :
    s.serveUnknown kind tag =
      { s with
        link :=
          { s.link with
            errors := { s.link.errors with unknownKind := true }
            notices := if s.link.errors.unknownKind then s.link.notices else withNotices [.link] s.link.notices
            replies := s.link.replies ++ [⟨if kind.toNat < 0x80 then kind + 0x80 else 0xFF, tag, [2], .plain⟩] } } := by
  have raised : s.errUnknownKind = _ := s.linkError_eq fun e he => by cases e; simp_all
  rw [State.serveUnknown, doIf_eq, if_pos (s.canServe_iff.2 h), raised]
  rfl

theorem State.serveBadLength_of {s : State} (h : serves s) {kind : Byte} (low : kind.toNat < 0x80) (tag : Byte) :
    s.serveBadLength kind tag = replied s kind tag [3] := by
  rw [State.serveBadLength, doIf_eq, if_pos (s.canServe_iff.2 h)]
  exact State.placeReply_plain _ _ _ _ low

/-! ### The transmitter -/

/-- R189, R192: the idle transmitter of a part whose link is on. -/
def Sends (s : State) : Prop :=
  s.link.on = true ∧ s.power.part ≠ .heldInReset ∧ s.power.part ≠ .off ∧ s.link.tx = none

theorem Sends.iff {s : State} : (s.receiving && s.link.tx.isNone) = true ↔ Sends s := by
  simp [State.receiving, Sends, and_assoc]

/-- R189: the head reply is taken, whatever notices wait. -/
theorem Sends.reply {s : State} (h : Sends s) {r : Reply} {rest : List Reply} (hr : s.link.replies = r :: rest) :
    s.transmit =
      { s with link := { s.link with replies := rest, tx := some ⟨r.kind, r.tag, r.payload, r.mark, false⟩ } } := by
  rw [State.transmit, if_pos (Sends.iff.2 h), hr]
  rfl

/-- R189, R190: with no reply waiting the head notice is taken, its payload formed now. -/
theorem Sends.notice {s : State} (h : Sends s) (hr : s.link.replies = []) {k : NoticeKind} {rest : List NoticeKind}
    (hk : s.link.notices = k :: rest) :
    s.transmit = s.doIf s.sendsNotices fun s =>
      { s with link := { s.link with notices := rest, tx := some ⟨byte k.code, 0, noticeBytes s k, .plain, true⟩ } } := by
  rw [State.transmit, if_pos (Sends.iff.2 h), hr, hk]
  rfl

/-- With nothing to send the transmitter stays idle. -/
theorem transmit_empty {s : State} (hr : s.link.replies = []) (hk : s.link.notices = []) : s.transmit = s := by
  rw [State.transmit, hr, hk, ite_self]

theorem transmit_busy {s : State} (h : ¬ Sends s) : s.transmit = s := by
  rw [State.transmit, if_neg (mt Sends.iff.1 h)]

theorem State.sendsNotices_iff (s : State) :
    s.sendsNotices = true ↔ s.power.part ∈ [PartState.run, .standby, .supplyHold] := by
  simp [State.sendsNotices, or_assoc]

/-- What a frame that has gone out leaves: the transmitter is idle, and its mark acts. -/
theorem State.sent_of {s : State} {x : TxFrame} (hx : s.link.tx = some x) :
    s.sent = { s with link := { s.link with tx := none } }.replySent x.mark := by
  rw [State.sent, hx]
  rfl

end Sys2Proof.Machine

namespace Sys2Proof.Proofs

open Machine Safety

/-- Settles O60, by the three ways a request parses, by what the transmitter finds queued, and by the mark of the frame
that has gone out. -/
theorem serveAndSend : Obligations.ServeAndSend := by
  unfold Obligations.ServeAndSend
  intro s unknown sends
  refine ⟨?idle, fun r rest h hq => ?served, fun tag kind => ⟨?unknownTaken, ?unknownLeft⟩, ?quiet, ?reply, ?notice, ?none,
    fun x hx => ⟨?plain, ?sleep, ?reset⟩⟩
  case idle =>
    intro h
    show Host.Outcome.next s.serveHead = _
    rw [State.serveHead]
    rcases h with h | h
    · rw [if_neg fun hc => h (s.canServe_iff.1 hc)]
    · rw [h, ite_self]
  case served =>
    intro p
    have hp : serves p := h
    have taken : exec .serveRequest s = .next (p.serveFrame r) := by
      show Host.Outcome.next s.serveHead = _
      rw [State.serveHead_of h hq]
    refine ⟨fun c hc => ?_, fun hb => ?_, fun hu => ?_⟩
    · have head := requestHead_of_parse hc
      rw [taken, State.serveFrame, hc, exec_request head]
      exact ⟨rfl, head⟩
    · rw [taken, State.serveFrame, hb]
      exact congrArg Host.Outcome.next (State.serveBadLength_of hp (low_of_badLength hb) _)
    · rw [taken, State.serveFrame, hu]
      exact congrArg Host.Outcome.next (State.serveUnknown_of hp _ _)
  case unknownTaken => exact fun h => congrArg Host.Outcome.next (State.serveUnknown_of h _ _)
  case unknownLeft =>
    intro h
    show Host.Outcome.next (s.serveUnknown kind tag) = _
    rw [State.serveUnknown, State.doIf_eq, if_neg fun hc => h (s.canServe_iff.1 hc)]
  case quiet =>
    intro h
    show Host.Outcome.next s.transmit = _
    congr 1
    by_cases hs : Sends s
    · obtain ⟨hr, hn⟩ := h.resolve_left (not_not.2 hs)
      cases hk : s.link.notices with
      | nil => exact transmit_empty hr hk
      | cons k rest =>
        have held := hn.resolve_left (by simp [hk])
        rw [hs.notice hr hk, State.doIf_eq, if_neg (mt s.sendsNotices_iff.1 held)]
    · exact transmit_busy hs
  case reply => exact fun r rest hs hr => congrArg Host.Outcome.next (Sends.reply hs hr)
  case notice =>
    intro k rest hs hr hk hp
    show Host.Outcome.next s.transmit = _
    rw [Sends.notice hs hr hk, State.doIf_eq, if_pos (s.sendsNotices_iff.2 hp)]
  case none =>
    intro h
    show Host.Outcome.next s.sent = _
    rw [State.sent, h]
  case plain =>
    intro h
    show Host.Outcome.next s.sent = _
    rw [State.sent_of hx]
    rcases h with h | ⟨h, hp⟩
    · rw [h]; rfl
    · rw [h]
      exact congrArg Host.Outcome.next (if_neg (by simpa using hp))
  case sleep =>
    intro h hp
    show Host.Outcome.next s.sent = _
    rw [State.sent_of hx, h]
    exact congrArg Host.Outcome.next (if_pos (by simpa using hp))
  case reset =>
    intro h
    show Host.Outcome.next s.sent = _
    rw [State.sent_of hx, h]
    rfl

end Sys2Proof.Proofs
end

section
/-! The host link's receiver: how the framer collects a frame, what the check sum of a formed frame is, and how a frame is
taken (R182 to R185). -/

-- One declaration at a time: each thread the elaborator opens takes its whole stack from the memory limit.
set_option Elab.async false

namespace Sys2Proof.Machine

open Safety

/-! ### The check sum (R183) -/

theorem sum16_le (l : List Byte) : sum16 l ≤ 65535 := by
  induction l using sum16.induct with
  | case1 => simp [sum16]
  | case2 a => have := a.isLt; simp only [sum16]; omega
  | case3 a b rest ih =>
    have := a.isLt
    have := b.isLt
    simp only [sum16, add16]
    split <;> omega

theorem ofBe_be2 {v : Nat} (h : v < 65536) : ofBe (be 2 v) = v := by
  simp only [ofBe, be, List.foldl_cons, List.foldl_nil, BitVec.toNat_ofNat]
  omega

/-- R183: the check that a frame is formed with makes it good. -/
theorem good16_chk16 (l : List Byte) : good16 l (ofBe (chk16 l)) = true := by
  have le := sum16_le l
  rw [good16, chk16, ofBe_be2 (by omega), add16, if_pos (by omega), beq_iff_eq]
  omega

namespace State

variable {s : State}

/-! ### A receive error (R184, R191) -/

/-- R184, R191: the frame in progress dropped, the error record as given, and a LINK notice unless the flag stood. -/
def dropFlagged (s : State) (was : Bool) (e : LinkErrors) : State :=
  { noticed (if was then [] else [.link]) s with
    link := { (noticed (if was then [] else [.link]) s).link with framer := .hunt, errors := e } }

theorem linkError_flagged {p : LinkErrors → Bool} {f : LinkErrors → LinkErrors} (stands : ∀ e, p e = true → f e = e) :
    s.dropFrame.linkError p f = s.dropFlagged (p s.link.errors) (f s.link.errors) := by
  have once : ∀ (b : Bool) (l : List NoticeKind),
      (if b then l else withNotices [.link] l) = withNotices (if b then [] else [.link]) l := by
    intro b l
    cases b <;> rfl
  rw [linkError_eq _ stands, once]
  rfl

theorem dropFrame_errRxCheck :
    s.dropFrame.errRxCheck = s.dropFlagged s.link.errors.rxCheck { s.link.errors with rxCheck := true } :=
  linkError_flagged fun e h => by cases e; simp_all
theorem dropFrame_errRxTimeout :
    s.dropFrame.errRxTimeout = s.dropFlagged s.link.errors.rxTimeout { s.link.errors with rxTimeout := true } :=
  linkError_flagged fun e h => by cases e; simp_all
theorem dropFrame_errRxLength :
    s.dropFrame.errRxLength = s.dropFlagged s.link.errors.rxLength { s.link.errors with rxLength := true } :=
  linkError_flagged fun e h => by cases e; simp_all
theorem dropFrame_errQueueFull :
    s.dropFrame.errQueueFull = s.dropFlagged s.link.errors.queueFull { s.link.errors with queueFull := true } :=
  linkError_flagged fun e h => by cases e; simp_all

theorem dropFrame_hunt (hunt : s.link.framer = .hunt) : s.dropFrame = s := by
  rw [dropFrame, onLink, ← hunt]

/-! ### The framer (R182) -/

/-- The state with a frame in progress. -/
def collecting (s : State) (bytes : List Byte) : State := s.onLink fun l => { l with framer := .inFrame bytes }

@[simp] theorem collecting_receiving (bytes : List Byte) : (s.collecting bytes).receiving = s.receiving := rfl

theorem dropFrame_collecting (hunt : s.link.framer = .hunt) (bytes : List Byte) : (s.collecting bytes).dropFrame = s :=
  dropFrame_hunt hunt

theorem feedBytes_lost (lost : s.receiving = false) (l : List Byte) : s.feedBytes l = s := by
  induction l with
  | nil => rfl
  | cons b rest ih =>
    have idle : s.doIf s.receiving (fun s => s.feedByte b) = s := by rw [doIf_eq, lost]; rfl
    rwa [feedBytes, List.foldl_cons, idle]

theorem feedBytes_cons (on : s.receiving = true) (b : Byte) (l : List Byte) :
    s.feedBytes (b :: l) = (s.feedByte b).feedBytes l := by
  rw [feedBytes, List.foldl_cons, doIf_eq, if_pos on, feedBytes]

theorem feedByte_noise (hunt : s.link.framer = .hunt) {b : Byte} (h : b ≠ 0xC3) : s.feedByte b = s := by
  rw [feedByte, hunt]
  exact if_neg h

theorem feedByte_sync (hunt : s.link.framer = .hunt) : s.feedByte 0xC3 = s.collecting [] := by
  rw [feedByte, hunt]
  rfl

theorem feedByte_len (hunt : s.link.framer = .hunt) (b : Byte) :
    (s.collecting []).feedByte b = if 60 < b.toNat then s.errRxLength else s.collecting [b] := by
  show (if 60 < b.toNat then (s.collecting []).dropFrame.errRxLength else s.collecting [b]) = _
  rw [dropFrame_collecting hunt]

theorem feedByte_next (hunt : s.link.framer = .hunt) (len : Byte) (r : List Byte) (b : Byte) :
    (s.collecting (len :: r)).feedByte b =
      if (len :: r ++ [b]).length = len.toNat + 5 then s.judgeFrame (len :: r ++ [b])
      else s.collecting (len :: r ++ [b]) := by
  show (if (len :: r ++ [b]).length = len.toNat + 5 then (s.collecting (len :: r)).dropFrame.judgeFrame (len :: r ++ [b])
    else s.collecting (len :: r ++ [b])) = _
  rw [dropFrame_collecting hunt]

/-- R182: the bytes after LEN are collected until the frame is complete, and then it is judged. -/
theorem feedBytes_collecting (on : s.receiving = true) (hunt : s.link.framer = .hunt) {len : Byte} {rest : List Byte} :
    ∀ {r : List Byte}, rest ≠ [] → (len :: r ++ rest).length = len.toNat + 5 →
      (s.collecting (len :: r)).feedBytes rest = s.judgeFrame (len :: r ++ rest) := by
  induction rest with
  | nil => exact fun h => absurd rfl h
  | cons b rest ih =>
    intro r _ complete
    rw [feedBytes_cons (by simpa using on), feedByte_next hunt]
    cases rest with
    | nil => rw [if_pos complete]; rfl
    | cons c rest =>
      simp only [List.cons_append, List.length_cons, List.length_append] at complete
      rw [if_neg (by simp only [List.cons_append, List.length_cons, List.length_append, List.length_nil]; omega)]
      have all := ih (r := r ++ [b]) (List.cons_ne_nil _ _) (by simp only [List.cons_append, List.length_cons, List.length_append, List.length_nil]; omega)
      simpa using all

/-- R182: SYNC, a LEN of no more than 60 and as many bytes as it calls for make a frame. -/
theorem feedBytes_frame (on : s.receiving = true) (hunt : s.link.framer = .hunt) {len : Byte} {rest : List Byte}
    (le : len.toNat ≤ 60) (complete : rest.length = len.toNat + 4) :
    s.feedBytes (0xC3 :: len :: rest) = s.judgeFrame (len :: rest) := by
  rw [feedBytes_cons on, feedByte_sync hunt, feedBytes_cons (by simpa using on), feedByte_len hunt, if_neg (by omega)]
  exact feedBytes_collecting on hunt (by rintro rfl; simp at complete) (by simpa using complete)

/-- R182: a LEN above 60 ends the frame. -/
theorem feedBytes_tooLong (on : s.receiving = true) (hunt : s.link.framer = .hunt) {len : Byte} (h : 60 < len.toNat) :
    s.feedBytes [0xC3, len] = s.errRxLength := by
  rw [feedBytes_cons on, feedByte_sync hunt, feedBytes_cons (by simpa using on), feedByte_len hunt, if_pos h]
  rfl

/-- R182, R184: an event that ends a frame in progress. -/
theorem frameError_of {err : State → State} (on : s.receiving = true) (busy : s.link.framer ≠ .hunt) :
    s.frameError err = err s.dropFrame := by
  have : s.link.framer.isHunt = false := by
    cases h : s.link.framer with
    | hunt => exact absurd h busy
    | inFrame l => rfl
  rw [frameError, doIf_eq, if_pos (by simp [on, this])]

theorem frameError_none {err : State → State} (h : ¬ s.receiving = true ∨ s.link.framer = .hunt) :
    s.frameError err = s := by
  rw [frameError, doIf_eq, if_neg]
  rcases h with h | h
  · simp [h]
  · simp [h, Framer.isHunt]

/-! ### Judging and taking (R183, R185) -/

theorem judgeFrame_append (body : List Byte) {chk : List Byte} (two : chk.length = 2) :
    s.judgeFrame (body ++ chk) =
      if good16 body (ofBe chk) then
        (s.takeFrame (body.getD 1 0) (body.getD 2 0) (body.drop 3)).doIf
          ((s.takeFrame (body.getD 1 0) (body.getD 2 0) (body.drop 3)).power.part == .standby) fun s => s.takeWake .hostFrame
      else s.errRxCheck := by
  have body_length : (body ++ chk).length - 2 = body.length := by simp [two]
  rw [judgeFrame]
  simp only [body_length, List.take_left, List.drop_left]

theorem judgeFrame_bad {body chk : List Byte} (two : chk.length = 2) (bad : good16 body (ofBe chk) = false) :
    s.judgeFrame (body ++ chk) = s.errRxCheck := by
  rw [judgeFrame_append _ two, if_neg (by simp [bad])]

theorem judgeFrame_good {len kind tag : Byte} {payload chk : List Byte} (two : chk.length = 2)
    (good : good16 (len :: kind :: tag :: payload) (ofBe chk) = true) :
    s.judgeFrame (len :: kind :: tag :: payload ++ chk) =
      (s.takeFrame kind tag payload).doIf ((s.takeFrame kind tag payload).power.part == .standby)
        fun s => s.takeWake .hostFrame := by
  rw [judgeFrame_append _ two, if_pos good]
  rfl

/-- R182, R183: the bytes of a formed frame are taken as that frame. -/
theorem feedBytes_hostFrame (on : s.receiving = true) (hunt : s.link.framer = .hunt) (kind tag : Byte) {payload : List Byte}
    (le : payload.length ≤ 60) :
    s.feedBytes (hostFrame kind tag payload) =
      (s.takeFrame kind tag payload).doIf ((s.takeFrame kind tag payload).power.part == .standby)
        fun s => s.takeWake .hostFrame := by
  have len : (byte payload.length).toNat = payload.length := by
    rw [byte, BitVec.toNat_ofNat]
    omega
  have two : (chk16 (byte payload.length :: kind :: tag :: payload)).length = 2 := be_length _ _
  rw [← judgeFrame_good two (good16_chk16 _)]
  exact feedBytes_frame on hunt (by omega) (by simp [len, two])

/-- R185: with fewer than 4 requests waiting the frame is added. -/
theorem takeFrame_room (kind tag : Byte) (payload : List Byte) (h : s.link.requests.length < 4) :
    s.takeFrame kind tag payload =
      { s with link := { s.link with requests := s.link.requests ++ [⟨kind, tag, payload⟩] } } := if_pos h

/-- R185: with 4 requests waiting it is answered BUSY, or dropped when no reply can be placed. -/
theorem takeFrame_full (kind tag : Byte) (payload : List Byte) (hunt : s.link.framer = .hunt) (h : 4 ≤ s.link.requests.length) :
    s.takeFrame kind tag payload =
      { s.dropFlagged s.link.errors.queueFull { s.link.errors with queueFull := true } with
        link :=
          { (s.dropFlagged s.link.errors.queueFull { s.link.errors with queueFull := true }).link with
            replies :=
              if s.link.replies.length < 8 then
                s.link.replies ++ [⟨if kind.toNat < 0x80 then kind + 0x80 else 0xFF, tag, [1], .plain⟩]
              else s.link.replies } } := by
  rw [takeFrame, if_neg (by omega), doIf_eq]
  by_cases room : s.link.replies.length < 8
  · rw [if_pos (by simpa using room), if_pos room, ← dropFrame_hunt (s := s.placeReply _ _ _ _) hunt, dropFrame_errQueueFull]
    rfl
  · rw [if_neg (by simpa using room), if_neg room, ← dropFrame_hunt hunt, dropFrame_errQueueFull, dropFrame_hunt hunt]
    rfl

end State

end Sys2Proof.Machine

namespace Sys2Proof.Proofs

open Machine Safety

/-- Settles O59: a formed frame reaches the judge whole, whose check it meets; the rest is what the framer does with the
byte or the event at hand. -/
theorem framesReceived : Obligations.FramesReceived := by
  unfold Obligations.FramesReceived
  intro s receives e flagged
  have on : s.receiving = true ↔ receives := by simp [State.receiving, receives, and_assoc]
  have fed : ∀ l, exec (.hostFrameReceived l) s = .next (s.feedBytes l) := fun l => rfl
  refine ⟨fun off l => ?lost, fun a b t h => ?append, fun h hunt => ⟨fun b hb => ?noise, fun len hl => ?tooLong,
    fun kind tag payload le => ⟨fun high room => ?taken, fun high full => ?busy, fun low free room => ?wakes⟩,
    fun body chk h3 h63 head two bad => ?bad⟩, fun h => ?idle, fun h busy => ?errors, ?sums⟩
  case lost => rw [fed, State.feedBytes_lost (by simpa using mt on.1 off)]
  case append =>
    obtain rfl : s.feedBytes a = t := Host.Outcome.next.inj h
    exact congrArg Host.Outcome.next List.foldl_append
  case noise =>
    rw [fed, State.feedBytes_cons (on.2 h), State.feedByte_noise hunt hb]
    rfl
  case tooLong =>
    rw [fed, State.feedBytes_tooLong (on.2 h) hunt hl, ← State.dropFrame_hunt hunt, State.dropFrame_errRxLength]
    rfl
  case taken =>
    rw [fed, State.feedBytes_hostFrame (on.2 h) hunt _ _ le, State.takeFrame_room _ _ _ room, State.doIf_eq]
    exact congrArg Host.Outcome.next (if_neg (by simpa using high))
  case busy =>
    rw [fed, State.feedBytes_hostFrame (on.2 h) hunt _ _ le, State.takeFrame_full _ _ _ hunt full, State.doIf_eq]
    exact congrArg Host.Outcome.next (if_neg (mt beq_iff_eq.1 high))
  case wakes =>
    rw [fed, State.feedBytes_hostFrame (on.2 h) hunt _ _ le, State.takeFrame_room _ _ _ room, State.doIf_eq]
    obtain ⟨u, hu⟩ : ∃ u : State, u =
      { s with link := { s.link with requests := s.link.requests ++ [⟨kind, tag, payload⟩] } } := ⟨_, rfl⟩
    have part : u.power.part = .standby := by rw [hu]; exact low
    have entry : u.stage.entryWait = false := by rw [hu]; exact free
    rw [← hu, if_pos (by simpa using part), State.takeWake_awake (.inl part) entry]
    refine ⟨_, rfl, ?_, ?_⟩
    · have back := u.returnToRun_returned .hostFrame
      subst hu
      exact back
    · rw [(u.returnToRun_awoken .hostFrame).1.link, hu]
      rfl
  case bad =>
    cases body with
    | nil => simp at h3
    | cons b rest =>
      rw [List.length_cons] at h3 h63 head
      obtain rfl : b = byte (rest.length + 1 - 3) := Option.some.inj head
      have len : (byte (rest.length + 1 - 3)).toNat = rest.length + 1 - 3 := by
        rw [byte, BitVec.toNat_ofNat]
        omega
      rw [fed, List.cons_append, List.cons_append, State.feedBytes_frame (on.2 h) hunt (by omega)
        (by rw [len, List.length_append, two]; omega), ← List.cons_append, State.judgeFrame_bad two bad,
        ← State.dropFrame_hunt hunt, State.dropFrame_errRxCheck]
      rfl
  case idle =>
    have h' : ¬ s.receiving = true ∨ s.link.framer = .hunt := h.imp_left (mt on.1)
    refine ⟨congrArg Host.Outcome.next (State.frameError_none h'), fun x => ?_⟩
    cases x <;> exact congrArg Host.Outcome.next (State.frameError_none h')
  case errors =>
    have drops : ∀ err, s.frameError err = err s.dropFrame := fun err => State.frameError_of (on.2 h) busy
    exact ⟨congrArg Host.Outcome.next ((drops _).trans State.dropFrame_errRxTimeout),
      congrArg Host.Outcome.next ((drops _).trans State.dropFrame_errRxLength),
      congrArg Host.Outcome.next ((drops _).trans State.dropFrame_errRxCheck)⟩
  case sums => decide

end Sys2Proof.Proofs
end

section
/-! The entry to STANDBY and SLEEP: the heating controller stopped, the stage link at rest, the other blocks put away
(R127, R168). -/

-- One declaration at a time: each thread the elaborator opens takes its whole stack from the memory limit.
set_option Elab.async false

namespace Sys2Proof.Machine.State

open Safety

/-! ### The heating controller stopped (R77) -/

/-- R59: with no zone HEATING there is nothing to switch off. -/
theorem writeOffs_cold (s : State) {old : List Zone} (cold : ∀ z ∈ old, z.heat ≠ .heating) (shed : List Nat) :
    s.writeOffs old shed = s := by
  unfold writeOffs
  have still (i : Nat) (u : State) :
      u.doIf ((old.getD i {}).heat == .heating && (u.heating.zones.getD i {}).heat != .heating)
        (fun s => s.writeSetpoint (i + 4) 0) = u := by
    have : (old.getD i {}).heat ≠ .heating := by
      by_cases hi : i < old.length
      · rw [List.getD_eq_getElem _ _ hi]
        exact cold _ (List.getElem_mem hi)
      · rw [List.getD_eq_default _ _ (by omega)]
        decide
    rw [doIf_eq, beq_eq_false_iff_ne.2 this]
    rfl
  generalize (List.range 8).filter (fun i => !shed.contains i) ++ shed = l
  induction l with
  | nil => rfl
  | cons i l ih => rw [List.foldl_cons, still, ih]

/-- R77: of the rows the zones and the source alone are set, and with no zone HEATING nothing is commanded. -/
theorem heatAllOff_cold {s : State} (cold : ∀ z ∈ s.heating.zones, z.heat ≠ .heating) : s.heatAllOff.stage = s.stage := by
  obtain ⟨b, c, step⟩ : ∃ b c, s.heatAllOff =
      ((((s.onHeating fun h => { h with source := .none, zones := (h.zones.map Zone.takeOff).map Zone.refresh }).writeOffs
        s.heating.zones []).postHeatOn b).postDemands.postMinTemp).doIf c fun s => s.raise .heat := ⟨_, _, rfl⟩
  rw [step, writeOffs_cold _ cold, onlyChanges_stage (onlyChanges_doIf (raise_frame _ _)),
    onlyChanges_stage (postMinTemp_frame _), onlyChanges_stage (postDemands_frame _), onlyChanges_stage (postHeatOn_frame _ b)]
  rfl

/-- R77: every zone is off and no source chosen. -/
theorem heatAllOff_rows (s : State) :
    s.heatAllOff.heating.source = .none ∧ ∀ z ∈ s.heatAllOff.heating.zones, z.heat ≠ .heating := by
  have rows := (heatStep_stepped s [] [] false fun h => { h with source := .none, zones := h.zones.map Zone.takeOff }).rows
  obtain ⟨zones, -⟩ := rows.fields
  refine ⟨?_, ?_⟩
  · rw [heatAllOff, rows]
  · rw [heatAllOff, zones]
    intro z hz
    obtain ⟨y, hy, rfl⟩ := List.mem_map.1 hz
    obtain ⟨x, -, rfl⟩ := List.mem_map.1 hy
    exact x.refresh_takeOff

/-! ### The stage link at rest (R127) -/

/-- What the heating controller and the budget are told of a node leaves the controller's settings and its periods. -/
theorem told_outlying (s : State) (a : Nat) (st : NodeState) :
    Outlying s (((s.heatNodeState a st).postCharger a).raise .stage) := by
  have zone : Outlying s (s.heatNodeState a st) := by
    unfold heatNodeState atHeater
    split
    · exact Outlying.zoneStep s _ _
    · exact Outlying.refl s
  exact (zone.doIf _ fun u => Outlying.postBudget u _).trans (Outlying.raise _ _)

/-- R127: a node that is ACTIVE, LOST or MISMATCH becomes MISSING. -/
def standDown (s : State) (a : Nat) : State :=
  s.doIf ((s.node a).st == .active || (s.node a).st == .lost || (s.node a).st == .mismatch) fun s => s.leaveActive a .missing

/-- R127: the state a node has once the link is at rest. -/
def stoodDown (st : NodeState) : NodeState := if st = .absent then .absent else .missing

/-- The node at `a` polls and refreshes no more. -/
def Untimed (s : State) (a : Nat) : Prop := (s.node a).pollTimer = none ∧ (s.node a).refreshTimer = none

/-- Every normal entry is one of an ACTIVE node. -/
def NormalActive (s : State) : Prop := ∀ e ∈ s.stage.normal, (s.node e.addr).st = .active

/-- The heating controller's part in a change of the link: its zones and the figures it posts. -/
def ZonesMoved (s t : State) : Prop :=
  t.heating =
    { s.heating with
      zones := t.heating.zones, sess := t.heating.sess, postedDemands := t.heating.postedDemands
      postedMin := t.heating.postedMin, postedHeatOn := t.heating.postedHeatOn }

/-- What standing down the nodes of `l` leaves. -/
structure StoodDown (l : List Nat) (s t : State) : Prop where
  down : ∀ a ∈ l, (t.node a).st = stoodDown (s.node a).st
  others : ∀ a, a ∉ l → (t.node a).st = (s.node a).st
  untimed : ∀ a, Untimed s a → Untimed t a
  normal : NormalActive s → NormalActive t
  urgent : ∀ e ∈ t.stage.urgent, e ∈ s.stage.urgent
  stage : t.stage = { s.stage with nodes := t.stage.nodes, urgent := t.stage.urgent, normal := t.stage.normal }
  length : t.stage.nodes.length = s.stage.nodes.length
  heating : ZonesMoved s t
  link : t.link = { s.link with notices := t.link.notices }
  frame : onlyChanges [.heating, .stage, .budgetIn, .link] s t

/-- The blocks that a node standing down moves, and that of the host link it raises notices alone. -/
theorem standDown_tells {s : State} {a : Nat} (free : ¬ (s.iso.st = .searching ∧ s.iso.search.under = some a)) :
    onlyChanges [.heating, .stage, .budgetIn, .link] s (s.standDown a) ∧
      (s.standDown a).link = { s.link with notices := (s.standDown a).link.notices } := by
  by_cases h : ((s.node a).st == .active || (s.node a).st == .lost || (s.node a).st == .mismatch) = true
  · rw [standDown, doIf_eq, if_pos h, leaveActive_left free]
    refine ⟨(left_elsewhere s a _ _).frame, ?_⟩
    obtain ⟨u, hu⟩ : ∃ u, u = (s.dropEntries a).onNode a fun n =>
      { n with st := .missing, pollTimer := none, refreshTimer := none, temp := none, headroom := 0, acked := none } := ⟨_, rfl⟩
    have link : u.link = s.link := by
      rw [hu, onlyChanges_link (onNode_frame _ a _)]
      rfl
    rw [left, ← hu, ← link]
    exact (told_outlying u a .missing).link
  · rw [standDown, doIf_eq, if_neg h]
    exact ⟨onlyChanges_refl _ s, rfl⟩

theorem standDown_one {s : State} {a : Nat} (ha : 1 ≤ a) (hl : a ≤ s.stage.nodes.length)
    (free : ¬ (s.iso.st = .searching ∧ s.iso.search.under = some a)) : StoodDown [a] s (s.standDown a) := by
  by_cases h : (s.node a).st = .absent ∨ (s.node a).st = .missing
  · have same : s.standDown a = s := by
      rw [standDown, doIf_eq, if_neg]
      rcases h with h | h <;> simp [h]
    rw [same]
    refine ⟨fun b hb => ?_, fun _ _ => rfl, fun _ h => h, fun h => h, fun _ h => h, rfl, rfl, rfl, rfl, onlyChanges_refl _ s⟩
    obtain rfl := List.mem_singleton.1 hb
    rcases h with h | h <;> simp [stoodDown, h]
  · have leaves : s.standDown a = s.leaveActive a .missing := by
      rw [standDown, doIf_eq, if_pos]
      cases hs : (s.node a).st <;> simp_all
    have gone := leaveActive_departed ha hl free (st := .missing) (by decide)
    rw [leaves]
    obtain ⟨f, hf⟩ : ∃ f : Node → Node, f = fun n =>
      { n with st := .missing, pollTimer := none, refreshTimer := none, temp := none, headroom := 0, acked := none } := ⟨_, rfl⟩
    have left_eq : s.leaveActive a .missing = s.left a .missing f := by rw [hf]; exact leaveActive_left free _
    have elsewhere := left_elsewhere s a .missing f
    obtain ⟨w, hw⟩ := left_node ha hl .missing f
    have told := told_outlying ((s.dropEntries a).onNode a f) a .missing
    have heating : ((s.dropEntries a).onNode a f).heating = s.heating := by
      rw [onlyChanges_heating (onNode_frame _ a f)]
      rfl
    have tells := standDown_tells free
    rw [leaves, left_eq] at tells
    rw [left_eq] at gone ⊢
    obtain ⟨t, ht⟩ : ∃ t, t = s.left a .missing f := ⟨_, rfl⟩
    rw [← ht] at gone elsewhere tells hw ⊢
    have other (b : Nat) (hb : b ≠ a) : (t.node b).st = (s.node b).st := by
      obtain ⟨v, hv⟩ := elsewhere.others b hb
      rw [hv]
    refine ⟨fun b hb => ?_, fun b hb => other b (by simpa using hb), fun b hb => ?_, fun active e he => ?_, fun e he => ?_,
      gone.stage, elsewhere.length, ?_, tells.2, tells.1⟩
    · obtain rfl := List.mem_singleton.1 hb
      rw [gone.st, stoodDown, if_neg fun h' => h (.inl h')]
    · by_cases hba : b = a
      · rw [hba, Untimed, hw, hf]
        exact ⟨rfl, rfl⟩
      · obtain ⟨v, hv⟩ := elsewhere.others b hba
        rw [Untimed, hv]
        exact hb
    · have ne := gone.normal e he
      rw [other _ ne]
      rcases elsewhere.normal_of e he with he' | ha' | act
      · exact active e he'
      · exact absurd ha' ne
      · exact act
    · exact (elsewhere.urgent_of e he).resolve_right (gone.urgent e he)
    · have moved := told.heating
      rw [heating] at moved
      rw [ZonesMoved, ht]
      exact moved

theorem StoodDown.cons {a : Nat} {l : List Nat} {s t u : State} (first : StoodDown [a] s t) (rest : StoodDown l t u) (ha : a ∉ l) :
    StoodDown (a :: l) s u where
  down b hb := by
    rcases List.mem_cons.1 hb with rfl | hb
    · rw [rest.others b ha, first.down b (List.mem_singleton_self b)]
    · rw [rest.down b hb, first.others b fun h => ha (List.mem_singleton.1 h ▸ hb)]
  others b hb := by
    obtain ⟨hba, hbl⟩ := not_or.1 (mt List.mem_cons.2 hb)
    rw [rest.others b hbl, first.others b (by simpa using hba)]
  untimed b hb := rest.untimed b (first.untimed b hb)
  normal h := rest.normal (first.normal h)
  urgent e he := first.urgent e (rest.urgent e he)
  stage := by rw [rest.stage, first.stage]
  length := rest.length.trans first.length
  heating := by
    have h := rest.heating
    rw [ZonesMoved, first.heating] at h
    exact h
  link := by rw [rest.link, first.link]
  frame := onlyChanges_trans first.frame rest.frame

theorem standDown_all {l : List Nat} (nodup : l.Nodup) : ∀ {s : State}, (∀ a ∈ l, 1 ≤ a ∧ a ≤ s.stage.nodes.length) →
    (∀ a, ¬ (s.iso.st = .searching ∧ s.iso.search.under = some a)) → StoodDown l s (l.foldl standDown s) := by
  induction l with
  | nil =>
    intro s _ _
    exact ⟨by simp, fun _ _ => rfl, fun _ h => h, fun h => h, fun _ h => h, rfl, rfl, rfl, rfl, onlyChanges_refl _ s⟩
  | cons a l ih =>
    intro s range free
    obtain ⟨ha, hn⟩ := List.nodup_cons.1 nodup
    obtain ⟨h1, h2⟩ := range a (List.mem_cons_self ..)
    have first := standDown_one h1 h2 (free a)
    refine first.cons (ih hn (fun b hb => ?_) fun b => ?_) ha
    · rw [first.length]
      exact range b (List.mem_cons_of_mem _ hb)
    · rw [onlyChanges_iso first.frame]
      exact free b

/-- R127: the link's queues, its re-call timer and its supply off, no node timed. -/
def silenced (s : State) : State :=
  s.onStage fun g =>
    { g with
      urgent := [], normal := [], recallTimer := none, supplyOn := false, entryWait := false
      nodes := g.nodes.map fun n => { n with pollTimer := none, refreshTimer := none } }

theorem stageStandby_eq (s : State) : s.stageStandby = addresses.foldl standDown s.silenced := rfl

theorem silenced_node (s : State) (a : Nat) :
    s.silenced.node a = { s.node a with pollTimer := none, refreshTimer := none } := by
  cases a with
  | zero => rfl
  | succ i =>
    show (s.stage.nodes.map fun n => { n with pollTimer := none, refreshTimer := none }).getD i {} = _
    simp only [State.node, List.getD_eq_getElem?_getD, List.getElem?_map]
    cases s.stage.nodes[i]? <;> rfl

/-- An address past the last node reads as a node that is ABSENT. -/
theorem node_outside {s : State} {a : Nat} (h : s.stage.nodes.length < a) : s.node a = {} := by
  cases a with
  | zero => rfl
  | succ i => exact List.getD_eq_default _ _ (by omega)

/-- R127: the blocks that the link coming to rest moves. -/
theorem stageStandby_tells {s : State} (free : ∀ a, ¬ (s.iso.st = .searching ∧ s.iso.search.under = some a)) :
    onlyChanges [.heating, .stage, .budgetIn, .link] s s.stageStandby ∧
      s.stageStandby.link = { s.link with notices := s.stageStandby.link.notices } := by
  have all (l : List Nat) : ∀ u : State, (∀ a, ¬ (u.iso.st = .searching ∧ u.iso.search.under = some a)) →
      onlyChanges [.heating, .stage, .budgetIn, .link] u (l.foldl standDown u) ∧
        (l.foldl standDown u).link = { u.link with notices := (l.foldl standDown u).link.notices } := by
    induction l with
    | nil => exact fun u _ => ⟨onlyChanges_refl _ u, rfl⟩
    | cons a l ih =>
      intro u free
      obtain ⟨frame, link⟩ := standDown_tells (free a)
      obtain ⟨frame', link'⟩ := ih (u.standDown a) (by rw [onlyChanges_iso frame]; exact free)
      rw [List.foldl_cons]
      exact ⟨onlyChanges_trans frame frame', by rw [link', link]⟩
  have frame : onlyChanges [.stage] s s.silenced := onStage_frame s _
  obtain ⟨rest, link⟩ := all addresses s.silenced free
  rw [stageStandby_eq]
  obtain ⟨t, ht⟩ : ∃ t, t = addresses.foldl standDown s.silenced := ⟨_, rfl⟩
  rw [← ht] at rest link ⊢
  exact ⟨onlyChanges_trans frame rest, link⟩

/-- R127: the link at rest, with what its nodes' states are told to. -/
structure AtRest (s t : State) : Prop where
  resting : linkResting s t
  stage : t.stage = { s.silenced.stage with nodes := t.stage.nodes, urgent := t.stage.urgent, normal := t.stage.normal }
  heating : ZonesMoved s t
  link : t.link = { s.link with notices := t.link.notices }
  frame : onlyChanges [.heating, .stage, .budgetIn, .link] s t

/-- R127: with no search testing a branch the link comes to rest. -/
theorem stageStandby_rests {s : State} (nodes : s.stage.nodes.length = 11)
    (free : ∀ a, ¬ (s.iso.st = .searching ∧ s.iso.search.under = some a)) : AtRest s s.stageStandby := by
  have range : ∀ a ∈ addresses, 1 ≤ a ∧ a ≤ s.silenced.stage.nodes.length := by
    have length : s.silenced.stage.nodes.length = 11 := by
      show (s.stage.nodes.map _).length = 11
      rw [List.length_map, nodes]
    rw [length]
    decide
  have down := standDown_all (l := addresses) (by decide) range free
  have frame : onlyChanges [.stage] s s.silenced := onStage_frame s _
  rw [stageStandby_eq]
  have active : NormalActive s.silenced := fun e he => by cases he
  have normal := down.normal active
  have length := down.length
  obtain ⟨t, ht⟩ : ∃ t, t = addresses.foldl standDown s.silenced := ⟨_, rfl⟩
  rw [← ht] at down normal length ⊢
  refine ⟨⟨?_, ?_, ?_, ?_, ?_, fun a ha => ⟨?_, ?_⟩⟩, down.stage, down.heating, down.link,
    onlyChanges_trans frame down.frame⟩
  · rw [down.stage]; rfl
  · exact List.eq_nil_iff_forall_not_mem.2 fun e he => by cases down.urgent e he
  · refine List.eq_nil_iff_forall_not_mem.2 fun e he => ?_
    have act := normal e he
    by_cases listed : e.addr ∈ addresses
    · rw [down.down _ listed, stoodDown] at act
      split_ifs at act
    · have outside : e.addr = 0 ∨ 11 < e.addr := by
        by_contra h
        exact listed (by simp only [addresses, List.mem_cons, List.not_mem_nil, or_false]; omega)
      rw [down.others _ listed] at act
      rcases outside with h | h
      · rw [h] at act
        cases act
      · rw [silenced_node, node_outside (a := e.addr) (s := s) (by omega)] at act
        cases act
  · rw [down.stage]; rfl
  · rw [down.stage]; rfl
  · rw [down.down a ha, silenced_node, stoodDown]
  · exact down.untimed a (by rw [Untimed, silenced_node]; exact ⟨rfl, rfl⟩)

/-! ### The entry to STANDBY and SLEEP (R168) -/

/-- R190: a step of the heating controller raises its own notice at the most. -/
theorem heatAllOff_link (s : State) : s.heatAllOff.link = { s.link with notices := s.heatAllOff.link.notices } := by
  obtain ⟨b, c, step⟩ : ∃ b c, s.heatAllOff =
      ((((s.onHeating fun h => { h with source := .none, zones := (h.zones.map Zone.takeOff).map Zone.refresh }).writeOffs
        s.heating.zones []).postHeatOn b).postDemands.postMinTemp).doIf c fun s => s.raise .heat := ⟨_, _, rfl⟩
  obtain ⟨u, hu⟩ : ∃ u, u =
      ((((s.onHeating fun h => { h with source := .none, zones := (h.zones.map Zone.takeOff).map Zone.refresh }).writeOffs
        s.heating.zones []).postHeatOn b).postDemands.postMinTemp) := ⟨_, rfl⟩
  have link : u.link = s.link := by
    rw [hu, onlyChanges_link (postMinTemp_frame _), onlyChanges_link (postDemands_frame _),
      onlyChanges_link (postHeatOn_frame _ b), onlyChanges_link (writeOffs_frame _ _ _)]
    rfl
  rw [step, ← hu, ← link]
  exact ((Steered.refl u).doIf fun _ h => h.raise .heat).link

/-- R77: the heating controller stopped. -/
structure HeatStopped (s t : State) : Prop where
  source : t.heating.source = .none
  periods : t.heating.heatPeriod = none ∧ t.heating.onTick = none
  cold : ∀ z ∈ t.heating.zones, z.heat ≠ .heating
  stage : (∀ z ∈ s.heating.zones, z.heat ≠ .heating) → t.stage = s.stage
  commands : Commands s t
  link : t.link = { s.link with notices := t.link.notices }
  frame : onlyChanges [.heating, .stage, .budgetIn, .link] s t
  onward : Onward s t

theorem heatStop_stopped (s : State) : HeatStopped s s.heatStop := by
  have off := heatStep_stepped s [] [] false fun h => { h with source := .none, zones := h.zones.map Zone.takeOff }
  obtain ⟨source, cold⟩ := heatAllOff_rows s
  have still := heatAllOff_cold (s := s)
  have link := heatAllOff_link s
  obtain ⟨u, hu⟩ : ∃ u, u = s.heatAllOff := ⟨_, rfl⟩
  have step : s.heatStop = u.onHeating fun h => { h with heatPeriod := none, onTick := none } := by rw [hu]; rfl
  have commands : Commands s u := hu ▸ off.commands
  have offU : onlyChanges [.heating, .stage, .budgetIn, .link] s u ∧ Onward s u := hu ▸ ⟨off.frame, off.onward⟩
  rw [← hu] at source cold still link
  rw [step]
  exact ⟨source, ⟨rfl, rfl⟩, cold, still, commands.trans (Commands.of_stage rfl), link, onlyChanges_trans offU.1 (onHeating_frame _ _),
    offU.2.trans (Onward.of_frame (onHeating_frame _ _))⟩

/-- R78: the monitor, in no search, enters OFF. -/
theorem isoOff_facts {s : State} (h : s.iso.st ≠ .searching) :
    s.isoOff.iso.st = .off ∧ s.isoOff.iso.vPack = s.iso.vPack ∧ s.isoOff.pins.wake = s.pins.wake ∧
      onlyChanges [.iso, .session, .pins, .heating, .link, .budgetIn] s s.isoOff ∧ Steered s s.isoOff := by
  by_cases hs : s.iso.st = .off
  · rw [isoOff, if_pos hs]
    exact ⟨hs, rfl, rfl, onlyChanges_refl _ s, Steered.refl s⟩
  · rw [isoOff, if_neg hs, if_neg h, isoChange_iso]
    obtain ⟨load, pins⟩ := (isoChange_moved s Insulation.offed).pins
    exact ⟨rfl, rfl, by rw [pins], isoChange_frame s _, (Steered.refl s).isoChange _⟩

/-- The part as an entry to STANDBY or SLEEP leaves it before the link comes to rest. -/
def putAway (s : State) (target : PartState) : State :=
  let s := s.onPower fun p => { p with part := target, heldWake := none }
  let s := s.heatStop.meterStandby
  let s := (s.queueTotals false).isoStandby.budgetStandby
  let s := s.onStage fun g => { g with entryWait := true }
  s.doIf s.pins.wake fun s => s.onPower fun p => { p with heldWake := some .wakeLine }

theorem enterLow_eq (s : State) (target : PartState) : s.enterLow target = (s.putAway target).finishEntry := rfl

/-- What an entry leaves of the blocks other than the link's nodes. -/
structure PutAway (target : PartState) (s t : State) : Prop where
  power : t.power = { s.power with part := target, heldWake := if s.pins.wake then some .wakeLine else none }
  stage : t.stage = { s.stage with entryWait := true }
  heating : t.heating.source = .none ∧ t.heating.heatPeriod = none ∧ t.heating.onTick = none
  meter : t.meter =
    { s.meter with live := {}, period := none, posted1 := 0, posted2 := 0, posted3 := 0, postedPack := none
                   lastWrite := t.meter.lastWrite }
  totals : waits t (.totals s.meter.totals)
  iso : t.iso.st = .off ∧ t.iso.vPack = none
  budget : t.budget.period = none ∧ t.budget.input.limits.present = false ∧ t.budget.input.limits.stale = true
  link : t.link = { s.link with notices := t.link.notices }
  now : t.now = s.now
  frame : onlyChanges [.power, .heating, .meter, .nv, .iso, .isoIn, .budget, .budgetIn, .stage, .link, .session, .pins] s t

theorem putAway_facts {s : State} (cold : ∀ z ∈ s.heating.zones, z.heat ≠ .heating) (quiet : s.iso.st ≠ .searching)
    (target : PartState) : PutAway target s (s.putAway target) := by
  obtain ⟨a, ha⟩ : ∃ a, a = s.onPower fun p => { p with part := target, heldWake := none } := ⟨_, rfl⟩
  obtain ⟨b, hb⟩ : ∃ b, b = a.heatStop := ⟨_, rfl⟩
  obtain ⟨c, hc⟩ : ∃ c, c = b.meterStandby := ⟨_, rfl⟩
  obtain ⟨d, hd⟩ : ∃ d, d = c.queueTotals false := ⟨_, rfl⟩
  obtain ⟨e, he⟩ : ∃ e, e = { d with isoIn := [] }.onIso fun x => { x with vPack := none } := ⟨_, rfl⟩
  obtain ⟨f, hf⟩ : ∃ f, f = e.isoOff := ⟨_, rfl⟩
  have fA : onlyChanges [.power] s a := ha ▸ onPower_frame s _
  have stopped := a.heatStop_stopped
  rw [← hb] at stopped
  have fB := stopped.frame
  have stageB : b.stage = s.stage := by
    rw [stopped.stage (by rw [onlyChanges_heating fA]; exact cold), onlyChanges_stage fA]
  have fC : onlyChanges [.meter, .budgetIn, .isoIn] b c := by
    rw [hc]
    simp [meterStandby, meterStop, onMeter, postBudget, postIso, onlyChanges]
  have fD : onlyChanges [.nv, .meter] c d := hd ▸ queueTotals_frame c false
  have fE : onlyChanges [.isoIn, .iso] d e := by
    rw [he]
    simp [onIso, onlyChanges]
  have quietE : e.iso.st ≠ .searching := by
    rw [he]
    show d.iso.st ≠ .searching
    rwa [onlyChanges_iso fD, onlyChanges_iso fC, onlyChanges_iso fB, onlyChanges_iso fA]
  obtain ⟨off, vPack, wake, fF, steered⟩ := isoOff_facts quietE
  rw [← hf] at off vPack wake fF steered
  have fBE : onlyChanges [.meter, .budgetIn, .isoIn, .nv, .iso] b e :=
    onlyChanges_trans (onlyChanges_trans fC fD (rs := [.meter, .budgetIn, .isoIn, .nv])) fE
  have meterD : d.meter =
      { s.meter with live := {}, period := none, posted1 := 0, posted2 := 0, posted3 := 0, postedPack := none
                     lastWrite := d.meter.lastWrite } := by
    have meterB : b.meter = s.meter := by rw [onlyChanges_meter fB, onlyChanges_meter fA]
    have meterC : c.meter =
        { b.meter with live := {}, period := none, posted1 := 0, posted2 := 0, posted3 := 0, postedPack := none } := by
      rw [hc]
      rfl
    have queued : d.meter = { c.meter with lastWrite := d.meter.lastWrite } := by
      rw [hd]
      rfl
    rw [meterC, meterB] at queued
    exact queued
  have totalsD : waits d (.totals s.meter.totals) := by
    have totals : c.meter.totals = s.meter.totals := by
      have := congrArg Meter.totals meterD
      rw [hd] at this
      exact this
    rw [hd, ← totals]
    exact queueNv_waits c _ _
  obtain ⟨g, hg⟩ : ∃ g, g = f.budgetStandby.onStage fun g => { g with entryWait := true } := ⟨_, rfl⟩
  have step : s.putAway target = g.doIf g.pins.wake fun s => s.onPower fun p => { p with heldWake := some .wakeLine } := by
    unfold putAway
    dsimp only
    rw [← ha, ← hb, ← hc, ← hd, isoStandby, ← he, ← hf, ← hg]
  have fG : onlyChanges [.budget, .stage] f g :=
    hg ▸ onlyChanges_trans (onBudget_frame f _) (onStage_frame _ _) (ps := [.budget]) (qs := [.stage])
  have fEG : onlyChanges [.iso, .session, .pins, .heating, .link, .budgetIn, .budget, .stage] e g := onlyChanges_trans fF fG
  have powerG : g.power = { s.power with part := target, heldWake := none } := by
    rw [onlyChanges_power fEG, onlyChanges_power fBE, onlyChanges_power fB, ha]
    rfl
  have wakeG : g.pins.wake = s.pins.wake := by
    rw [onlyChanges_pins fG, wake, onlyChanges_pins fBE, onlyChanges_pins fB, onlyChanges_pins fA]
  have stageG : g.stage = { s.stage with entryWait := true } := by
    have stageF : f.stage = s.stage := by rw [onlyChanges_stage fF, onlyChanges_stage fBE, stageB]
    rw [← stageF, hg]
    rfl
  have heatingG : g.heating = { b.heating with sess := g.heating.sess } := by
    have := steered.heating
    rw [← onlyChanges_heating fG, onlyChanges_heating fBE] at this
    exact this
  have meterG : g.meter = d.meter := by
    rw [onlyChanges_meter fEG, onlyChanges_meter fE]
  have linkG : g.link = { s.link with notices := g.link.notices } := by
    have linkF := steered.link
    rw [← onlyChanges_link fG, onlyChanges_link fBE, stopped.link, onlyChanges_link fA] at linkF
    exact linkF
  have budgetG : g.budget.period = none ∧ g.budget.input.limits.present = false ∧ g.budget.input.limits.stale = true := by
    rw [hg]
    exact ⟨rfl, rfl, rfl⟩
  have isoG : g.iso.st = .off ∧ g.iso.vPack = none := by
    rw [onlyChanges_iso fG, vPack]
    exact ⟨off, by rw [he]; rfl⟩
  have nvG : g.nv = d.nv := by rw [onlyChanges_nv fEG, onlyChanges_nv fE]
  have nowG : g.now = s.now := by
    rw [onlyChanges_now fEG, onlyChanges_now fBE, onlyChanges_now fB, onlyChanges_now fA]
  have fS : onlyChanges [.power, .heating, .meter, .nv, .iso, .isoIn, .budget, .budgetIn, .stage, .link, .session, .pins] s g :=
    onlyChanges_trans (onlyChanges_trans (onlyChanges_trans fA fB (rs := [.power, .heating, .stage, .budgetIn, .link])) fBE
      (rs := [.power, .heating, .stage, .budgetIn, .link, .meter, .isoIn, .nv, .iso])) fEG
  obtain ⟨t, ht⟩ : ∃ t, t = g.doIf g.pins.wake fun s => s.onPower fun p => { p with heldWake := some .wakeLine } := ⟨_, rfl⟩
  have fT : onlyChanges [.power] g t := ht ▸ onlyChanges_doIf (onPower_frame g _)
  have powerT : t.power = { g.power with heldWake := if s.pins.wake then some .wakeLine else none } := by
    rw [ht, wakeG]
    cases s.pins.wake
    · show g.power = _
      rw [powerG]
      rfl
    · rfl
  rw [step, ← ht]
  refine ⟨?_, ?_, ?_, ?_, ?_, ?_, ?_, ?_, ?_, onlyChanges_trans fS fT⟩
  · rw [powerT, powerG]
  · rw [onlyChanges_stage fT, stageG]
  · rw [onlyChanges_heating fT, heatingG]
    exact ⟨stopped.source, stopped.periods⟩
  · rw [onlyChanges_meter fT, meterG]
    exact meterD
  · show ∃ w ∈ t.nv.queue, _
    rw [onlyChanges_nv fT, nvG]
    exact totalsD
  · rw [onlyChanges_iso fT]
    exact isoG
  · rw [onlyChanges_budget fT]
    exact budgetG
  · rw [onlyChanges_link fT]
    exact linkG
  · rw [onlyChanges_now fT, nowG]

end Sys2Proof.Machine.State
end

section
/-! SET_POWER_STATE and the wake sources: the entry to STANDBY or SLEEP and the return from it (R168 to R170). -/

-- One declaration at a time: each thread the elaborator opens takes its whole stack from the memory limit.
set_option Elab.async false

namespace Sys2Proof.Machine.State

open Safety

/-! ### The end of an entry (R127, R168) -/

theorem finishEntry_sleeps {s : State} (entry : s.stage.entryWait = true) (free : s.stage.inFlight = none) {t : State}
    (ht : s.stageStandby = t) (held : t.power.heldWake = none) : s.finishEntry = t := by
  rw [finishEntry, if_pos ⟨entry, free⟩, ht]
  simp only [held]

theorem finishEntry_wakes {s : State} (entry : s.stage.entryWait = true) (free : s.stage.inFlight = none) {t : State}
    (ht : s.stageStandby = t) {src : WakeSource} (held : t.power.heldWake = some src) :
    s.finishEntry = t.returnToRun src := by
  rw [finishEntry, if_pos ⟨entry, free⟩, ht]
  simp only [held]

theorem finishEntry_waits {s : State} (busy : s.stage.inFlight ≠ none) : s.finishEntry = s := by
  rw [finishEntry, if_neg fun h => busy h.2]

/-! ### The session's inputs at a return (R5, R19, R170) -/

/-- R41: what an evaluation does before and after it gives the session its draw. -/
theorem evalBudget_drawn (s : State) :
    ∃ u e, s.evalBudget = (u.takeDraw e).setpointWaitCheck ∧ onlyChanges [.budget, .heatIn, .stage] s u := by
  refine ⟨_, evaluate s.budget.input s.budget.params s.budget.table, rfl, ?_⟩
  exact onlyChanges_trans (onlyChanges_trans (onlyChanges_trans (onlyChanges_trans (onBudget_frame s _) (postHeat_frame _ _)
    (rs := [.budget, .heatIn])) (writeSetpoint_frame _ 1 _) (rs := [.budget, .heatIn, .stage])) (writeSetpoint_frame _ 2 _)
    (rs := [.budget, .heatIn, .stage])) (writeSetpoint_frame _ 3 _)

/-- A budget evaluation with the session not drawing sets its DC request to 0 and moves nothing else of it. -/
theorem evalBudget_quiet {s : State} (ha : s.session.st ≠ .active) (hp : s.session.st ≠ .paused) :
    s.evalBudget.session = { s.session with dcRequest := 0 } ∧ s.evalBudget.pins = s.pins := by
  obtain ⟨u, e, step, frame⟩ := s.evalBudget_drawn
  have session := onlyChanges_session frame
  have drawn : u.takeDraw e = u.onSession fun x => { x with dcRequest := 0 } :=
    if_neg (by rw [session]; exact fun h => h.elim ha hp)
  have checked := (setpointWaitCheck_frame (u.takeDraw e)).1
  rw [step, onlyChanges_session checked, onlyChanges_pins checked, drawn, ← session, ← onlyChanges_pins frame]
  exact ⟨rfl, rfl⟩

/-- Of the sensors' readings an evaluation changes nothing. -/
theorem evalBudget_sensors (s : State) :
    s.evalBudget.pins.sensor1 = s.pins.sensor1 ∧ s.evalBudget.pins.sensor2 = s.pins.sensor2 := by
  obtain ⟨u, e, step, frame⟩ := s.evalBudget_drawn
  have drawn : Steered u (u.takeDraw e) := by
    unfold takeDraw
    split
    · exact ((Steered.refl _).onSession _).setCauses _
    · exact (Steered.refl _).onSession _
  rw [step, onlyChanges_pins (setpointWaitCheck_frame (u.takeDraw e)).1, ← onlyChanges_pins frame]
  exact drawn.sensors

/-- R170: what the blocks before the session leave of it. -/
theorem awoken_inputs (s : State) (src : WakeSource) :
    ((s.awoken src).pins.sensor1 = s.pins.sensor1 ∧ (s.awoken src).pins.sensor2 = s.pins.sensor2) ∧
      (s.session.st ≠ .active → s.session.st ≠ .paused →
        (s.awoken src).session = { s.session with dcRequest := 0 } ∧ (s.awoken src).pins = s.pins) := by
  obtain ⟨a, ha⟩ : ∃ a, a = (s.onPower fun p => { p with part := .run, lastWake := src, heldWake := none }).linkOn := ⟨_, rfl⟩
  obtain ⟨b, hb⟩ : ∃ b, b = a.onStage fun g =>
    { g with supplyOn := true, errors := {}, recallTimer := some a.now, silent := false } := ⟨_, rfl⟩
  obtain ⟨c, hc⟩ : ∃ c, c = b.fullRollCall := ⟨_, rfl⟩
  obtain ⟨u, hu⟩ : ∃ u, u = c.meterStart.onBudget fun x => { x with period := some c.now } := ⟨_, rfl⟩
  have step : s.awoken src =
      u.evalBudget.onHeating fun h => { h with heatPeriod := some u.evalBudget.now, onTick := some u.evalBudget.now } := by
    rw [hu, hc, hb, ha]
    rfl
  have called : onlyChanges [.stage] b c := by
    rw [hc]
    exact rollCallFor_frame _ _
  have session : u.session = s.session ∧ u.pins = s.pins := by
    have metered : onlyChanges [.meter] c c.meterStart := onMeter_frame c _
    have started : onlyChanges [.meter, .budget] c u := by
      rw [hu]
      exact onlyChanges_trans metered (onBudget_frame _ _)
    rw [onlyChanges_session started, onlyChanges_pins started, onlyChanges_session called, onlyChanges_pins called, hb]
    show a.session = _ ∧ a.pins = _
    rw [ha]
    exact ⟨rfl, rfl⟩
  have sensors := u.evalBudget_sensors
  have quiet := evalBudget_quiet (s := u)
  obtain ⟨e, he⟩ : ∃ e, e = u.evalBudget := ⟨_, rfl⟩
  rw [← he, session.2] at sensors
  rw [← he, session.1, session.2] at quiet
  rw [step, ← he]
  exact ⟨sensors, quiet⟩

/-! ### A session that is FAULTED stands (R25) -/

/-- The session is as it was but for what the inputs hold. -/
def StillFaulted (s t : State) : Prop :=
  s.session.st = .faulted →
    t.session.st = .faulted ∧ t.session.fault = s.session.fault ∧ t.session.following = s.session.following

theorem holdProx_session (s : State) (c : PlugClass) : (s.holdProx c).session = { s.session with prox := c } := by
  rw [holdProx]
  exact onlyChanges_session (onlyChanges_doIf (raise_frame _ _))

theorem holdPilot_session (s : State) (c : PilotClass) (d : Nat) :
    (s.holdPilot c d).session = { s.session with pilot := c, duty := d } := by
  rw [holdPilot]
  exact onlyChanges_session (onlyChanges_doIf (raise_frame _ _))

theorem takeProx_faulted (s : State) (c : PlugClass) : StillFaulted s (s.takeProx c) := by
  intro h
  have held := holdProx_session s c
  obtain ⟨u, hu⟩ : ∃ u, u = s.holdProx c := ⟨_, rfl⟩
  rw [← hu] at held
  have faulted : u.session.st = .faulted := by rw [held]; exact h
  have kept : u.session.st = .faulted ∧ u.session.fault = s.session.fault ∧ u.session.following = s.session.following := by
    rw [held]
    exact ⟨h, rfl, rfl⟩
  have arrives : u.plugArrival = u := if_neg (by simp [faulted])
  have cleared : u.clearStation.session = { u.session with station := none } := by
    rw [clearStation_eq]
  have loses : u.plugLoss = u.clearStation.onSession fun x => { x with plugLossSeen := true } :=
    plugLoss_seen rfl (.inr (by rw [cleared]; exact faulted))
  rw [takeProx]
  split_ifs
  · exact ⟨h, rfl, rfl⟩
  · rw [← hu, arrives]
    exact kept
  · rw [← hu, loses, onSession_session, cleared]
    exact kept
  · rw [← hu]
    exact kept

theorem takePilot_faulted (s : State) (c : PilotClass) (d : Nat) : StillFaulted s (s.takePilot c d) := by
  intro h
  have held := holdPilot_session s c d
  obtain ⟨u, hu⟩ : ∃ u, u = s.holdPilot c d := ⟨_, rfl⟩
  rw [← hu] at held
  have faulted : u.session.st = .faulted := by rw [held]; exact h
  have kept : u.session.st = .faulted ∧ u.session.fault = s.session.fault ∧ u.session.following = s.session.following := by
    rw [held]
    exact ⟨h, rfl, rfl⟩
  have stops : u.takeStop .cableLost = u := by simp [takeStop, faulted]
  have stays : u.connectedCheck = u := connectedCheck_stays (.inl (by simp [faulted]))
  unfold takePilot
  dsimp only
  rw [← hu]
  split_ifs
  · exact ⟨h, rfl, rfl⟩
  · exact kept
  · cases c with
    | absent => rw [stops]; exact kept
    | error => dsimp only; rw [faulted]; exact kept
    | steady => rw [stays]; exact kept
    | offering => rw [stays]; exact kept

/-- R19, R170: a lock found lost in FINISHED is LOCK_FAIL, whatever class is found changed with it. -/
theorem actOnInputs_lockLost {s : State} (following : s.session.following = true) (fin : s.session.st = .finished)
    (engaged : s.session.lock = .engaged) (lost : s.pins.lockFb = false) :
    s.actOnInputs.session.st = .faulted ∧ s.actOnInputs.session.fault = some .lockFail := by
  obtain ⟨u, hu⟩ : ∃ u, u = s.takeTemperatures := ⟨_, rfl⟩
  have taken : u.session = { s.session with temp1 := s.pins.sensor1, temp2 := s.pins.sensor2 } ∧ u.pins = s.pins := by
    rw [hu, takeTemperatures_eq, doIf_eq, if_neg (by simp [drawing, fin])]
    exact ⟨rfl, rfl⟩
  obtain ⟨session, pins⟩ := taken
  have checks : u.lockCheck = (u.onSession fun x => { x with lock := .notEngaged, fault := some .lockFail }).goFaulted .lockFail := by
    rw [lockCheck, doIf_eq, if_pos (by simp [watchesLock, session, pins, fin, engaged, lost]), lockLost]
    simp [session, fin]
  obtain ⟨v, hv⟩ : ∃ v, v = u.lockCheck := ⟨_, rfl⟩
  have faulted : v.session.st = .faulted ∧ v.session.fault = some .lockFail ∧ v.session.following = true := by
    rw [hv, checks, goFaulted_eq]
    refine ⟨rfl, rfl, ?_⟩
    show u.session.following = true
    rw [session]
    exact following
  obtain ⟨st, fault, follows⟩ := faulted
  have step : s.actOnInputs = v.actOnProx.actOnPilot := by
    rw [actOnInputs]
    dsimp only
    rw [← hu, if_pos (by rw [session]; exact following), ← hv]
  obtain ⟨st', fault', follows'⟩ := takeProx_faulted v v.session.watchProx st
  rw [step, actOnProx, if_pos follows, actOnPilot, if_pos (follows'.trans follows)]
  obtain ⟨st'', fault'', -⟩ := takePilot_faulted _ (v.takeProx v.session.watchProx).session.watchPilot
    (v.takeProx v.session.watchProx).session.watchDuty st'
  exact ⟨st'', fault''.trans (fault'.trans fault)⟩

/-! ### The return to RUN (R170) -/

/-- R5, R170: the inlet temperatures are those of the sensors. -/
theorem returnToRun_temps (s : State) (src : WakeSource) :
    (s.returnToRun src).session.temp1 = s.pins.sensor1 ∧ (s.returnToRun src).session.temp2 = s.pins.sensor2 := by
  obtain ⟨before1, before2⟩ := (awoken_inputs s src).1
  obtain ⟨warm1, warm2⟩ := Steered.actOnInputs_warm (s.awoken src)
  obtain ⟨after1, after2⟩ := (Steered.refl (s.awoken src)).actOnInputs.sensors
  rw [returnToRun_eq, onlyChanges_session (raise_frame _ _)]
  exact ⟨warm1.trans (after1.trans before1), warm2.trans (after2.trans before2)⟩

/-- R19, R170: a locked FINISHED whose lock was lost is FAULTED with LOCK_FAIL. -/
theorem returnToRun_lockLost {s : State} (src : WakeSource) (following : s.session.following = true)
    (fin : s.session.st = .finished) (engaged : s.session.lock = .engaged) (lost : s.pins.lockFb = false) :
    (s.returnToRun src).session.st = .faulted ∧ (s.returnToRun src).session.fault = some .lockFail := by
  obtain ⟨session, pins⟩ := (awoken_inputs s src).2 (by simp [fin]) (by simp [fin])
  rw [returnToRun_eq, onlyChanges_session (raise_frame _ _)]
  exact actOnInputs_lockLost (by rw [session]; exact following) (by rw [session]; exact fin) (by rw [session]; exact engaged)
    (by rw [pins]; exact lost)

/-! ### The entry (R168) -/

theorem mayRest_iff (s : State) :
    s.mayRest = true ↔
      (s.session.st = .idle ∨ s.session.st = .finished) ∧ (∀ z ∈ s.heating.zones, z.heat ≠ .heating) ∧
        s.iso.st ≠ .searching ∧ s.link.requests = [] ∧ s.power.hostReset = false := by
  simp [mayRest, and_assoc]

theorem PutAway.free {target : PartState} {s t : State} (h : PutAway target s t) (a : Nat) :
    ¬ (t.iso.st = .searching ∧ t.iso.search.under = some a) := by
  rw [h.iso.1]
  simp

/-- What an entry that is complete has left of the blocks. -/
theorem PutAway.rested {target : PartState} {s t u : State} (h : PutAway target s t) (heating : ZonesMoved t u)
    (frame : onlyChanges [.heating, .stage, .budgetIn, .link] t u) : rested target s u := by
  obtain ⟨source, period, tick⟩ := h.heating
  rw [Safety.rested, onlyChanges_power frame, onlyChanges_meter frame, onlyChanges_iso frame, onlyChanges_budget frame, heating, h.power,
    h.meter]
  refine ⟨rfl, source, period, tick, rfl, rfl, rfl, rfl, rfl, rfl, rfl, ?_, h.iso.1, h.iso.2, h.budget⟩
  rw [waits, onlyChanges_nv frame]
  exact h.totals

/-- R127: the link comes to rest of a part put away with the WAKE line released and no transaction in flight. -/
theorem enterLow_free {s : State} {target : PartState} (h : PutAway target s (s.putAway target)) (nodes : s.stage.nodes.length = 11)
    (released : s.pins.wake = false) (free : s.stage.inFlight = none) :
    AtRest (s.putAway target) (s.enterLow target) := by
  rw [enterLow_eq]
  obtain ⟨t, ht⟩ : ∃ t, t = s.putAway target := ⟨_, rfl⟩
  rw [← ht] at h ⊢
  have rest := stageStandby_rests (s := t) (by rw [h.stage]; exact nodes) h.free
  obtain ⟨u, hu⟩ : ∃ u, u = t.stageStandby := ⟨_, rfl⟩
  rw [← hu] at rest
  rw [finishEntry_sleeps (by rw [h.stage]) (by rw [h.stage]; exact free) hu.symm
    (by rw [onlyChanges_power rest.frame, h.power, released]; rfl)]
  exact rest

/-- Whether the link rests is told by the nodes before and the link after. -/
theorem linkResting_congr {s s' t t' : State} (before : s.stage.nodes = s'.stage.nodes) (after : t'.stage = t.stage)
    (h : linkResting s t) : linkResting s' t' := by
  unfold linkResting at *
  rw [after]
  obtain ⟨entry, urgent, normal, period, supply, rows⟩ := h
  refine ⟨entry, urgent, normal, period, supply, fun a ha => ?_⟩
  rw [node_congr (congrArg Stage.nodes after) a, node_congr before.symm a]
  exact rows a ha

theorem ownSetPowerState_rests {s : State} {n : Nat} {target : PartState} (code : powerTarget? n = some target)
    (low : target ≠ .run) (rest : s.mayRest = true) {u : State} (hu : s.enterLow target = u) :
    s.ownSetPowerState n = (u, ⟨.ok, [], if u.power.part = .sleep then .sleepAck else .plain⟩) := by
  rw [ownSetPowerState, code]
  simp only [if_neg low, rest, if_true, hu]

end Sys2Proof.Machine.State

namespace Sys2Proof.Proofs

open Machine Safety

section
variable {s : State} {tag : Byte} {n : Nat}

/-- R168: what SET_POWER_STATE has the part do when its conditions hold. -/
theorem exec_rests (serve : mayServe s) (rest : s.mayRest = true) (hn : n = 1 ∨ n = 2) {u : State}
    (hu : s.enterLow (if n = 1 then .standby else .sleep) = u) :
    exec (.setPowerState tag n) s = .next
      (u.placeReply 0x04 tag [byte Status.ok.code] (if u.power.part = .sleep then .sleepAck else .plain)) := by
  have own : State.owner (.setPowerState tag n) s = (u, ⟨.ok, [], if u.power.part = .sleep then .sleepAck else .plain⟩) := by
    refine State.ownSetPowerState_rests (n := n) ?_ ?_ rest hu
    · rcases hn with rfl | rfl <;> rfl
    · rcases hn with rfl | rfl <;> simp
  rw [exec_served serve rfl, own]
  rfl

/-- R168: an entry with the WAKE line released. -/
theorem exec_rests_released (serve : mayServe s) (rest : s.mayRest = true) (released : s.pins.wake = false)
    (nodes : s.stage.nodes.length = 11) (hn : n = 1 ∨ n = 2) :
    ∃ t, exec (.setPowerState tag n) s = .next t ∧ rested (if n = 1 then .standby else .sleep) s t ∧
      t.power = { s.power with part := if n = 1 then .standby else .sleep, heldWake := none } ∧
      t.link.replies = s.link.replies ++ [⟨0x84, tag, [byte Status.ok.code], if n = 2 then .sleepAck else .plain⟩] ∧
      t.link.requests = [] ∧
      (s.stage.inFlight = none → linkResting s t) ∧
      (s.stage.inFlight ≠ none → t.stage = { s.stage with entryWait := true }) ∧
      onlyChanges [.power, .heating, .meter, .nv, .iso, .isoIn, .budget, .budgetIn, .stage, .link, .session, .pins] s t := by
  obtain ⟨-, cold, quiet, requests, -⟩ := s.mayRest_iff.1 rest
  obtain ⟨target, htarget⟩ : ∃ p : PartState, p = if n = 1 then .standby else .sleep := ⟨_, rfl⟩
  have away := State.putAway_facts cold quiet target
  have enter := State.enterLow_eq s target
  have complete := State.enterLow_free (target := target) away nodes released
  obtain ⟨v, hv⟩ : ∃ v, v = s.putAway target := ⟨_, rfl⟩
  obtain ⟨u, hu⟩ : ∃ u, u = s.enterLow target := ⟨_, rfl⟩
  rw [← hv] at away enter complete
  rw [← hu] at enter complete
  have power : v.power = { s.power with part := target, heldWake := none } := by
    rw [away.power, released]
    rfl
  have reached : State.ZonesMoved v u ∧ onlyChanges [.heating, .stage, .budgetIn, .link] v u ∧
      u.link = { v.link with notices := u.link.notices } := by
    by_cases free : s.stage.inFlight = none
    · have rest := complete free
      exact ⟨rest.heating, rest.frame, rest.link⟩
    · rw [enter, State.finishEntry_waits (by rw [away.stage]; exact free)]
      exact ⟨rfl, onlyChanges_refl _ v, rfl⟩
  obtain ⟨heating, frame, link⟩ := reached
  have powerU : u.power = { s.power with part := target, heldWake := none } := by rw [onlyChanges_power frame, power]
  have linkU : u.link = { s.link with notices := u.link.notices } := by rw [link, away.link]
  rw [htarget] at hu
  obtain ⟨t, ht⟩ : ∃ t, t = u.placeReply 0x04 tag [byte Status.ok.code] (if u.power.part = .sleep then .sleepAck else .plain) := ⟨_, rfl⟩
  have placed : onlyChanges [.link] u t := by
    rw [ht]
    simp [State.placeReply, State.onLink, onlyChanges]
  have replies : t.link.replies = s.link.replies ++ [⟨0x84, tag, [byte Status.ok.code], if n = 2 then .sleepAck else .plain⟩] ∧
      t.link.requests = [] := by
    have mark : (if u.power.part = .sleep then ReplyMark.sleepAck else .plain) = if n = 2 then .sleepAck else .plain := by
      rw [powerU, htarget]
      rcases hn with rfl | rfl <;> rfl
    rw [ht, mark]
    show u.link.replies ++ _ = _ ∧ u.link.requests = []
    rw [linkU]
    exact ⟨rfl, requests⟩
  have served := exec_rests (tag := tag) serve rest hn hu.symm
  rw [← ht] at served
  rw [← htarget]
  refine ⟨t, served, ?_, ?_, replies.1, replies.2, fun free => ?_, fun busy => ?_, ?_⟩
  · exact away.rested (by rw [State.ZonesMoved, onlyChanges_heating placed]; exact heating) (onlyChanges_trans frame placed)
  · rw [onlyChanges_power placed, powerU]
  · exact State.linkResting_congr (by rw [away.stage]) (onlyChanges_stage placed) (complete free).resting
  · rw [onlyChanges_stage placed, enter, State.finishEntry_waits (by rw [away.stage]; exact busy), away.stage]
  · exact onlyChanges_trans (onlyChanges_trans away.frame frame
      (rs := [.power, .heating, .meter, .nv, .iso, .isoIn, .budget, .budgetIn, .stage, .link, .session, .pins])) placed

/-- R169, R192: an entry with the WAKE line asserted returns to RUN once it is complete. -/
theorem exec_rests_asserted (serve : mayServe s) (rest : s.mayRest = true) (asserted : s.pins.wake = true)
    (free : s.stage.inFlight = none) (hn : n = 1 ∨ n = 2) :
    ∃ t, exec (.setPowerState tag n) s = .next t ∧
      t.power = { s.power with part := .run, lastWake := .wakeLine, heldWake := none } ∧
      t.link.on = true ∧ NoticeKind.part ∈ t.link.notices ∧ t.stage.supplyOn = true ∧ t.meter.period = some s.now ∧
      t.link.replies =
        (s.link.replies.map fun r => { r with mark := r.mark.awake }) ++ [⟨0x84, tag, [byte Status.ok.code], .plain⟩] := by
  obtain ⟨-, cold, quiet, requests, -⟩ := s.mayRest_iff.1 rest
  obtain ⟨target, htarget⟩ : ∃ p : PartState, p = if n = 1 then .standby else .sleep := ⟨_, rfl⟩
  have away := State.putAway_facts cold quiet target
  have enter := State.enterLow_eq s target
  obtain ⟨v, hv⟩ : ∃ v, v = s.putAway target := ⟨_, rfl⟩
  rw [← hv] at away enter
  obtain ⟨frame, link⟩ := State.stageStandby_tells away.free
  obtain ⟨w, hw⟩ : ∃ w, w = v.stageStandby := ⟨_, rfl⟩
  rw [← hw] at frame link
  have power : w.power = { s.power with part := target, heldWake := some .wakeLine } := by
    rw [onlyChanges_power frame, away.power, asserted]
    rfl
  rw [State.finishEntry_wakes (by rw [away.stage]) (by rw [away.stage]; exact free) hw.symm (src := .wakeLine) (by rw [power])] at enter
  obtain ⟨back, part⟩ := w.returnToRun_awoken .wakeLine
  obtain ⟨u, hu⟩ : ∃ u, u = w.returnToRun .wakeLine := ⟨_, rfl⟩
  rw [← hu] at enter back part
  have powerU : u.power = { s.power with part := .run, lastWake := .wakeLine, heldWake := none } := by rw [back.power, power]
  rw [htarget] at enter
  have served := exec_rests (tag := tag) serve rest hn enter
  rw [powerU, if_neg (by simp)] at served
  have linkU : u.link.on = true ∧ u.link.replies = s.link.replies.map fun r => { r with mark := r.mark.awake } := by
    rw [back.link]
    show true = true ∧ w.link.replies.map _ = _
    rw [link, away.link]
    exact ⟨rfl, rfl⟩
  refine ⟨_, served, powerU, linkU.1, part, back.supplyOn, ?_, ?_⟩
  · show u.meter.period = _
    rw [back.meter, onlyChanges_now frame, away.now]
  · show u.link.replies ++ _ = _
    rw [linkU.2]
    rfl

end

/-- R110, R127: the last failure of the transaction that an entry waits for lets the link come to rest. -/
theorem failed_rests {s : State} {x : Transaction} (entry : s.stage.entryWait = true) (flight : s.stage.inFlight = some x)
    (live : x.abandon = false) (last : 4 ≤ x.attempt) (sent : x.phase ≠ .retryWait) (active : (s.node x.addr).st = .active)
    (under : s.iso.search.under = none) (nodes : s.stage.nodes.length = 11) :
    ∃ u t, u.stage.entryWait = true ∧ u.stage.inFlight = none ∧ u.stageStandby = t ∧ s.slotTimeout = u ∧
      t.power = s.power ∧ t.now = s.now ∧ linkResting s t := by
  have range : 1 ≤ x.addr ∧ x.addr ≤ s.stage.nodes.length := by
    constructor
    · by_contra h
      rw [show x.addr = 0 by omega] at active
      cases active
    · by_contra h
      rw [State.node_outside (by omega)] at active
      cases active
  have last_outcome := (State.slotTimeout_eq flight sent).trans (State.attemptEnd_fails live (o := .noResponse) rfl last)
  obtain ⟨e, he⟩ : ∃ e, e = s.stage.errors.mark .noResponse := ⟨_, rfl⟩
  rw [← he] at last_outcome
  obtain ⟨w, hw⟩ : ∃ w, w = (s.ended e).onStage fun g => { g with errors := { g.errors with lostEvent := true } } := ⟨_, rfl⟩
  have leaves : (s.ended e).actFinal x .failed = w.leaveActive x.addr .lost := by
    rw [hw]
    exact State.actFinal_failed (s := s.ended e) active
  have set : onlyChanges [.stage] s w := by simp [hw, State.ended, State.onStage, onlyChanges]
  have rows : w.stage.nodes = s.stage.nodes := by rw [hw]; rfl
  have free (a : Nat) : ¬ (w.iso.st = .searching ∧ w.iso.search.under = some a) := by
    rw [onlyChanges_iso set, under]
    simp
  have gone := State.leaveActive_departed (s := w) (a := x.addr) (st := .lost) range.1 (by rw [rows]; exact range.2) (free _) (by simp)
  have elsewhere := State.left_elsewhere w x.addr .lost fun n =>
    { n with st := .lost, pollTimer := none, refreshTimer := none, temp := none, headroom := 0, acked := none }
  rw [← State.leaveActive_left (free _)] at elsewhere
  obtain ⟨u, hu⟩ : ∃ u, u = w.leaveActive x.addr .lost := ⟨_, rfl⟩
  rw [← hu] at gone elsewhere leaves
  have stage : u.stage.entryWait = true ∧ u.stage.inFlight = none := by
    rw [gone.stage, hw]
    exact ⟨entry, rfl⟩
  have frame : onlyChanges [.stage, .heating, .link, .budgetIn] s u := onlyChanges_trans set gone.frame
  have rest := State.stageStandby_rests (s := u) (by rw [elsewhere.length, rows, nodes])
    (by rw [onlyChanges_iso gone.frame]; exact free)
  obtain ⟨entry', urgent, normal, period, supply, states⟩ := rest.resting
  refine ⟨u, u.stageStandby, stage.1, stage.2, rfl, last_outcome.trans leaves, ?_, ?_, entry', urgent, normal, period, supply,
    fun a ha => ?_⟩
  · rw [onlyChanges_power rest.frame, onlyChanges_power frame]
  · rw [onlyChanges_now rest.frame, onlyChanges_now frame]
  · obtain ⟨st, timers⟩ := states a ha
    refine ⟨?_, timers⟩
    rw [st]
    by_cases hax : a = x.addr
    · rw [hax, gone.st, active]
      rfl
    · obtain ⟨c, row⟩ := elsewhere.others a hax
      rw [row, State.node_congr rows a]

theorem exec_pilotClassChange {s : State} {sig : PilotSignal} {c : PilotClass} {d : Nat} (h : pilotClassOf sig = some (c, d)) :
    exec (.pilotClassChange sig) s = .next (s.doIf s.watching fun s => s.pilotEvent c d) := by
  show Host.Outcome.next (match pilotClassOf sig with
    | none => s
    | some (c, duty) => s.doIf s.watching fun s => s.pilotEvent c duty) = _
  rw [h]

/-- Settles O56: the entry by the WAKE line's level and the transaction in flight, the return by its source. -/
theorem powerStates : Obligations.PowerStates := by
  refine ⟨fun s tag serve => ?request, fun s => ?wakes⟩
  case request =>
    intro rest
    have may : s.mayRest = true ↔ rest := s.mayRest_iff
    refine ⟨fun n hn => exec_refused serve rfl ?_, exec_ok serve rfl (t := s) (body := []) ?_, fun h => ?_,
      fun h released nodes n hn => exec_rests_released serve (may.2 h) released nodes hn,
      fun h asserted free n hn => exec_rests_asserted serve (may.2 h) asserted free hn⟩
    · show s.ownSetPowerState n = _
      have : powerTarget? n = none := by
        obtain ⟨k, rfl⟩ : ∃ k, n = k + 3 := ⟨n - 3, by omega⟩
        rfl
      rw [State.ownSetPowerState, this]
    · rfl
    · have refused : s.mayRest = false := by simpa using mt may.1 h
      constructor
      · exact exec_refused serve rfl (by show s.ownSetPowerState 1 = _; simp [State.ownSetPowerState, powerTarget?, refused])
      · exact exec_refused serve rfl (by show s.ownSetPowerState 2 = _; simp [State.ownSetPowerState, powerTarget?, refused])
  case wakes =>
    intro low p
    have lowP : low → p.lowPower = true := by
      rintro (h | h) <;> simp [State.lowPower, p, h]
    have line : exec (.wakeLine true) s = .next (p.takeWake .wakeLine) := rfl
    refine ⟨rfl, fun high => ?_, fun h entry => ?_, fun h entry => ⟨?_, fun r changed => ?_, fun sig c d class_ changed => ?_⟩,
      fun h entry x flight live last sent active under nodes => ?_⟩
    · have : p.lowPower = false := by simpa [State.lowPower, p, low] using high
      rw [line, State.takeWake, this]
      rfl
    · have held : p.stage.entryWait = true := entry
      rw [line, State.takeWake, if_pos (lowP h), if_pos held]
      rfl
    · have wakes : p.takeWake .wakeLine = p.returnToRun .wakeLine := State.takeWake_awake (s := p) h entry _
      obtain ⟨temp1, temp2⟩ := p.returnToRun_temps .wakeLine
      rw [line, wakes]
      exact ⟨_, rfl, p.returnToRun_returned .wakeLine, temp1, temp2, fun following fin engaged lost =>
        State.returnToRun_lockLost (s := p) .wakeLine following fin engaged lost⟩
    · obtain ⟨u, hu⟩ : ∃ u, u = s.onSession fun x => { x with watchProx := plugClassOf r, proxTaken := true } := ⟨_, rfl⟩
      have wakes : s.proxEvent (plugClassOf r) = u.takeWake .plug := by
        have new : (plugClassOf r != s.session.watchProx) = true := by simpa using changed
        rcases h with h | h <;> simp [State.proxEvent, State.onSession, h, new, hu]
      have watching : s.watching = true := by rcases h with h | h <;> simp [State.watching, h]
      have back := u.returnToRun_returned .plug
      rw [← State.takeWake_awake (by rw [hu]; exact h) (by rw [hu]; exact entry), hu] at back
      refine ⟨u.takeWake .plug, ?_, ?_⟩
      · show Host.Outcome.next (s.doIf s.watching _) = _
        rw [State.doIf_eq, if_pos watching, wakes]
      · rw [hu]
        exact back
    · obtain ⟨u, hu⟩ : ∃ u, u = s.onSession fun x => { x with watchPilot := c, watchDuty := d, pilotTaken := true } := ⟨_, rfl⟩
      have wakes : s.pilotEvent c d = u.takeWake .pilot := by
        have new : (c != s.session.watchPilot) = true := by simpa using changed
        rcases h with h | h <;> simp [State.pilotEvent, State.onSession, h, new, hu]
      have watching : s.watching = true := by rcases h with h | h <;> simp [State.watching, h]
      have back := u.returnToRun_returned .pilot
      rw [← State.takeWake_awake (by rw [hu]; exact h) (by rw [hu]; exact entry), hu] at back
      refine ⟨u.takeWake .pilot, ?_, ?_⟩
      · show exec (.pilotClassChange sig) s = _
        rw [exec_pilotClassChange class_, State.doIf_eq, if_pos watching, wakes]
      · rw [hu]
        exact back
    · obtain ⟨u, t, entry', free', stands, timeout, power, now, resting⟩ :=
        failed_rests entry flight live last sent active under nodes
      have ends : exec .slotWaitTimeout s = .next u.finishEntry := by
        rw [← timeout]
        rfl
      refine ⟨fun held => ?_, fun src held => ?_⟩
      · rw [ends, State.finishEntry_sleeps entry' free' stands (by rw [power, held])]
        exact ⟨t, rfl, resting, power⟩
      · obtain ⟨back, -⟩ := t.returnToRun_awoken src
        rw [ends, State.finishEntry_wakes entry' free' stands (src := src) (by rw [power, held])]
        exact ⟨_, rfl, by rw [back.power], by rw [back.power], by rw [back.entryWait]; exact resting.1, back.supplyOn,
          by rw [back.meter, now]⟩

end Sys2Proof.Proofs
end

section
/-! The supply warning: the entry to SUPPLY_HOLD block by block, and what goes on there (R22, R160, R171, R172). -/

-- One declaration at a time: each thread the elaborator opens takes its whole stack from the memory limit.
set_option Elab.async false

namespace Sys2Proof.Machine.State

open Safety

/-! ### What waits for the NV store on the supply-loss path (R160, R178) -/

/-- The content waits as a SUPPLY_LOSS write. -/
def waitsLoss (t : State) (c : NvContent) : Prop := ∃ w ∈ t.nv.queue, w.content = c ∧ w.supplyLoss = true

theorem queueNv_waitsLoss (s : State) (c : NvContent) : waitsLoss (s.queueNv c true) c := by
  unfold waitsLoss
  rw [queueNv_queue]
  split
  · next h =>
    obtain ⟨w, hw, ha⟩ := List.any_eq_true.1 h
    exact ⟨⟨c, w.supplyLoss || true⟩, List.mem_map.2 ⟨w, hw, by simp_all⟩, rfl, by simp⟩
  · exact ⟨⟨c, true⟩, by simp, rfl, rfl⟩

theorem queueNv_waitsLoss_other (s : State) {c d : NvContent} (b : Bool) (h : waitsLoss s d) (hd : d.area ≠ c.area) :
    waitsLoss (s.queueNv c b) d := by
  obtain ⟨w, hw, rfl, loss⟩ := h
  unfold waitsLoss
  rw [queueNv_queue]
  split
  · exact ⟨w, List.mem_map.2 ⟨w, hw, by simp [hd]⟩, rfl, loss⟩
  · exact ⟨w, by simp [hw], rfl, loss⟩

/-! ### The close on the supply-loss path (R160) -/

/-- What the close and the settling of a record read. -/
theorem closedImage_congr {s u : State} (billing : u.billing = s.billing) (channel : u.meter.channel = s.meter.channel) (i : Nat)
    (k : StopCause) : closedImage u i k = closedImage s i k := by
  simp only [closedImage, priced, billing, channel]

/-- R160: the close from the last pricing point on, with the slot and the totals written before anything else. -/
def shutLoss (s : State) (i : Nat) (k : StopCause) : State :=
  let s := s.onSlot i fun x =>
    { st := .closed, record := x.record.settle.closed s.meter.channel s.billing.clock.time? (.stop k) }
  let s := s.onMeter fun m => { m with channel := { m.channel with isOpen := false } }
  let s := s.onBilling fun b => { b with checkpoint := none, lastClosed := some (b.slot i).record.number }
  ((s.queueSlot i true).queueTotals true).raise .record

theorem closeRecord_loss {s : State} {i : Nat} (h : s.billing.openSlot = some i) (k : StopCause) :
    s.closeRecord k true = s.pricingPoint.withdrawCommit.shutLoss i k := by
  simp only [closeRecord, h]
  rfl

/-- R159, R160: the supply-loss path ends in the same record as a stop's end. -/
theorem shutLoss_billing (s : State) (i : Nat) (k : StopCause) :
    (s.shutLoss i k).billing = ((s.queueTotals false).shutSlot i k).billing := by
  unfold shutLoss shutSlot
  rw [onlyChanges_billing (raise_frame _ _), onlyChanges_billing (raise_frame _ _)]
  rfl

theorem shutLoss_waits (s : State) (i : Nat) (k : StopCause) :
    waitsLoss (s.shutLoss i k) (.slot i ((s.shutLoss i k).billing.slot i)) ∧
      waitsLoss (s.shutLoss i k) (.totals s.meter.totals) := by
  obtain ⟨u, hu⟩ : ∃ u, u = ((s.onSlot i fun x =>
    { st := .closed, record := x.record.settle.closed s.meter.channel s.billing.clock.time? (.stop k) }).onMeter fun m =>
      { m with channel := { m.channel with isOpen := false } }).onBilling fun b =>
        { b with checkpoint := none, lastClosed := some (b.slot i).record.number } := ⟨_, rfl⟩
  have step : s.shutLoss i k = ((u.queueSlot i true).queueTotals true).raise .record := by
    rw [hu]
    rfl
  have totals : u.meter.totals = s.meter.totals := by
    rw [hu]
    rfl
  have queued : waitsLoss ((u.queueSlot i true).queueTotals true) (.slot i (u.billing.slot i)) :=
    queueNv_waitsLoss_other _ true (queueNv_waitsLoss u _) (by simp [NvContent.area])
  have last : waitsLoss ((u.queueSlot i true).queueTotals true) (.totals u.meter.totals) := queueNv_waitsLoss _ _
  have frame := raise_frame ((u.queueSlot i true).queueTotals true) .record
  rw [step, waitsLoss, waitsLoss, onlyChanges_nv frame, onlyChanges_billing frame, ← totals]
  exact ⟨queued, last⟩

/-- R160, R171: what the billing engine does at the entry to SUPPLY_HOLD. -/
structure BillingHeld (s t : State) : Prop where
  closed : ∀ i, s.billing.openSlot = some i →
    t.billing = { closedBilling s i .supplyLoss with commitPending := false } ∧
      t.meter.channel = { (marksMoved s.meter).channel with isOpen := false } ∧
      NoticeKind.record ∈ t.link.notices ∧ BudgetPosting.phases 0 ∈ t.budgetIn ∧
      waitsLoss t (.slot i (closedImage s i .supplyLoss))
  idle : s.billing.openSlot = none → t.billing = s.billing
  meter : t.meter = { s.meter with channel := t.meter.channel, lastWrite := t.meter.lastWrite }
  totals : waitsLoss t (.totals s.meter.totals)
  frame : onlyChanges [.billing, .meter, .nv, .link, .budgetIn] s t
  steered : Steered s t

/-- R160: the record priced and a pending commit withdrawn. -/
theorem withdrawn_facts {s q : State} {i : Nat} (h : s.billing.openSlot = some i) (hq : s.pricingPoint.withdrawCommit = q) :
    q.billing =
        { s.billing with
          slots := s.billing.slots.set i { s.billing.slot i with record := priced s i }, commitPending := false } ∧
      q.meter =
        { s.meter with
          channel := { s.meter.channel with gridMark := s.meter.channel.grid, heatMark := s.meter.channel.heatGrid } } ∧
      onlyChanges [.billing, .meter, .link] s q := by
  have priced_eq := pricingPoint_open h
  have priced_frame : onlyChanges [.billing, .meter] s s.pricingPoint := by
    rw [priced_eq]
    simp [onlyChanges]
  obtain ⟨p, hp⟩ : ∃ p, p = s.pricingPoint := ⟨_, rfl⟩
  rw [← hp] at hq priced_eq priced_frame
  rw [← hq]
  have frame : onlyChanges [.billing, .link] p p.withdrawCommit :=
    onlyChanges_doIf (onlyChanges_trans (onBilling_frame p _) (raise_frame _ _) (ps := [.billing]))
  refine ⟨?_, ?_, onlyChanges_trans priced_frame frame⟩
  · cases hc : p.billing.commitPending with
    | false =>
      have same : p.withdrawCommit = p := by rw [withdrawCommit, hc]; rfl
      rw [same]
      rw [priced_eq] at hc ⊢
      dsimp only at hc ⊢
      rw [← hc]
    | true =>
      have drops : p.withdrawCommit.billing = { p.billing with commitPending := false } := by
        rw [withdrawCommit, hc]
        exact onlyChanges_billing (raise_frame _ _)
      rw [drops, priced_eq]
  · rw [onlyChanges_meter frame, priced_eq]

theorem billingHold_held (s : State) : BillingHeld s s.billingHold := by
  cases h : s.billing.openSlot with
  | none =>
    have step : s.billingHold = s.queueTotals true := by simp [billingHold, h]
    rw [step]
    exact ⟨fun i hi => by simp [h] at hi, fun _ => rfl, rfl, queueNv_waitsLoss s _,
      onlyChanges_mono (queueTotals_frame s true), (Steered.refl s).queueTotals true⟩
  | some i =>
    have step : s.billingHold = (s.closeRecord .supplyLoss true).postBudget (.phases 0) := by simp [billingHold, h]
    obtain ⟨q, hq⟩ : ∃ q, q = s.pricingPoint.withdrawCommit := ⟨_, rfl⟩
    obtain ⟨billing, meter, frame⟩ := withdrawn_facts h hq.symm
    have steered : Steered s (s.closeRecord .supplyLoss true) := (Steered.refl s).closeRecord _ _
    rw [closeRecord_loss h, ← hq] at step steered
    have shut := shutLoss_billing q i .supplyLoss
    obtain ⟨slot, totals⟩ := shutLoss_waits q i .supplyLoss
    have closes := (shutSlot_closes h .supplyLoss (u := q.queueTotals false) (by rw [queueTotals_billing, billing])
      (by rw [queueTotals_billing, billing]) (by rw [queueTotals_meter, meter]; rfl)).1
    have channel : (q.shutLoss i .supplyLoss).meter.channel = { q.meter.channel with isOpen := false } := rfl
    have record : NoticeKind.record ∈ (q.shutLoss i .supplyLoss).link.notices := mem_raise _ _
    have shutFrame : onlyChanges [.billing, .meter, .nv, .link] q (q.shutLoss i .supplyLoss) := by
      obtain ⟨v, hv⟩ : ∃ v, v = ((q.onSlot i fun x =>
        { st := .closed
          record := x.record.settle.closed q.meter.channel q.billing.clock.time? (.stop .supplyLoss) }).onMeter fun m =>
          { m with channel := { m.channel with isOpen := false } }).onBilling fun b =>
            { b with checkpoint := none, lastClosed := some (b.slot i).record.number } := ⟨_, rfl⟩
      have set : onlyChanges [.billing, .meter] q v := by
        rw [hv]
        simp [onSlot, onBilling, onMeter, onlyChanges]
      have ends : q.shutLoss i .supplyLoss = ((v.queueSlot i true).queueTotals true).raise .record := by
        rw [hv]
        rfl
      rw [ends]
      exact onlyChanges_trans (onlyChanges_trans (onlyChanges_trans set (queueSlot_frame v i true)
        (rs := [.billing, .meter, .nv])) (queueTotals_frame _ true) (rs := [.billing, .meter, .nv])) (raise_frame _ _)
    obtain ⟨u, hu⟩ : ∃ u, u = q.shutLoss i .supplyLoss := ⟨_, rfl⟩
    rw [← hu] at step steered shut slot totals channel record shutFrame
    rw [closes] at shut
    have held : u.billing = { closedBilling s i .supplyLoss with commitPending := false } := by
      rw [shut, queueTotals_billing, billing]
      rfl
    have image : u.billing.slot i = closedImage s i .supplyLoss := by
      have hl := openSlot_lt s i h
      rw [held]
      simp [Billing.slot, closedBilling, hl]
    rw [image] at slot
    rw [step]
    refine ⟨fun j hj => ?_, fun hn => ?_, ?_, ?_, ?_, steered.postBudget _⟩
    · obtain rfl : i = j := Option.some.inj (h.symm.trans hj)
      refine ⟨held, ?_, record, List.mem_append_right _ (List.mem_singleton_self _), slot⟩
      show u.meter.channel = _
      rw [channel, meter]
      rfl
    · exact absurd (h.symm.trans hn) (by simp)
    · exact steered.meter
    · rw [meter] at totals
      exact totals
    · exact onlyChanges_trans (onlyChanges_trans frame shutFrame (rs := [.billing, .meter, .nv, .link])) (postBudget_frame _ _)

/-! ### The session at the entry (R22) -/

theorem openContactors_held {s : State} (hold : s.power.part ≠ .run) : s.openContactors = s.commandOpen := by
  have : s.commandOpen.inRun = false := by
    show (s.power.part == .run) = false
    simpa using hold
  rw [openContactors, openingCheck, doIf_eq, this]
  rfl

/-- R20, R22: outside RUN the stop of a charging session commands the contactors open and goes no further. -/
theorem takeStop_loss {s : State} (hold : s.power.part ≠ .run)
    (hs : s.session.st = .energising ∨ s.session.st = .active ∨ s.session.st = .paused) :
    s.takeStop .supplyLoss =
      { noticed [.session] s with
        session :=
          { s.session with
            stopCause := some .supplyLoss, causes := { s.session.causes with hostPause := false }
            energiseTimer := none, dcRequest := 0, st := .stopping, acK := s.session.acK.commandedOpen
            dcK := s.session.dcK.commandedOpen, rampTimer := none, closeTimer := none, openTimer := some s.now }
        pins := { s.pins with kacDrive := false, kdcpDrive := false, kdcnDrive := false }
        heating := { s.heating with sess := .stopping }
        budgetIn := s.budgetIn ++ [.session .stopping s.session.mode] } := by
  obtain ⟨u, hu⟩ : ∃ u, u = s.onSession fun x =>
    { x with
      stopCause := some .supplyLoss, causes := { x.causes with hostPause := false }, energiseTimer := none
      dcRequest := 0 } := ⟨_, rfl⟩
  have step : s.beginStop .supplyLoss = (u.enter .stopping).openContactors := by
    rw [hu]
    rfl
  have part : (u.enter .stopping).power.part ≠ .run := by
    rw [enter_eq, hu]
    exact hold
  rw [takeStop_charging hs, step, openContactors_held part, enter_eq, hu]
  simp [commandOpen, onSession, onPins, noticed, Session.loadFor, SessState.clearsPlugLoss]

/-- R20, R22: of a session that does not charge a stop cause outside RUN moves the contactors alone. -/
theorem takeStop_loss_other {s : State} (hold : s.power.part ≠ .run) (hs : s.session.st ∉ [.energising, .active, .paused]) :
    (s.takeStop .supplyLoss).session.st = s.session.st ∧
      (s.takeStop .supplyLoss).pins.supplyWarn = s.pins.supplyWarn ∧ onlyChanges [.session, .pins] s (s.takeStop .supplyLoss) := by
  simp only [List.mem_cons, List.not_mem_nil, or_false, not_or] at hs
  obtain ⟨he, ha, hp⟩ := hs
  have still (h : s.takeStop .supplyLoss = s) :
      (s.takeStop .supplyLoss).session.st = s.session.st ∧ (s.takeStop .supplyLoss).pins.supplyWarn = s.pins.supplyWarn ∧
        onlyChanges [.session, .pins] s (s.takeStop .supplyLoss) := by
    rw [h]
    exact ⟨rfl, rfl, onlyChanges_refl _ s⟩
  cases hst : s.session.st with
  | energising => exact absurd hst he
  | active => exact absurd hst ha
  | paused => exact absurd hst hp
  | stopping =>
    obtain ⟨u, hu⟩ : ∃ u, u = s.onSession fun x => { x with stopCause := some .supplyLoss } := ⟨_, rfl⟩
    have part : u.power.part ≠ .run := by
      rw [hu]
      exact hold
    have frame : onlyChanges [.session] s u := hu ▸ onSession_frame s _
    have opens : onlyChanges [.session, .pins] u u.commandOpen :=
      onlyChanges_trans (onSession_frame u _) (onPins_frame _ _) (ps := [.session]) (qs := [.pins])
    have st : u.session.st = .stopping := by rw [hu]; exact hst
    have step : s.takeStop .supplyLoss =
        if StopCause.supplyLoss.emergency && !(s.session.stopCause.getD .hostStop).emergency then
          (if u.session.rampTimer.isSome then u.openContactors else u) else s := by
      rw [hu, takeStop, hst]
    rw [step, openContactors_held part]
    split_ifs
    · exact ⟨st, by rw [← onlyChanges_pins frame]; rfl, onlyChanges_trans frame opens⟩
    · exact ⟨st, by rw [onlyChanges_pins frame], onlyChanges_mono frame⟩
    · exact ⟨hst, rfl, onlyChanges_refl _ s⟩
  | idle => exact hst ▸ still (by simp [takeStop, hst])
  | connected => exact hst ▸ still (by simp [takeStop, hst])
  | locking => exact hst ▸ still (by simp [takeStop, hst, doIf_eq])
  | authorising => exact hst ▸ still (by simp [takeStop, hst, doIf_eq])
  | unlocking => exact hst ▸ still (by simp [takeStop, hst])
  | finished => exact hst ▸ still (by simp [takeStop, hst, doIf_eq])
  | faulted => exact hst ▸ still (by simp [takeStop, hst])

/-- The session energises or draws. -/
def Charging (s : State) : Prop := s.session.st = .energising ∨ s.session.st = .active ∨ s.session.st = .paused

/-- R22, R171: what the session does at the entry to SUPPLY_HOLD. -/
structure SessionHeld (s t : State) : Prop where
  charging : Charging s →
    t.session.st = .stopping ∧ t.session.stopCause = some .supplyLoss ∧ t.session.dcRequest = 0 ∧
      t.session.acK = s.session.acK.commandedOpen.settled s.pins.kacFb ∧
      t.session.dcK = s.session.dcK.commandedOpen.settled (s.pins.kdcpFb || s.pins.kdcnFb) ∧
      t.session.openTimer = (if s.pins.allOpen then none else some s.now) ∧
      (s.pins.allOpen = true → s.session.mode = some .dc → t.iso.dcContext = false ∧ t.iso.dcClosed = false) ∧
      t.pins.kacDrive = false ∧ t.pins.kdcpDrive = false ∧ t.pins.kdcnDrive = false
  calm : ¬ Charging t
  pins : t.pins.supplyWarn = s.pins.supplyWarn ∧ t.pins.lockDrive = .released ∧ t.pins.cpLoad = false
  frame : onlyChanges [.session, .pins, .heating, .iso, .link, .budgetIn] s t
  steered : Steered s t

theorem dcOpened_context (x : Insulation) (now : Nat) : (x.dcOpened now).dcContext = false ∧ (x.dcOpened now).dcClosed = false := by
  cases h : x.st <;> simp [Insulation.dcOpened, h]

/-- R22: the opening in SUPPLY_HOLD, ended or not. -/
structure OpeningHeld (timedOut : Bool) (s t : State) : Prop where
  session : ∃ c : PauseSet, t.session =
    { s.session with
      acK := s.session.acK.settled s.pins.kacFb, dcK := s.session.dcK.settled (s.pins.kdcpFb || s.pins.kdcnFb)
      openTimer := if timedOut || s.pins.allOpen then none else s.session.openTimer, causes := c }
  told : timedOut || s.pins.allOpen → s.session.openTimer ≠ none → s.session.mode = some .dc → t.iso = s.iso.dcOpened s.now
  untold : ¬ (timedOut || s.pins.allOpen) ∨ s.session.mode ≠ some .dc → t =
    { s with session :=
        { s.session with
          acK := s.session.acK.settled s.pins.kacFb, dcK := s.session.dcK.settled (s.pins.kdcpFb || s.pins.kdcnFb)
          openTimer := if timedOut || s.pins.allOpen then none else s.session.openTimer } }
  pins : t.pins = s.pins
  frame : onlyChanges [.session, .iso, .link, .budgetIn] s t

theorem holdOpening_held {s : State} (hs : s.session.st = .stopping) (timedOut : Bool) :
    OpeningHeld timedOut s (s.holdOpening timedOut) := by
  have step := holdOpening_eq s timedOut
  dsimp only at step
  obtain ⟨x, hx⟩ : ∃ x : Session, x =
    { s.session with
      acK := s.session.acK.settled s.pins.kacFb, dcK := s.session.dcK.settled (s.pins.kdcpFb || s.pins.kdcnFb) } := ⟨_, rfl⟩
  have settled : s.settleContactors = { s with session := x } := by
    rw [hx]
    rfl
  have timer : x.openTimer = s.session.openTimer := by rw [hx]
  have st : x.st = .stopping := by rw [hx]; exact hs
  rw [settled] at step
  have over_iff : (timedOut = true ∨ s.pins.allOpen = true) ↔ (timedOut || s.pins.allOpen) = true := by simp
  have ended : { x with openTimer := if timedOut || s.pins.allOpen then none else s.session.openTimer } =
      { s.session with
        acK := s.session.acK.settled s.pins.kacFb, dcK := s.session.dcK.settled (s.pins.kdcpFb || s.pins.kdcnFb)
        openTimer := if timedOut || s.pins.allOpen then none else s.session.openTimer } := by rw [hx]
  by_cases done : s.session.openTimer ≠ none ∧ (timedOut || s.pins.allOpen) = true
  · obtain ⟨runs, all⟩ := done
    rw [if_pos ⟨runs, over_iff.2 all⟩] at step
    obtain ⟨u, hu⟩ : ∃ u : State, u = { s with session := { x with openTimer := none } } := ⟨_, rfl⟩
    have frame : onlyChanges [.session] s u := by simp [hu, onlyChanges]
    rw [all, if_pos rfl] at ended
    by_cases dc : s.session.mode = some .dc
    · have step' : s.holdOpening timedOut = u.isoChange fun x => x.dcOpened s.now := by
        rw [step, if_pos dc, hu]
        rfl
      obtain ⟨iso, ⟨c, session⟩, pins, moved⟩ := isoChange_unwatched (s := u) (fun x => x.dcOpened s.now)
        (by rw [hu]; simp [st]) (by rw [hu]; simp [st]) (by rw [hu]; simp [Session.loadFor, st])
      rw [step']
      refine ⟨⟨c, ?_⟩, fun _ _ _ => by rw [iso, hu], fun h => ?_, by rw [pins, hu], onlyChanges_trans frame moved⟩
      · rw [session, hu, all, if_pos rfl]
        rw [hx]
      · exact absurd dc (h.resolve_left (not_not.2 all))
    · have step' : s.holdOpening timedOut = u := by
        rw [step, if_neg dc, hu]
        rfl
      rw [step']
      refine ⟨⟨s.session.causes, ?_⟩, fun _ _ h => absurd h dc, fun _ => ?_, by rw [hu], onlyChanges_mono frame⟩
      · rw [hu, all, if_pos rfl, ended]
      · rw [hu, all, if_pos rfl, ended]
  · rw [if_neg fun h => done ⟨h.1, over_iff.1 h.2⟩] at step
    have still : (if timedOut || s.pins.allOpen then none else s.session.openTimer) = s.session.openTimer := by
      split_ifs with h
      · by_contra hn
        exact done ⟨fun hn' => hn hn'.symm, h⟩
      · rfl
    rw [step, hx]
    exact ⟨⟨s.session.causes, by rw [still]⟩, fun h ht _ => absurd ⟨ht, h⟩ done, fun _ => by rw [still], rfl,
      by simp [onlyChanges]⟩

theorem sessionHold_held {s : State} (hold : s.power.part ≠ .run) : SessionHeld s s.sessionHold := by
  obtain ⟨u, hu⟩ : ∃ u, u = s.takeStop .supplyLoss := ⟨_, rfl⟩
  obtain ⟨v, hv⟩ : ∃ v, v = u.doIf (u.session.st == .stopping) fun s => s.holdOpening false := ⟨_, rfl⟩
  have step : s.sessionHold = v.onPins fun p => { p with lockDrive := .released, cpLoad := false } := by
    rw [hv, hu]
    rfl
  have steered : Steered s s.sessionHold := by
    rw [step, hv, hu]
    exact (((Steered.refl s).takeStop _).doIf fun _ h => h.holdOpening false).onPins _
  have opens (st : u.session.st = .stopping) : OpeningHeld false u v := by
    rw [hv, doIf_eq, st]
    exact holdOpening_held st false
  have pinned : onlyChanges [.pins] v s.sessionHold := step ▸ onPins_frame v _
  have pins : v.pins = u.pins → s.sessionHold.pins.supplyWarn = u.pins.supplyWarn ∧ s.sessionHold.pins.lockDrive = .released ∧
      s.sessionHold.pins.cpLoad = false := by
    intro h
    rw [step, ← h]
    exact ⟨rfl, rfl, rfl⟩
  by_cases hs : Charging s
  · have stop := takeStop_loss hold hs
    rw [← hu] at stop
    have held := opens (by rw [stop])
    obtain ⟨c, session⟩ := held.session
    have frameU : onlyChanges [.session, .pins, .heating, .link, .budgetIn] s u := by
      rw [stop]
      simp [onlyChanges, noticed]
    have open_eq : u.pins.allOpen = s.pins.allOpen := by rw [stop]; rfl
    have drives : s.sessionHold.pins.kacDrive = u.pins.kacDrive ∧ s.sessionHold.pins.kdcpDrive = u.pins.kdcpDrive ∧
        s.sessionHold.pins.kdcnDrive = u.pins.kdcnDrive := by
      rw [step, ← held.pins]
      exact ⟨rfl, rfl, rfl⟩
    obtain ⟨kac, kdcp, kdcn⟩ := drives
    obtain ⟨warn, rest⟩ := pins held.pins
    refine ⟨fun _ => ?_, ?_, ⟨warn.trans (by rw [stop]), rest⟩,
      onlyChanges_trans (onlyChanges_trans frameU held.frame (rs := [.session, .pins, .heating, .iso, .link, .budgetIn])) pinned,
      steered⟩
    · rw [onlyChanges_session pinned, onlyChanges_iso pinned, session, kac, kdcp, kdcn, open_eq, Bool.false_or]
      refine ⟨?_, ?_, ?_, ?_, ?_, ?_, fun all dc => ?_, ?_⟩
      · rw [stop]
      · rw [stop]
      · rw [stop]
      · rw [stop]
      · rw [stop]
      · rw [stop]
      · rw [held.told (by rw [open_eq, all]; rfl) (by rw [stop]; simp) (by rw [stop]; exact dc)]
        exact dcOpened_context _ _
      · rw [stop]
        exact ⟨rfl, rfl, rfl⟩
    · rw [Charging, onlyChanges_session pinned, session, stop]
      simp
  · have other := takeStop_loss_other hold (by simpa [Charging] using hs)
    rw [← hu] at other
    obtain ⟨st, warnU, frameU⟩ := other
    have reached : v.session.st = u.session.st ∧ v.pins = u.pins ∧ onlyChanges [.session, .iso, .link, .budgetIn] u v := by
      by_cases hst : u.session.st = .stopping
      · have held := opens hst
        obtain ⟨c, session⟩ := held.session
        exact ⟨by rw [session], held.pins, held.frame⟩
      · have same : v = u := by
          rw [hv, doIf_eq, if_neg (by simpa using hst)]
        rw [same]
        exact ⟨rfl, rfl, onlyChanges_refl _ u⟩
    obtain ⟨stV, pinsV, frameV⟩ := reached
    obtain ⟨warn, rest⟩ := pins pinsV
    refine ⟨fun h => absurd h hs, ?_, ⟨warn.trans warnU, rest⟩,
      onlyChanges_trans (onlyChanges_trans frameU frameV (rs := [.session, .pins, .iso, .link, .budgetIn])) pinned, steered⟩
    · rw [Charging, onlyChanges_session pinned, stV, st]
      exact hs

/-! ### The monitor at the entry (R78, R100, R171) -/

/-- No zone is HEATING. -/
def Cold (s : State) : Prop := ∀ z ∈ s.heating.zones, z.heat ≠ .heating

/-- A zone that is not HEATING does not begin to by its row. -/
theorem refresh_cold {z : Zone} (h : z.heat ≠ .heating) : z.refresh.heat ≠ .heating := by
  show z.stateNow ≠ .heating
  have keeps : z.keepsHeating = false := by simp [Zone.keepsHeating, h]
  rw [Zone.stateNow, keeps]
  split_ifs <;> simp_all

/-- A change of one zone's row that leaves its heat state heats no zone. -/
theorem zoneStep_cold {s : State} (cold : Cold s) (n : Nat) {f : Zone → Zone} (hf : ∀ z, (f z).heat = z.heat) :
    Cold (s.zoneStep n f) := by
  cases n with
  | zero => exact cold
  | succ i =>
    obtain ⟨zones, -⟩ := (heatStep_stepped s [] [] false fun h => { h with zones := h.zones.modify i f }).rows.fields
    have step : s.zoneStep (i + 1) f = s.heatStep [] [] false fun h => { h with zones := h.zones.modify i f } := rfl
    have row : (s.heating.zones.getD i {}).heat ≠ .heating := by
      by_cases hi : i < s.heating.zones.length
      · rw [List.getD_eq_getElem _ _ hi]
        exact cold _ (List.getElem_mem hi)
      · rw [List.getD_eq_default _ _ (by omega)]
        decide
    intro z hz
    rw [step, zones] at hz
    obtain ⟨y, hy, rfl⟩ := List.mem_map.1 hz
    refine refresh_cold ?_
    rw [modify_eq_set _ _ _ ({} : Zone)] at hy
    rcases List.mem_or_eq_of_mem_set hy with hy | rfl
    · exact cold y hy
    · rw [hf]
      exact row

theorem heatRelease_cold {s : State} (cold : Cold s) (a : Nat) : Cold (s.heatRelease a) := by
  unfold heatRelease atHeater
  split
  · exact zoneStep_cold cold _ fun _ => rfl
  · exact cold

/-- R100: the branch under test of a search that ends is let go. -/
theorem dropBranch_outlying (s : State) : Outlying s s.dropBranch ∧ (Cold s → Cold s.dropBranch) := by
  unfold dropBranch
  split
  · exact ⟨Outlying.refl s, id⟩
  · next a _ =>
    have released : Outlying (s.queueUrgent .reconnect a) (s.queueReconnect a) := by
      unfold queueReconnect heatRelease atHeater
      split
      · exact Outlying.zoneStep _ _ _
      · exact Outlying.refl _
    have queued := (Outlying.queueUrgent s .reconnect a).trans released
    rw [doIf_eq]
    split_ifs
    · refine ⟨queued, fun cold => heatRelease_cold ?_ a⟩
      rw [Cold, onlyChanges_heating (queueUrgent_frame s _ a)]
      exact cold
    · exact ⟨Outlying.refl s, id⟩

/-- R78, R171: the monitor enters OFF, from whatever state. -/
structure IsoHeld (s t : State) : Prop where
  iso : t.iso.st = .off ∧ t.iso.dcContext = s.iso.dcContext ∧ t.iso.dcClosed = s.iso.dcClosed
  session : ∃ c : PauseSet, t.session = { s.session with causes := c }
  pins : t.pins = s.pins
  cold : Cold s → Cold t
  outlying : Outlying s t
  frame : onlyChanges [.iso, .session, .heating, .stage, .link, .budgetIn] s t

/-- R16: the monitor's entry into OFF, from the state that a search given up has left. -/
theorem isoHeld_change {s u : State} (calm : ¬ Charging s) (load : s.pins.cpLoad = false)
    (dropped : onlyChanges [.heating, .stage, .budgetIn, .link] s u) (drops : Outlying s u) (cold : Cold s → Cold u)
    {f : Insulation → Insulation}
    (hf : ∀ x, (f x).st = .off ∧ (f x).dcContext = x.dcContext ∧ (f x).dcClosed = x.dcClosed) : IsoHeld s (u.isoChange f) := by
  have session_eq := onlyChanges_session dropped
  have pins_eq := onlyChanges_pins dropped
  obtain ⟨iso, ⟨c, session⟩, pins, frame⟩ := isoChange_unwatched (s := u) f
    (fun h => calm (.inr (.inl (session_eq ▸ h)))) (fun h => calm (.inr (.inr (session_eq ▸ h)))) (by
      rw [pins_eq, load, session_eq]
      cases hst : s.session.st <;> simp_all [Session.loadFor, Charging])
  refine ⟨?_, ⟨c, by rw [session, session_eq]⟩, by rw [pins, pins_eq], fun h => ?_,
    drops.trans (Outlying.of_steered ((Steered.refl u).isoChange f)), onlyChanges_trans dropped frame⟩
  · rw [iso, ← onlyChanges_iso dropped]
    exact hf u.iso
  · rw [Cold, onlyChanges_heating frame]
    exact cold h

theorem isoOff_held {s : State} (calm : ¬ Charging s) (load : s.pins.cpLoad = false) : IsoHeld s s.isoOff := by
  by_cases hs : s.iso.st = .off
  · rw [isoOff, if_pos hs]
    exact ⟨⟨hs, rfl, rfl⟩, ⟨_, rfl⟩, rfl, id, Outlying.refl s, onlyChanges_refl _ s⟩
  · by_cases search : s.iso.st = .searching
    · rw [isoOff, if_neg hs, if_pos search, abortSearch]
      exact isoHeld_change calm load (dropBranch_kept s).1 s.dropBranch_outlying.1 s.dropBranch_outlying.2
        fun x => ⟨rfl, rfl, rfl⟩
    · rw [isoOff, if_neg hs, if_neg search]
      exact isoHeld_change calm load (onlyChanges_refl _ s) (Outlying.refl s) id fun x => ⟨rfl, rfl, rfl⟩

/-! ### The entry to SUPPLY_HOLD (R171) -/

/-- The power-state controller's own part in the entry, and the link's. -/
def warned (s : State) : State :=
  let s := s.onPins fun p => { p with supplyWarn := true }
  let s := s.onPower fun p =>
    { p with
      part := .supplyHold, heldWake := none, hostReset := false, resetAcked := false, dwell := none, dipDue := false }
  let s := s.doIf s.stage.supplyOn safeStopRequest
  s.onStage fun g => { g with entryWait := false, recallTimer := none }

theorem safeStopRequest_facts (s : State) :
    s.safeStopRequest.stage.safeStop = true ∧ onlyChanges [.stage] s s.safeStopRequest := by
  unfold safeStopRequest
  split
  · next h => exact ⟨h, onlyChanges_refl _ s⟩
  · exact ⟨rfl, onStage_frame s _⟩

theorem warned_facts (s : State) :
    s.warned.power =
        { s.power with
          part := .supplyHold, heldWake := none, hostReset := false, resetAcked := false, dwell := none, dipDue := false } ∧
      s.warned.pins = { s.pins with supplyWarn := true } ∧ s.warned.stage.safeStop = (s.stage.safeStop || s.stage.supplyOn) ∧
      onlyChanges [.pins, .power, .stage] s s.warned := by
  obtain ⟨a, ha⟩ : ∃ a, a = (s.onPins fun p => { p with supplyWarn := true }).onPower fun p =>
    { p with
      part := .supplyHold, heldWake := none, hostReset := false, resetAcked := false, dwell := none, dipDue := false } :=
    ⟨_, rfl⟩
  obtain ⟨b, hb⟩ : ∃ b, b = a.doIf a.stage.supplyOn safeStopRequest := ⟨_, rfl⟩
  have step : s.warned = b.onStage fun g => { g with entryWait := false, recallTimer := none } := by
    rw [hb, ha]
    rfl
  have frameA : onlyChanges [.pins, .power] s a := by simp [ha, onPins, onPower, onlyChanges]
  have frameB : onlyChanges [.stage] a b := hb ▸ onlyChanges_doIf a.safeStopRequest_facts.2
  have safe : b.stage.safeStop = (s.stage.safeStop || s.stage.supplyOn) := by
    rw [← onlyChanges_stage frameA, hb, doIf_eq]
    split_ifs with h
    · rw [a.safeStopRequest_facts.1, h, Bool.or_true]
    · rw [Bool.eq_false_iff.2 h, Bool.or_false]
  rw [step]
  refine ⟨?_, ?_, safe, onlyChanges_trans (onlyChanges_trans frameA frameB (rs := [.pins, .power, .stage])) (onStage_frame b _)⟩
  · show b.power = _
    rw [onlyChanges_power frameB, ha]
    rfl
  · show b.pins = _
    rw [onlyChanges_pins frameB, ha]
    rfl

/-- R171: the entry, block by block. -/
theorem warn_blocks {s : State} (live : s.power.part ∈ [PartState.run, .standby, .sleep, .startUp]) :
    ∃ c d e f g, s.warn = (g.onBudget fun b => { b with period := none }).raise .part ∧ SessionHeld s.warned c ∧
      d = c.meterStop ∧ BillingHeld d e ∧ HeatStopped e f ∧ IsoHeld f g := by
  have held := sessionHold_held (s := s.warned) (by rw [s.warned_facts.1]; simp)
  obtain ⟨c, hc⟩ : ∃ c, c = s.warned.sessionHold := ⟨_, rfl⟩
  obtain ⟨d, hd⟩ : ∃ d, d = c.meterStop := ⟨_, rfl⟩
  obtain ⟨e, he⟩ : ∃ e, e = d.billingHold := ⟨_, rfl⟩
  obtain ⟨f, hf⟩ : ∃ f, f = e.heatStop := ⟨_, rfl⟩
  have billing := d.billingHold_held
  have heating := e.heatStop_stopped
  rw [← hc] at held
  rw [← he] at billing
  rw [← hf] at heating
  have metered : onlyChanges [.meter] c d := hd ▸ onMeter_frame c _
  have before : onlyChanges [.meter, .billing, .nv, .link, .budgetIn] c e := onlyChanges_trans metered billing.frame
  have toF : onlyChanges [.meter, .billing, .nv, .link, .budgetIn, .heating, .stage] c f := onlyChanges_trans before heating.frame
  have monitor := isoOff_held (s := f) (by rw [Charging, onlyChanges_session toF]; exact held.calm)
    (by rw [onlyChanges_pins toF]; exact held.pins.2.2)
  refine ⟨c, d, e, f, f.isoOff, ?_, held, hd, billing, heating, monitor⟩
  have enters : s.warn = (s.onPins fun p => { p with supplyWarn := true }).enterHold := by
    unfold warn
    dsimp only [onPins_power]
    simp only [List.mem_cons, List.not_mem_nil, or_false] at live
    rcases live with h | h | h | h <;> rw [h]
  rw [enters, hf, he, hd, hc]
  rfl

end Sys2Proof.Machine.State
end

section
/-! SUPPLY_WARN, its release and its dwell (R171, R172). -/

-- One declaration at a time: each thread the elaborator opens takes its whole stack from the memory limit.
set_option Elab.async false

namespace Sys2Proof.Proofs

open Machine Safety

/-- R171: SUPPLY_WARN in a part that runs, rests or starts up. -/
theorem warn_holds {s : State} (live : s.power.part ∈ [PartState.run, .standby, .sleep, .startUp]) {t : State} (ht : s.warn = t) :
    t.power =
        { s.power with
          part := .supplyHold, heldWake := none, hostReset := false, resetAcked := false, dwell := none, dipDue := false } ∧
      t.pins.supplyWarn = true ∧ t.pins.lockDrive = .released ∧ t.pins.cpLoad = false ∧
      (s.session.st ∈ [.energising, .active, .paused] →
        t.session.st = .stopping ∧ t.session.stopCause = some .supplyLoss ∧ t.session.dcRequest = 0 ∧
          t.session.acK = s.session.acK.commandedOpen.settled s.pins.kacFb ∧
          t.session.dcK = s.session.dcK.commandedOpen.settled (s.pins.kdcpFb || s.pins.kdcnFb) ∧
          t.session.openTimer = (if s.pins.allOpen then none else some s.now) ∧
          (s.pins.allOpen = true → s.session.mode = some .dc → t.iso.dcContext = false ∧ t.iso.dcClosed = false) ∧
          t.pins.kacDrive = false ∧ t.pins.kdcpDrive = false ∧ t.pins.kdcnDrive = false) ∧
      t.meter.live = {} ∧ t.meter.period = none ∧ t.meter.totals = s.meter.totals ∧
      (s.billing.openSlot = none → t.billing = s.billing) ∧
      (∀ i, s.billing.openSlot = some i →
        t.billing = { closedBilling s i .supplyLoss with commitPending := false } ∧
          t.meter.channel = { (marksMoved s.meter).channel with isOpen := false } ∧
          NoticeKind.record ∈ t.link.notices ∧ BudgetPosting.phases 0 ∈ t.budgetIn ∧
          ∃ w ∈ t.nv.queue, w.content = .slot i (closedImage s i .supplyLoss) ∧ w.supplyLoss = true) ∧
      (∃ w ∈ t.nv.queue, w.content = .totals s.meter.totals ∧ w.supplyLoss = true) ∧
      t.heating.source = .none ∧ t.heating.heatPeriod = none ∧ (∀ z ∈ t.heating.zones, z.heat ≠ .heating) ∧
      t.iso.st = .off ∧ t.budget.period = none ∧
      t.stage.safeStop = (s.stage.safeStop || s.stage.supplyOn) ∧ NoticeKind.part ∈ t.link.notices ∧
      onlyChanges
        [.power, .pins, .session, .heating, .iso, .stage, .meter, .billing, .nv, .link, .budget, .budgetIn] s t := by
  obtain ⟨c, d, e, f, g, step, session, hd, billing, heating, monitor⟩ := State.warn_blocks live
  obtain ⟨power, pins, safe, first⟩ := s.warned_facts
  obtain ⟨v, hv⟩ : ∃ v, v = s.warned := ⟨_, rfl⟩
  rw [← hv] at session power pins safe first
  obtain ⟨h, hh⟩ : ∃ h, h = g.onBudget fun b => { b with period := none } := ⟨_, rfl⟩
  rw [ht, ← hh] at step
  have budgeted : onlyChanges [.budget] g h := hh ▸ State.onBudget_frame g _
  have raised : onlyChanges [.link] h t := step ▸ State.raise_frame h .part
  have metered : onlyChanges [.meter] c d := hd ▸ State.onMeter_frame c _
  -- The frames from block to block, and what each block reads of the ones before it.
  have toC : onlyChanges [.pins, .power, .stage, .session, .heating, .iso, .link, .budgetIn] s c :=
    onlyChanges_trans first session.frame
  have toD : onlyChanges [.pins, .power, .stage, .session, .heating, .iso, .link, .budgetIn, .meter] s d :=
    onlyChanges_trans toC metered
  have cf : onlyChanges [.meter, .billing, .nv, .link, .budgetIn, .heating, .stage] c f :=
    onlyChanges_trans (onlyChanges_trans metered billing.frame (rs := [.meter, .billing, .nv, .link, .budgetIn])) heating.frame
  have gt : onlyChanges [.budget, .link] g t := onlyChanges_trans budgeted raised
  have ft : onlyChanges [.iso, .session, .heating, .stage, .link, .budgetIn, .budget] f t := onlyChanges_trans monitor.frame gt
  have et : onlyChanges [.iso, .session, .heating, .stage, .link, .budgetIn, .budget] e t := onlyChanges_trans heating.frame ft
  have channel : d.meter.channel = s.meter.channel ∧ d.meter.totals = s.meter.totals ∧ d.meter.live = {} ∧ d.meter.period = none := by
    rw [hd]
    show c.meter.channel = _ ∧ c.meter.totals = _ ∧ ({} : Live) = _ ∧ (none : Option Nat) = _
    rw [onlyChanges_meter toC]
    exact ⟨rfl, rfl, rfl, rfl⟩
  obtain ⟨channelD, totalsD, liveD, periodD⟩ := channel
  have billingD : d.billing = s.billing := onlyChanges_billing toD
  have meterT : t.meter = { d.meter with channel := t.meter.channel, lastWrite := t.meter.lastWrite } := by
    rw [onlyChanges_meter et]
    exact billing.meter
  have openD : d.billing.openSlot = s.billing.openSlot := by rw [billingD]
  have noticesFT : ∀ k ∈ e.link.notices, k ∈ t.link.notices := by
    intro k hk
    rw [step, State.raise_eq]
    refine State.mem_withNotices_one _ ?_
    rw [onlyChanges_link budgeted]
    exact monitor.outlying.notices k (heating.onward.notices k hk)
  have budgetFT : ∀ p ∈ e.budgetIn, p ∈ t.budgetIn := by
    intro p hp
    rw [onlyChanges_budgetIn gt]
    exact (heating.onward.budgetIn.trans monitor.outlying.budgetIn).subset hp
  have nvT : t.nv = e.nv := onlyChanges_nv et
  have sessionT : ∃ c' : PauseSet, t.session = { c.session with causes := c' } := by
    obtain ⟨c', hc'⟩ := monitor.session
    exact ⟨c', by rw [onlyChanges_session gt, hc', onlyChanges_session cf]⟩
  have pinsT : t.pins = c.pins := by rw [onlyChanges_pins gt, monitor.pins, onlyChanges_pins cf]
  have isoT : t.iso.st = .off ∧ t.iso.dcContext = c.iso.dcContext ∧ t.iso.dcClosed = c.iso.dcClosed := by
    obtain ⟨off, context, closed⟩ := monitor.iso
    rw [onlyChanges_iso gt, context, closed, onlyChanges_iso cf]
    exact ⟨off, rfl, rfl⟩
  refine ⟨?power, ?warned, ?lock, ?load, ?session, ?live, ?period, ?totals, ?idle, ?record, ?queued, ?source, ?heatPeriod, ?cold,
    isoT.1, ?budget, ?safe, ?part, ?frame⟩
  case power =>
    rw [onlyChanges_power ft, onlyChanges_power cf, onlyChanges_power session.frame, power]
  case warned => rw [pinsT, session.pins.1, pins]
  case lock => rw [pinsT]; exact session.pins.2.1
  case load => rw [pinsT]; exact session.pins.2.2
  case session =>
    intro charging
    obtain ⟨c', hc'⟩ := sessionT
    have sessionV : v.session = s.session := onlyChanges_session first
    have held := session.charging (by
      simpa [State.Charging, sessionV] using charging)
    have nowV : v.now = s.now := onlyChanges_now first
    rw [sessionV, pins, nowV] at held
    obtain ⟨st, cause, request, acK, dcK, timer, told, drives⟩ := held
    rw [hc', pinsT, isoT.2.1, isoT.2.2]
    exact ⟨st, cause, request, acK, dcK, timer, told, drives⟩
  case live => rw [meterT]; exact liveD
  case period => rw [meterT]; exact periodD
  case totals => rw [meterT]; exact totalsD
  case idle =>
    intro none
    rw [onlyChanges_billing et, billing.idle (by rw [openD]; exact none), billingD]
  case record =>
    intro i hi
    obtain ⟨closed, chan, record, phases, slot⟩ := billing.closed i (by rw [openD]; exact hi)
    have image := State.closedImage_congr (s := s) (u := d) billingD channelD i .supplyLoss
    rw [image] at slot
    refine ⟨?_, ?_, noticesFT _ record, budgetFT _ phases, ?_⟩
    · rw [onlyChanges_billing et, closed]
      simp only [closedBilling, image, billingD]
    · rw [onlyChanges_meter et, chan]
      simp only [marksMoved, channelD]
    · rw [nvT]
      exact slot
  case queued =>
    rw [nvT, ← totalsD]
    exact billing.totals
  case source =>
    rw [onlyChanges_heating gt, monitor.outlying.heating]
    exact heating.source
  case heatPeriod =>
    rw [onlyChanges_heating gt, monitor.outlying.heating]
    exact heating.periods.1
  case cold =>
    rw [onlyChanges_heating gt]
    exact monitor.cold heating.cold
  case budget =>
    rw [onlyChanges_budget raised, hh]
    rfl
  case safe =>
    rw [onlyChanges_stage gt, monitor.outlying.stage]
    show f.stage.safeStop = _
    rw [heating.commands.stage]
    show e.stage.safeStop = _
    rw [onlyChanges_stage billing.frame, onlyChanges_stage metered, onlyChanges_stage session.frame, safe]
  case part =>
    rw [step]
    exact State.mem_raise _ _
  case frame =>
    exact onlyChanges_trans (onlyChanges_trans (onlyChanges_trans toD billing.frame
      (rs := [.pins, .power, .stage, .session, .heating, .iso, .link, .budgetIn, .meter, .billing, .nv])) heating.frame
      (rs := [.pins, .power, .stage, .session, .heating, .iso, .link, .budgetIn, .meter, .billing, .nv])) ft

/-- R22: a contact that opens in SUPPLY_HOLD while the contactors are opening. -/
theorem opened_held {s : State} (hold : s.power.part = .supplyHold) (hs : s.session.st = .stopping) (k : Contact) :
    exec (.contactorOpened k) s = .next ((s.onPins fun p => p.setFb k false).holdOpening false) := by
  show Host.Outcome.next (s.contactOpenedEvent k) = _
  have out : (s.inRun && s.contactFault k) = false := by simp [State.inRun, hold]
  unfold State.contactOpenedEvent
  simp [out, hold, hs]

/-- Settles O57: the entry block by block, the opening of the contactors in SUPPLY_HOLD, and the dwell. -/
theorem supplyWarning : Obligations.SupplyWarning := by
  unfold Obligations.SupplyWarning
  intro s hold warned
  refine ⟨fun h => ?_, fun h => ?_, fun live => ⟨s.warn, rfl, warn_holds live rfl⟩, fun h hs => ?_, ?_, fun h hd => ?_, fun h => ?_⟩
  · show Host.Outcome.next s.warn = _
    have part : (s.onPins fun p => { p with supplyWarn := true }).power.part = .supplyHold := h
    unfold State.warn
    dsimp only
    rw [part]
    rfl
  · show Host.Outcome.next s.warn = _
    unfold State.warn
    dsimp only [State.onPins_power]
    rcases h with h | h <;> rw [h] <;> rfl
  · intro settled
    have held (p : Pins) : State.OpeningHeld false { s with pins := p } (State.holdOpening { s with pins := p } false) :=
      State.holdOpening_held (s := { s with pins := p }) hs false
    refine ⟨fun k p hp closed => ?_, fun k p hp all timer mode => ?_, fun k p hp all timer mode => ?_, fun timer mode => ?_⟩
    · have same := (held p).untold (.inl (by simp [closed]))
      rw [opened_held h hs, State.onPins, ← hp, same, closed]
      rfl
    · have same := (held p).untold (.inr mode)
      rw [opened_held h hs, State.onPins, ← hp, same, all]
      rfl
    · have done := held p
      obtain ⟨c, session⟩ := done.session
      rw [opened_held h hs, State.onPins, ← hp]
      refine ⟨_, rfl, done.told (by simp [all]) timer mode, ?_, ?_, ?_, ?_, ?_⟩
      · rw [session, all]
        rfl
      · rw [session]
      · rw [session]
      · rw [session]
        exact hs
      · exact onlyChanges_trans (by simp [onlyChanges] : onlyChanges [.pins] s { s with pins := p }) done.frame
    · have done := (State.holdOpening_held (s := s) hs true).untold (.inr mode)
      have part : s.power.part = .supplyHold := h
      show Host.Outcome.next s.openingTimeout = _
      rw [State.openingTimeout, State.doIf_eq, if_pos (by simpa [hs] using Option.isSome_iff_ne_none.2 timer),
        if_neg (by simp [part]), State.doIf_eq, if_pos (by simp [part]), done]
      rfl
  · intro p
    have released : exec .supplyWarnRelease s = .next (p.doIf (p.power.part == .supplyHold && !p.power.dipDue) fun s =>
      s.onPower fun q => { q with dwell := some s.now }) := rfl
    refine ⟨fun h dip => ?_, fun h => ?_⟩
    · rw [released, State.doIf_eq, if_pos]
      · rfl
      · have part : p.power.part = .supplyHold := h
        have due : p.power.dipDue = false := dip
        rw [part, due]
        rfl
    · rw [released, State.doIf_eq, if_neg]
      rcases h with h | h
      · have part : p.power.part ≠ .supplyHold := h
        simp [part]
      · have due : p.power.dipDue = true := h
        simp [due]
  · show Host.Outcome.next s.dwellExpiry = _
    have part : s.power.part = .supplyHold := h
    rw [State.dwellExpiry, State.doIf_eq, if_pos (by simpa [part] using Option.isSome_iff_ne_none.2 hd)]
    rfl
  · show Host.Outcome.next s.dwellExpiry = _
    rw [State.dwellExpiry, State.doIf_eq, if_neg]
    rcases h with h | h
    · have part : s.power.part ≠ .supplyHold := h
      simp [part]
    · simp [h]

end Sys2Proof.Proofs
end

section
/-! Start-up's log scan: what it makes of the slots whose check holds (R164, R165, R176). -/

-- One declaration at a time: each thread the elaborator opens takes its whole stack from the memory limit.
set_option Elab.async false

namespace Sys2Proof.Machine

open Safety

/-! ### The scan (R164) -/

/-- R164: a slot not found damaged keeps its number. -/
theorem renumber_sound (fuel i : Nat) (l : List (Slot × Bool)) (next : Nat) :
    (renumber fuel i l next).1.length = l.length ∧
      ∀ j, (l.getD j ({}, false)).2 = false → (renumber fuel i l next).1.getD j ({}, false) = l.getD j ({}, false) := by
  induction fuel generalizing i l next with
  | zero => exact ⟨rfl, fun _ _ => rfl⟩
  | succ fuel ih =>
    unfold renumber
    dsimp only
    split
    · next h =>
      obtain ⟨f, hf⟩ : ∃ f : Slot × Bool → Slot × Bool, f = fun y =>
        ({ y.1 with record := { y.1.record with number := next } }, y.2) := ⟨_, rfl⟩
      rw [← hf]
      obtain ⟨length, rows⟩ := ih (i + 1) (l.modify i f) (next + 1)
      refine ⟨length.trans (List.length_modify ..), fun j sound => ?_⟩
      have ne : i ≠ j := by
        rintro rfl
        rw [sound] at h
        exact absurd h.1 Bool.false_ne_true
      have same : (l.modify i f).getD j ({}, false) = l.getD j ({}, false) := by
        rw [List.getD_eq_getElem?_getD, List.getD_eq_getElem?_getD, List.getElem?_modify]
        simp [ne]
      rw [rows j (by rw [same]; exact sound), same]
    · exact ih (i + 1) l next

/-- R164: the slot read from an area whose newest copy is good. -/
theorem scanLog_sound {areas : List (Area Slot)} {i q : Nat} {y : Slot} {b : Bool} (hi : i < areas.length)
    (h : newest (areas.getD i {}) = some (q, y, b)) :
    (scanLog areas).1.getD i ({}, false) = (if y.st = .free then {} else y, false) := by
  have read : (areas.map loadSlot).getD i ({}, false) = (if y.st = .free then {} else y, false) := by
    rw [List.getD_eq_getElem _ _ (by simpa using hi), List.getElem_map]
    rw [List.getD_eq_getElem _ _ hi] at h
    rw [loadSlot, h]
  rw [scanLog, (renumber_sound 24 0 _ _).2 i (by rw [read]), read]

theorem scanLog_length (areas : List (Area Slot)) : (scanLog areas).1.length = areas.length := by
  rw [scanLog, (renumber_sound 24 0 _ _).1, List.length_map]

namespace State

/-! ### Slots recovered (R165) -/

/-- What the log scan moves: the slots, the last record closed, the NV queue, the notices and the scan's figures. -/
structure Scanned (s t : State) : Prop where
  billing : t.billing = { s.billing with slots := t.billing.slots, nextNumber := t.billing.nextNumber
                                         lastClosed := t.billing.lastClosed }
  nv : t.nv = { s.nv with queue := t.nv.queue }
  link : t.link = { s.link with notices := t.link.notices }
  notices : ∀ k ∈ s.link.notices, k ∈ t.link.notices
  frame : onlyChanges [.billing, .nv, .link] s t

theorem Scanned.refl (s : State) : Scanned s s := ⟨rfl, rfl, rfl, fun _ h => h, onlyChanges_refl _ s⟩

theorem Scanned.trans {s t u : State} (h : Scanned s t) (k : Scanned t u) : Scanned s u where
  billing := by rw [k.billing, h.billing]
  nv := by rw [k.nv, h.nv]
  link := by rw [k.link, h.link]
  notices x hx := k.notices x (h.notices x hx)
  frame := onlyChanges_trans h.frame k.frame

/-- A slot queued with its notice. -/
theorem queueSlot_scanned (s : State) (i : Nat) : Scanned s ((s.queueSlot i false).raise .record) := by
  have queued := queueSlot_frame s i false
  have raised := raise_frame (s.queueSlot i false) .record
  refine ⟨?_, ?_, ?_, fun k hk => ?_, onlyChanges_trans queued raised⟩
  · rw [onlyChanges_billing raised, onlyChanges_billing queued]
  · rw [onlyChanges_nv raised]
    rfl
  · rw [raise_eq]
    show ({ (s.queueSlot i false).link with notices := _ } : Link) = _
    rw [onlyChanges_link queued]
    rfl
  · rw [raise_eq]
    exact mem_withNotices_one _ (by rw [onlyChanges_link queued]; exact hk)

/-- R165: slot `i` closed as recovered, before it is queued. -/
def slotRecovered (s : State) (i : Nat) : State :=
  let s := s.onSlot i fun x => { st := .closed, record := x.record.recovered s.billing.clock.time? }
  s.onBilling fun b => { b with lastClosed := some (b.slot i).record.number }

theorem recoverSlot_open {s : State} {i : Nat} (h : (s.billing.slot i).st = .opened) :
    s.recoverSlot i = ((s.slotRecovered i).queueSlot i false).raise .record := by
  rw [recoverSlot, if_pos h]
  rfl

theorem recoverSlot_other {s : State} {i : Nat} (h : (s.billing.slot i).st ≠ .opened) : s.recoverSlot i = s := by
  rw [recoverSlot, if_neg h]

theorem slotRecovered_slots (s : State) (i : Nat) :
    (s.slotRecovered i).billing.slots = s.billing.slots.set i (recoveredImage (s.billing.slot i).record s.billing.clock.time?) := by
  show s.billing.slots.modify i _ = _
  rw [modify_eq_set _ _ _ ({} : Slot)]
  rfl

theorem recoverSlot_scanned (s : State) (i : Nat) : Scanned s (s.recoverSlot i) := by
  by_cases h : (s.billing.slot i).st = .opened
  · rw [recoverSlot_open h]
    have set : Scanned s (s.slotRecovered i) :=
      ⟨rfl, rfl, rfl, fun _ h => h, by simp [slotRecovered, onSlot, onBilling, onlyChanges]⟩
    exact set.trans (queueSlot_scanned _ i)
  · rw [recoverSlot_other h]
    exact Scanned.refl s

/-- R165: the recovery of one slot leaves the others. -/
theorem recoverSlot_others (s : State) {i j : Nat} (h : i ≠ j) :
    (s.recoverSlot i).billing.slot j = s.billing.slot j ∧ ∀ x, waits s (.slot j x) → waits (s.recoverSlot i) (.slot j x) := by
  by_cases hi : (s.billing.slot i).st = .opened
  · rw [recoverSlot_open hi]
    have raised := raise_frame ((s.slotRecovered i).queueSlot i false) .record
    refine ⟨?_, fun x hx => ?_⟩
    · rw [onlyChanges_billing raised, onlyChanges_billing (queueSlot_frame _ i false), Billing.slot, slotRecovered_slots,
        Billing.slot, List.getD_eq_getElem?_getD, List.getElem?_set_ne h]
      exact (List.getD_eq_getElem?_getD ..).symm
    · rw [waits, onlyChanges_nv raised]
      exact queueNv_waits_other (s.slotRecovered i) _ _ false hx (by simp [NvContent.area, h.symm])
  · rw [recoverSlot_other hi]
    exact ⟨rfl, fun _ h => h⟩

/-- R165: a slot left OPEN is closed as recovered and queued. -/
theorem recoverSlot_recovers {s : State} {i : Nat} (hi : i < s.billing.slots.length) (h : (s.billing.slot i).st = .opened) :
    (s.recoverSlot i).billing.slot i = recoveredImage (s.billing.slot i).record s.billing.clock.time? ∧
      waits (s.recoverSlot i) (.slot i (recoveredImage (s.billing.slot i).record s.billing.clock.time?)) ∧
      NoticeKind.record ∈ (s.recoverSlot i).link.notices := by
  have row : (s.slotRecovered i).billing.slot i = recoveredImage (s.billing.slot i).record s.billing.clock.time? := by
    rw [Billing.slot, slotRecovered_slots]
    simp [hi]
  rw [recoverSlot_open h]
  have raised := raise_frame ((s.slotRecovered i).queueSlot i false) .record
  refine ⟨?_, ?_, mem_raise _ _⟩
  · rw [onlyChanges_billing raised, onlyChanges_billing (queueSlot_frame _ i false), row]
  · rw [waits, onlyChanges_nv raised, ← row]
    exact queueNv_waits (s.slotRecovered i) _ false

/-- R165: every slot of a list recovered. -/
theorem recoverAll (l : List Nat) (nodup : l.Nodup) : ∀ s : State,
    Scanned s (l.foldl recoverSlot s) ∧ (l.foldl recoverSlot s).billing.slots.length = s.billing.slots.length ∧
      (∀ j, j ∉ l → (l.foldl recoverSlot s).billing.slot j = s.billing.slot j ∧
        ∀ x, waits s (.slot j x) → waits (l.foldl recoverSlot s) (.slot j x)) ∧
      ∀ j ∈ l, j < s.billing.slots.length → (s.billing.slot j).st = .opened →
        (l.foldl recoverSlot s).billing.slot j = recoveredImage (s.billing.slot j).record s.billing.clock.time? ∧
          waits (l.foldl recoverSlot s) (.slot j (recoveredImage (s.billing.slot j).record s.billing.clock.time?)) ∧
          NoticeKind.record ∈ (l.foldl recoverSlot s).link.notices := by
  induction l with
  | nil => exact fun s => ⟨Scanned.refl s, rfl, fun _ _ => ⟨rfl, fun _ h => h⟩, fun j hj => absurd hj (List.not_mem_nil)⟩
  | cons i l ih =>
    intro s
    obtain ⟨hi, hn⟩ := List.nodup_cons.1 nodup
    have first := recoverSlot_scanned s i
    have length : (s.recoverSlot i).billing.slots.length = s.billing.slots.length := by
      by_cases h : (s.billing.slot i).st = .opened
      · rw [recoverSlot_open h, onlyChanges_billing (raise_frame _ _), onlyChanges_billing (queueSlot_frame _ i false),
          slotRecovered_slots, List.length_set]
      · rw [recoverSlot_other h]
    have clock : (s.recoverSlot i).billing.clock = s.billing.clock := by rw [first.billing]
    obtain ⟨rest, length', others, here⟩ := ih hn (s.recoverSlot i)
    rw [List.foldl_cons]
    refine ⟨first.trans rest, length'.trans length, fun j hj => ?_, fun j hj hl open_ => ?_⟩
    · obtain ⟨hji, hjl⟩ := not_or.1 (mt List.mem_cons.2 hj)
      obtain ⟨slot, kept⟩ := recoverSlot_others s (Ne.symm hji)
      obtain ⟨slot', kept'⟩ := others j hjl
      exact ⟨slot'.trans slot, fun x hx => kept' x (kept x hx)⟩
    · by_cases hji : j = i
      · subst hji
        obtain ⟨slot, queued, record⟩ := recoverSlot_recovers hl open_
        obtain ⟨slot', kept'⟩ := others j hi
        exact ⟨slot'.trans slot, kept' _ queued, rest.notices _ record⟩
      · have hjl := (List.mem_cons.1 hj).resolve_left hji
        obtain ⟨slot, -⟩ := recoverSlot_others s (Ne.symm hji)
        have done := here j hjl (by rw [length]; exact hl) (by rw [slot]; exact open_)
        rw [slot, clock] at done
        exact done

/-! ### The log loaded (R164, R165, R176 step 5) -/

/-- What the start-up has made of slot `i`, given the newest copy `y` of its area. -/
def SlotLoaded (t : State) (i : Nat) (y : Slot) : Prop :=
  (y.st = .free → t.billing.slot i = {}) ∧
  (y.st = .closed ∨ y.st = .collected → t.billing.slot i = y) ∧
  (y.st = .opened →
    t.billing.slot i = recoveredImage y.record t.billing.clock.time? ∧
    waits t (.slot i (t.billing.slot i)) ∧ NoticeKind.record ∈ t.link.notices)

/-- R176: what step 5 leaves. -/
structure LogLoaded (s t : State) : Prop where
  billing : t.billing = { s.billing with slots := t.billing.slots, nextNumber := t.billing.nextNumber
                                         lastClosed := t.billing.lastClosed }
  nv : t.nv = { s.nv with queue := t.nv.queue }
  link : t.link = { s.link with notices := t.link.notices }
  power : t.power =
    { s.power with outcomes :=
        { s.power.outcomes with damaged := t.power.outcomes.damaged, recovered := t.power.outcomes.recovered } }
  frame : onlyChanges [.billing, .nv, .link, .power] s t
  slots : ∀ i, i < 24 → i < s.nv.slots.length → ∀ q y b, newest (s.nv.slots.getD i {}) = some (q, y, b) → SlotLoaded t i y

theorem loadLog_loaded (s : State) : LogLoaded s s.loadLog := by
  obtain ⟨r, hr⟩ : ∃ r, r = scanLog s.nv.slots := ⟨_, rfl⟩
  obtain ⟨bad, hbad⟩ : ∃ l, l = slotIndices.filter fun i => (r.1.getD i ({}, false)).2 := ⟨_, rfl⟩
  obtain ⟨left, hleft⟩ : ∃ l, l = slotIndices.filter fun i => (r.1.getD i ({}, false)).1.st == .opened := ⟨_, rfl⟩
  obtain ⟨u, hu⟩ : ∃ u, u = s.onBilling fun b => { b with slots := r.1.map Prod.fst, nextNumber := r.2 } := ⟨_, rfl⟩
  obtain ⟨v, hv⟩ : ∃ v, v = bad.foldl (fun s i => (s.queueSlot i false).raise .record) u := ⟨_, rfl⟩
  obtain ⟨w, hw⟩ : ∃ w, w = left.foldl recoverSlot v := ⟨_, rfl⟩
  have step : s.loadLog = w.onPower fun p =>
      { p with outcomes := { p.outcomes with damaged := bad.length, recovered := left.length } } := by
    rw [hw, hv, hu, hleft, hbad, hr]
    rfl
  have first : Scanned s u := ⟨by rw [hu]; rfl, by rw [hu]; rfl, by rw [hu]; rfl, fun k hk => by rw [hu]; exact hk,
    onlyChanges_mono (hu ▸ onBilling_frame s _)⟩
  have queued : Scanned u v ∧ v.billing = u.billing := by
    have all (l : List Nat) (x : State) :
        Scanned x (l.foldl (fun s i => (s.queueSlot i false).raise .record) x) ∧
          (l.foldl (fun s i => (s.queueSlot i false).raise .record) x).billing = x.billing := by
      induction l generalizing x with
      | nil => exact ⟨Scanned.refl x, rfl⟩
      | cons i l ih =>
        obtain ⟨rest, billing⟩ := ih ((x.queueSlot i false).raise .record)
        refine ⟨(queueSlot_scanned x i).trans rest, billing.trans ?_⟩
        rw [onlyChanges_billing (raise_frame _ _), onlyChanges_billing (queueSlot_frame x i false)]
    rw [hv]
    exact all bad u
  obtain ⟨second, sameV⟩ := queued
  obtain ⟨third, lengthW, others, here⟩ := recoverAll left (hleft ▸ (List.nodup_range).filter _) v
  rw [← hw] at third lengthW others here
  have scanned := (first.trans second).trans third
  have slotV (i : Nat) : v.billing.slot i = (r.1.getD i ({}, false)).1 := by
    rw [sameV, hu]
    show (r.1.map Prod.fst).getD i {} = _
    simp only [List.getD_eq_getElem?_getD, List.getElem?_map]
    cases r.1[i]? <;> rfl
  have lengthV : v.billing.slots.length = s.nv.slots.length := by
    rw [sameV, hu]
    show (r.1.map Prod.fst).length = _
    rw [List.length_map, hr, scanLog_length]
  rw [step]
  refine ⟨scanned.billing, scanned.nv, scanned.link, ?_, onlyChanges_trans scanned.frame (onPower_frame w _), ?_⟩
  · show ({ w.power with outcomes := { w.power.outcomes with damaged := _, recovered := _ } } : Power) = _
    rw [onlyChanges_power scanned.frame]
    rfl
  · intro i hi hl q y b good
    have read := scanLog_sound hl good
    rw [← hr] at read
    have row : v.billing.slot i = if y.st = .free then {} else y := by rw [slotV, read]
    have inLeft : i ∈ left ↔ y.st = .opened := by
      rw [hleft, List.mem_filter, read]
      by_cases free : y.st = .free
      · simp [free]
      · simp [free, slotIndices, hi]
    have clock : w.billing.clock = v.billing.clock := by rw [third.billing]
    refine ⟨fun free => ?_, fun shut => ?_, fun open_ => ?_⟩
    · show w.billing.slot i = _
      rw [(others i (by rw [inLeft, free]; simp)).1, row, if_pos free]
    · show w.billing.slot i = _
      have out : y.st ≠ .opened ∧ y.st ≠ .free := by rcases shut with h | h <;> simp [h]
      rw [(others i (mt inLeft.1 out.1)).1, row, if_neg out.2]
    · have rowY : v.billing.slot i = y := by rw [row, if_neg (by simp [open_])]
      obtain ⟨slot, waiting, record⟩ := here i (inLeft.2 open_) (by rw [lengthV]; exact hl) (by rw [rowY]; exact open_)
      rw [rowY, ← clock] at slot waiting
      refine ⟨slot, ?_, record⟩
      show waits w (.slot i (w.billing.slot i))
      rw [slot]
      exact waiting

end State

end Sys2Proof.Machine
end

section
/-! Resets and start-up: what a restart makes of the part, and how start-up completes (R173 to R176, R193). -/

-- One declaration at a time: each thread the elaborator opens takes its whole stack from the memory limit.
set_option Elab.async false

namespace Sys2Proof.Machine.State

open Safety

/-! ### A restart (R176 steps 1 to 6) -/

/-- Steps 1 to 4 and 6 of R176: the volatile state cleared, and what the NV areas other than the log's hold. -/
def reloaded (s : State) (cause : ResetCause) : State :=
  let s := s.cleared .startUp cause.clearsTime
  let set := loadSettings s.nv.settings
  let tar := loadTariff s.nv.tariff
  let mem := loadMemory s.nv.isoMemory
  let tot := loadTotals s.nv.totals
  let s := s.onPower fun p =>
    { p with
      cause := cause
      outcomes := { settingsDefaulted := set.2, tariffDefaulted := tar.2, isoLost := mem.2, totalsLost := tot.2 } }
  let s := s.useSettings set.1
  let s := s.onBilling fun b => { b with tariff := tar.1 }
  let s := s.onIso fun x => { x with memory := mem.1 }
  s.onMeter fun m => { m with totals := tot.1, totalsLost := tot.2 }

theorem load_eq (s : State) (cause : ResetCause) :
    s.load cause = (s.reloaded cause).loadLog.onBilling fun b => { b with cursor := b.located } := rfl

/-- What the areas other than the log's give. -/
theorem loaded_settings (x : Area Settings) :
    loadSettings x = (((newest x).map fun p => p.2.1).getD {}, (newest x).isNone) := by
  unfold loadSettings
  cases h : newest x <;> rfl
theorem loaded_tariff (x : Area TariffArea) :
    loadTariff x = (((newest x).map fun p => p.2.1).getD {}, (newest x).isNone) := by
  unfold loadTariff
  cases h : newest x <;> rfl
theorem loaded_totals (x : Area Totals) :
    loadTotals x = (((newest x).map fun p => p.2.1).getD {}, (newest x).isNone) := by
  unfold loadTotals
  cases h : newest x <;> rfl
theorem loaded_memory (x : Area (List Nat)) :
    loadMemory x = (((newest x).map fun p => p.2.1).getD [], (newest x).isNone) := by
  unfold loadMemory
  cases h : newest x <;> rfl

/-- R173, R174: what a reset leaves of the drives and the NV areas. -/
theorem cleared_released (s : State) (st : PartState) (clear : Bool) :
    drivesReleased s (s.cleared st clear) ∧ nvStands s (s.cleared st clear) :=
  ⟨⟨rfl, rfl, rfl, rfl, rfl, rfl, rfl, rfl, rfl, rfl, rfl, rfl, rfl, rfl⟩, ⟨rfl, rfl, rfl, rfl, rfl, rfl⟩⟩

/-- The settings that a restart takes from NV. -/
def settingsIn (s : State) : Settings := ((newest s.nv.settings).map fun p => p.2.1).getD {}

/-- R176: what the state holds before the log is loaded. -/
structure Reloaded (cause : ResetCause) (s t : State) : Prop where
  power : t.power =
    { part := .startUp, cause := cause
      outcomes :=
        { settingsDefaulted := (newest s.nv.settings).isNone, tariffDefaulted := (newest s.nv.tariff).isNone
          isoLost := (newest s.nv.isoMemory).isNone, totalsLost := (newest s.nv.totals).isNone } }
  drives : drivesReleased s t
  store : nvStands s t
  session : t.session = { lock := if s.pins.lockFb then .engaged else .notEngaged }
  link : t.link = {}
  billing : t.billing =
    { clock := if cause = .powerOn then {} else s.billing.clock
      tariff := ((newest s.nv.tariff).map fun p => p.2.1).getD {} }
  departure : t.heating.departure.count = if cause = .powerOn then 0 else s.heating.departure.count
  settings :
    t.budget.params = s.settingsIn.params ∧ t.budget.table = s.settingsIn.table ∧ t.heating.policy = s.settingsIn.policy ∧
      t.iso.params = s.settingsIn.iso ∧ t.iso.searchList = s.settingsIn.searchList ∧
      t.stage.nodes = s.settingsIn.roster.map Node.ofExpected
  totals : t.meter.totals = ((newest s.nv.totals).map fun p => p.2.1).getD {} ∧ t.meter.totalsLost = (newest s.nv.totals).isNone
  memory : t.iso.memory = ((newest s.nv.isoMemory).map fun p => p.2.1).getD []
  time : t.now = s.now ∧ t.pending = s.pending

theorem reloaded_facts (s : State) (cause : ResetCause) : Reloaded cause s (s.reloaded cause) := by
  have settings := loaded_settings s.nv.settings
  have tariff := loaded_tariff s.nv.tariff
  have totals := loaded_totals s.nv.totals
  have memory := loaded_memory s.nv.isoMemory
  obtain ⟨set, hset⟩ : ∃ x, x = loadSettings s.nv.settings := ⟨_, rfl⟩
  obtain ⟨tar, htar⟩ : ∃ x, x = loadTariff s.nv.tariff := ⟨_, rfl⟩
  obtain ⟨tot, htot⟩ : ∃ x, x = loadTotals s.nv.totals := ⟨_, rfl⟩
  obtain ⟨mem, hmem⟩ : ∃ x, x = loadMemory s.nv.isoMemory := ⟨_, rfl⟩
  have step : s.reloaded cause =
      (((((s.cleared .startUp cause.clearsTime).onPower fun p =>
        { p with
          cause := cause
          outcomes :=
            { settingsDefaulted := set.2, tariffDefaulted := tar.2, isoLost := mem.2, totalsLost := tot.2 } }).useSettings
        set.1).onBilling fun b => { b with tariff := tar.1 }).onIso fun x => { x with memory := mem.1 }).onMeter fun m =>
          { m with totals := tot.1, totalsLost := tot.2 } := by
    rw [hset, htar, htot, hmem]
    rfl
  rw [← hset] at settings
  rw [← htar] at tariff
  rw [← htot] at totals
  rw [← hmem] at memory
  rw [step, settings, tariff, totals, memory]
  refine ⟨rfl, (cleared_released s .startUp cause.clearsTime).1, (cleared_released s .startUp cause.clearsTime).2, rfl, rfl, ?_, ?_,
    ⟨rfl, rfl, rfl, rfl, rfl, rfl⟩, ⟨rfl, rfl⟩, rfl, ⟨rfl, rfl⟩⟩
  · cases cause <;> rfl
  · cases cause <;> rfl

/-- R176: a restart. -/
theorem load_restarted (s : State) (cause : ResetCause) : restarted cause s (s.load cause) := by
  have before := s.reloaded_facts cause
  obtain ⟨u, hu⟩ : ∃ u, u = s.reloaded cause := ⟨_, rfl⟩
  have log := u.loadLog_loaded
  obtain ⟨v, hv⟩ : ∃ v, v = u.loadLog := ⟨_, rfl⟩
  obtain ⟨t, ht⟩ : ∃ t, t = v.onBilling fun b => { b with cursor := b.located } := ⟨_, rfl⟩
  have step : s.load cause = t := by
    rw [ht, hv, hu, load_eq]
  rw [← hv] at log
  rw [← hu] at before
  have located : onlyChanges [.billing] v t := ht ▸ onBilling_frame v _
  have frame : onlyChanges [.billing, .nv, .link, .power] u t := onlyChanges_trans log.frame located
  have billing : t.billing = { v.billing with cursor := v.billing.located } := by rw [ht]; rfl
  have power : t.power = v.power := onlyChanges_power located
  have nv : t.nv = { u.nv with queue := v.nv.queue } := by rw [onlyChanges_nv located, log.nv]
  have link : t.link = { u.link with notices := v.link.notices } := by rw [onlyChanges_link located, log.link]
  have clock : t.billing.clock = if cause = .powerOn then {} else s.billing.clock := by
    rw [billing, log.billing, before.billing]
  obtain ⟨params, table, policy, iso, search, roster⟩ := before.settings
  obtain ⟨nvSettings, nvTariff, nvSlots, nvTotals, nvMemory, flight⟩ := before.store
  have kinds : t.stage.nodes.map Node.expected = s.settingsIn.roster := by
    rw [onlyChanges_stage frame, roster, List.map_map]
    exact List.map_id _
  rw [step]
  have part : t.power.part = .startUp ∧ t.power.cause = cause ∧ t.power.hostReset = false ∧ t.power.lastWake = .none ∧
      t.power.started = false := by
    rw [power, log.power, before.power]
    exact ⟨rfl, rfl, rfl, rfl, rfl⟩
  have outcomes : t.power.outcomes.settingsDefaulted = (newest s.nv.settings).isNone ∧
      t.power.outcomes.tariffDefaulted = (newest s.nv.tariff).isNone ∧
      t.power.outcomes.isoLost = (newest s.nv.isoMemory).isNone := by
    rw [power, log.power, before.power]
    exact ⟨rfl, rfl, rfl⟩
  have linkT : t.link.framer = .hunt ∧ t.link.requests = [] ∧ t.link.replies = [] ∧ t.link.tx = none ∧ t.link.errors = {} ∧
      t.link.on = true := by
    rw [link, before.link]
    exact ⟨rfl, rfl, rfl, rfl, rfl, rfl⟩
  have tariff : t.billing.commitPending = false ∧ t.billing.reservation = none ∧
      t.billing.tariff = ((newest s.nv.tariff).map fun p => p.2.1).getD {} := by
    rw [billing, log.billing, before.billing]
    exact ⟨rfl, rfl, rfl⟩
  obtain ⟨started, cause', hostReset, lastWake, began⟩ := part
  obtain ⟨defaulted, factory, lost⟩ := outcomes
  obtain ⟨framer, requests, replies, tx, errors, on⟩ := linkT
  obtain ⟨pending, reservation, pages⟩ := tariff
  have budget := onlyChanges_budget frame
  have isoT := onlyChanges_iso frame
  refine ⟨started, cause', hostReset, lastWake, began, ?drives, ?store, ?session, framer, requests, replies, tx, errors, on, clock,
    ?departure, pending, reservation, ⟨budget ▸ params, budget ▸ table, ?policy, isoT ▸ iso, isoT ▸ search, kinds⟩, defaulted, pages,
    factory, ?totals, ?totalsLost, ?memory, lost, ?slots, ?now, ?pending⟩
  case drives =>
    have drives := before.drives
    rw [drivesReleased, onlyChanges_pins frame, onlyChanges_stage frame]
    exact drives
  case store =>
    rw [nvStands, nv]
    exact ⟨nvSettings, nvTariff, nvSlots, nvTotals, nvMemory, flight⟩
  case session => rw [onlyChanges_session frame, before.session]
  case departure => rw [onlyChanges_heating frame, before.departure]
  case now => rw [onlyChanges_now frame, before.time.1]
  case pending => rw [onlyChanges_pending frame, before.time.2]
  case slots =>
    intro i hi hl q y b good
    have loaded := log.slots i hi (by rw [nvSlots]; exact hl) q y b (by rw [nvSlots]; exact good)
    have slot (j : Nat) : t.billing.slot j = v.billing.slot j := by rw [billing]; rfl
    have clockV : t.billing.clock = v.billing.clock := by rw [billing]
    rw [slot, clockV, waits, onlyChanges_nv located, onlyChanges_link located]
    exact loaded
  case policy => rw [onlyChanges_heating frame, policy]; rfl
  case totals => rw [onlyChanges_meter frame, before.totals.1]
  case totalsLost => rw [onlyChanges_meter frame, before.totals.2]
  case memory => rw [isoT, before.memory]

/-! ### What the session watches (R167, R200) -/

/-- The classes watched, whether the session follows them, and the lock's feedback are as they were. -/
structure Watched (s t : State) : Prop where
  following : t.session.following = s.session.following
  proxTaken : t.session.proxTaken = s.session.proxTaken
  pilotTaken : t.session.pilotTaken = s.session.pilotTaken
  watchProx : t.session.watchProx = s.session.watchProx
  watchPilot : t.session.watchPilot = s.session.watchPilot
  lockFb : t.pins.lockFb = s.pins.lockFb

namespace Watched

variable {s t u : State}

theorem refl (s : State) : Watched s s := ⟨rfl, rfl, rfl, rfl, rfl, rfl⟩

theorem trans (h : Watched s t) (k : Watched t u) : Watched s u :=
  ⟨k.following.trans h.following, k.proxTaken.trans h.proxTaken, k.pilotTaken.trans h.pilotTaken, k.watchProx.trans h.watchProx,
    k.watchPilot.trans h.watchPilot, k.lockFb.trans h.lockFb⟩

theorem of_frame {ps : List Piece} (f : onlyChanges ps s t) (hs : Piece.session ∉ ps := by decide)
    (hp : Piece.pins ∉ ps := by decide) : Watched s t := by
  refine ⟨?_, ?_, ?_, ?_, ?_, ?_⟩
  · rw [onlyChanges_session f hs]
  · rw [onlyChanges_session f hs]
  · rw [onlyChanges_session f hs]
  · rw [onlyChanges_session f hs]
  · rw [onlyChanges_session f hs]
  · rw [onlyChanges_pins f hp]

theorem ite {c : Prop} [Decidable c] (h : Watched s t) (k : Watched s u) : Watched s (if c then t else u) := by
  split
  · exact h
  · exact k

theorem doIf (h : Watched s t) {c : Bool} {f : State → State} (hf : ∀ u, Watched s u → Watched s (f u)) :
    Watched s (t.doIf c f) := by
  cases c
  · exact h
  · exact hf t h

theorem onSession (h : Watched s t) (f : Session → Session)
    (kept : (f t.session).following = t.session.following ∧ (f t.session).proxTaken = t.session.proxTaken ∧
      (f t.session).pilotTaken = t.session.pilotTaken ∧ (f t.session).watchProx = t.session.watchProx ∧
      (f t.session).watchPilot = t.session.watchPilot := by exact ⟨rfl, rfl, rfl, rfl, rfl⟩) : Watched s (t.onSession f) := by
  obtain ⟨following, proxTaken, pilotTaken, watchProx, watchPilot⟩ := kept
  exact h.trans ⟨following, proxTaken, pilotTaken, watchProx, watchPilot, rfl⟩

theorem onPins (h : Watched s t) (f : Pins → Pins) (kept : (f t.pins).lockFb = t.pins.lockFb := by exact rfl) :
    Watched s (t.onPins f) := h.trans ⟨rfl, rfl, rfl, rfl, rfl, kept⟩

theorem raise (h : Watched s t) (k : NoticeKind) : Watched s (t.raise k) := h.trans (of_frame (raise_frame t k))

theorem postBudget (h : Watched s t) (p : BudgetPosting) : Watched s (t.postBudget p) := h.trans (of_frame (postBudget_frame t p))

theorem enter (h : Watched s t) (st : SessState) : Watched s (t.enter st) :=
  h.trans (by rw [enter_eq]; exact ⟨rfl, rfl, rfl, rfl, rfl, rfl⟩)

theorem goFaulted (h : Watched s t) (k : FaultKind) : Watched s (t.goFaulted k) :=
  h.trans (by rw [goFaulted_eq]; exact ⟨rfl, rfl, rfl, rfl, rfl, rfl⟩)

theorem clearStation (h : Watched s t) : Watched s t.clearStation :=
  h.trans (by rw [clearStation_eq]; exact ⟨rfl, rfl, rfl, rfl, rfl, rfl⟩)

theorem setCauses (h : Watched s t) (c : PauseSet) : Watched s (t.setCauses c) := by
  have changed := (h.onSession fun x => { x with causes := c }).raise .session
  exact ite h (ite (changed.enter _) (ite (changed.enter _) (changed.onPins _)))

theorem isoChange (h : Watched s t) (f : Insulation → Insulation) : Watched s (t.isoChange f) := by
  have told : Watched s (t.onIso f) := h.trans (of_frame (onIso_frame t f))
  exact ite told (((told.setCauses _).postBudget _).raise _)

theorem goUnlocking (h : Watched s t) : Watched s t.goUnlocking := by
  have driven := ((h.enter .unlocking).onSession fun x =>
    { x with lock := .unlockTravel, lockTimer := some (t.enter .unlocking).now }).onPins
      fun p => { p with lockDrive := .towardReleased }
  have released := (driven.onSession fun x => { x with lock := .notEngaged, lockTimer := none }).onPins
    fun p => { p with lockDrive := .released }
  exact ite driven (ite (released.enter _) (released.enter _))

theorem afterStop (h : Watched s t) (b : Bool) : Watched s (t.afterStop b) := by
  unfold State.afterStop
  split
  · exact h.goFaulted _
  · split
    · exact h.goFaulted _
    · exact ite (h.enter _) (ite h.goUnlocking (h.enter _))

theorem stopEnd (h : Watched s t) (b : Bool) : Watched s (t.stopEnd b) := by
  have settled := ((h.onSession fun x =>
    { x with acK := x.acK.settled t.pins.kacFb, dcK := x.dcK.settled (t.pins.kdcpFb || t.pins.kdcnFb) }).onSession
      fun x => { x with openTimer := none }).onPins fun p => { p with cpLoad := false }
  have closed {u : State} (hu : Watched s u) (c : StopCause) : Watched s (u.closeRecord c false) :=
    hu.trans (of_frame (closeRecord_frame u c false))
  exact (((closed (settled.doIf fun _ hu => hu.isoChange _) _).afterStop b).postBudget _).clearStation

theorem openContactors (h : Watched s t) : Watched s t.openContactors := by
  have commanded : Watched s t.commandOpen := (h.onSession fun x =>
    { x with
      acK := x.acK.commandedOpen, dcK := x.dcK.commandedOpen
      rampTimer := none, closeTimer := none, energiseTimer := none, openTimer := some t.now }).onPins fun p =>
        { p with kacDrive := false, kdcpDrive := false, kdcnDrive := false }
  exact commanded.doIf fun _ hu => hu.stopEnd false

theorem beginStop (h : Watched s t) (c : StopCause) : Watched s (t.beginStop c) :=
  ite ((h.onSession _).enter _).openContactors (((h.onSession _).enter _).onSession _)

/-- R5: the temperatures taken, and the stop of a session that draws or energises. -/
theorem takeTemperatures (s : State) : Watched s s.takeTemperatures := by
  have taken : Watched s s.temperaturesTaken := ⟨rfl, rfl, rfl, rfl, rfl, rfl⟩
  rw [takeTemperatures_eq, doIf_eq]
  split_ifs with stops
  · have charging : s.temperaturesTaken.session.st = .energising ∨ s.temperaturesTaken.session.st = .active ∨
        s.temperaturesTaken.session.st = .paused := by
      simp only [Bool.and_eq_true, Bool.or_eq_true, drawing, beq_iff_eq] at stops
      obtain ⟨-, (h | h) | h⟩ := stops
      · exact .inr (.inl h)
      · exact .inr (.inr h)
      · exact .inl h
    rw [takeStop_charging charging]
    exact taken.beginStop _
  · exact taken

end Watched

/-! ### The first move (R29) -/

theorem holdProx_pins (s : State) (c : PlugClass) : (s.holdProx c).pins = s.pins := by
  show (State.doIf _ _ _).pins = _
  rw [onlyChanges_pins (onlyChanges_doIf (raise_frame _ _))]
  rfl

theorem holdPilot_pins (s : State) (c : PilotClass) (d : Nat) : (s.holdPilot c d).pins = s.pins := by
  show (State.doIf _ _ _).pins = _
  rw [onlyChanges_pins (onlyChanges_doIf (raise_frame _ _))]
  rfl

/-- R29: with the plug present and the lock engaged the first move is to AUTHORISING, and without a pilot on to UNLOCKING. -/
theorem firstMove_state {s : State} (present : s.session.prox.present = true) (locked : s.pins.lockFb = true) :
    s.firstMove.session.st = if s.session.pilot = .absent then .unlocking else .authorising := by
  obtain ⟨u, hu⟩ : ∃ u, u = (s.onSession fun x => { x with lock := .engaged }).enter .authorising := ⟨_, rfl⟩
  have entered : u.session.st = .authorising ∧ u.pins.lockFb = true ∧ u.session.pilot = s.session.pilot := by
    rw [hu, enter_eq]
    exact ⟨rfl, locked, rfl⟩
  obtain ⟨here, feedback, pilot⟩ := entered
  have moved : s.firstMove = if u.session.pilot = .absent then u.takeStop .cableLost else u := by
    rw [firstMove, if_pos locked, if_pos (show (s.onSession fun x => { x with lock := .engaged }).session.prox.present = true from present),
      if_pos (show (s.onSession fun x => { x with lock := .engaged }).pins.lockFb = true from locked), hu]
  rw [moved, pilot]
  split
  · rw [takeStop_unlocks (.inl here), goUnlocking_driven feedback]
  · exact here

/-- R29: a session whose classes were both taken makes its first move on them. -/
theorem actOnInputs_first {s : State} (idle : s.session.following = false) (prox : s.session.proxTaken = true)
    (pilot : s.session.pilotTaken = true) (present : s.session.watchProx.present = true) (locked : s.pins.lockFb = true) :
    s.actOnInputs.session.st = if s.session.watchPilot = .absent then .unlocking else .authorising := by
  have watched := Watched.takeTemperatures s
  obtain ⟨u, hu⟩ : ∃ u, u = s.takeTemperatures := ⟨_, rfl⟩
  rw [← hu] at watched
  obtain ⟨v, hv⟩ : ∃ v, v = u.doIf u.session.proxTaken fun s => s.holdProx s.session.watchProx := ⟨_, rfl⟩
  obtain ⟨heldProx, heldProxPins⟩ : v.session = { u.session with prox := s.session.watchProx } ∧ v.pins = u.pins := by
    rw [hv, watched.proxTaken, prox, ← watched.watchProx]
    exact ⟨holdProx_session _ _, holdProx_pins _ _⟩
  have ready : v.session.pilotTaken = true := by
    rw [heldProx]
    exact watched.pilotTaken.trans pilot
  obtain ⟨w, hw⟩ : ∃ w, w = v.doIf v.session.pilotTaken fun s => s.holdPilot s.session.watchPilot s.session.watchDuty :=
    ⟨_, rfl⟩
  obtain ⟨heldPilot, heldPins⟩ : w.session = { v.session with pilot := v.session.watchPilot, duty := v.session.watchDuty } ∧
      w.pins.lockFb = true := by
    rw [hw, ready]
    exact ⟨holdPilot_session _ _ _, by rw [State.doIf, if_pos rfl, holdPilot_pins, heldProxPins, watched.lockFb, locked]⟩
  have taken : s.actOnInputs = w.tryFollow := by
    rw [actOnInputs, ← hu, if_neg (by simp [watched.following, idle]), hw, hv]
  have follows : w.tryFollow = (w.onSession fun x => { x with following := true }).firstMove := by
    rw [tryFollow, doIf_eq, if_pos]
    simp [heldPilot, heldProx, watched.following, watched.proxTaken, watched.pilotTaken, idle, prox, pilot]
  have classes : w.session.prox = s.session.watchProx ∧ w.session.pilot = s.session.watchPilot := by
    rw [heldPilot, heldProx]
    exact ⟨rfl, watched.watchPilot⟩
  rw [taken, follows, firstMove_state (s := w.onSession fun x => { x with following := true })
    (by rw [show (w.onSession fun x => { x with following := true }).session.prox = w.session.prox from rfl, classes.1]; exact present)
    heldPins]
  rw [← classes.2]
  rfl

end Sys2Proof.Machine.State
end

section
/-! Start-up completes, and what each reset request, line and supply does (R173 to R176, R193). -/

-- One declaration at a time: each thread the elaborator opens takes its whole stack from the memory limit.
set_option Elab.async false

namespace Sys2Proof.Machine.State

open Safety

theorem Watched.evalBudget (s : State) : Watched s s.evalBudget := by
  unfold State.evalBudget State.postOutputs
  dsimp only
  have drawn (u : State) (e : EvalRecord) : Watched u (u.takeDraw e) := by
    unfold State.takeDraw
    split
    · exact ((Watched.refl _).onSession _).setCauses _
    · exact (Watched.refl _).onSession _
  refine Watched.trans ?_ (.of_frame (setpointWaitCheck_frame _).1)
  refine Watched.trans ?_ (drawn _ _)
  refine Watched.trans ?_ (.of_frame (writeSetpoint_frame _ 3 _))
  refine Watched.trans ?_ (.of_frame (writeSetpoint_frame _ 2 _))
  refine Watched.trans ?_ (.of_frame (writeSetpoint_frame _ 1 _))
  exact (Watched.of_frame (onBudget_frame s _)).trans (.of_frame (postHeat_frame _ _))

/-- Start-up completed, before the session takes its inputs (R176 step 7). -/
def started (s : State) : State :=
  (s.onPower fun p => { p with part := .run, started := true, lastWake := .none }).stageStart.relocate.heatStart.meterStart.budgetStart

theorem completeStartUp_eq (s : State) : s.completeStartUp = s.started.actOnInputs.raise .part := rfl

/-- What the completion of start-up has set before the session takes its inputs (R37, R63, R127, R130, R176). -/
structure Started (s t : State) : Prop where
  power : t.power = { s.power with part := .run, started := true, lastWake := .none }
  supplyOn : t.stage.supplyOn = true
  recallTimer : t.stage.recallTimer = some s.now
  rollCalls : ∀ a ∈ addresses, (s.node a).expected ≠ .none → (⟨.rollCall, a⟩ : StageEntry) ∈ t.stage.normal
  meter : t.meter.period = some s.now
  heatPeriod : t.heating.heatPeriod = some s.now
  budget : t.budget.period = some s.now
  last : t.budget.last = evaluate s.budget.input s.budget.params s.budget.table
  billing : t.billing = { s.billing with cursor := s.billing.located }
  watched : Watched s t

/-- The periods that start with start-up's completion (R37, R63, R130), the cursor relocated (R143). -/
def periodsStarted (s : State) : State :=
  s.relocate.heatStart.meterStart.onBudget fun b => { b with period := some s.relocate.heatStart.meterStart.now }

/-- R63, R77: the heating controller's periods and postings at the completion of start-up. -/
theorem heatStart_eq (s : State) : ∃ l, s.heatStart =
    { s with
      heating := { s.heating with
        heatPeriod := some s.now, onTick := some s.now
        departure := { s.heating.departure with window := s.heating.departure.windowNow } }
      budgetIn := l } := by
  simp only [heatStart, postBudget, onHeating]
  exact ⟨_, rfl⟩

theorem periodsStarted_eq (s : State) : ∃ l, s.periodsStarted =
    { s with
      heating := { s.heating with
        heatPeriod := some s.now, onTick := some s.now
        departure := { s.heating.departure with window := s.heating.departure.windowNow } }
      meter := { s.meter with period := some s.now }
      budget := { s.budget with period := some s.now }
      billing := { s.billing with cursor := s.billing.located }
      budgetIn := l } := by
  obtain ⟨l, h⟩ := heatStart_eq s.relocate
  refine ⟨l, ?_⟩
  rw [periodsStarted, h]
  rfl

theorem started_facts (s : State) : Started s s.started := by
  obtain ⟨r, hr⟩ : ∃ r, r = s.onPower fun p => { p with part := .run, started := true, lastWake := .none } := ⟨_, rfl⟩
  obtain ⟨a, ha⟩ : ∃ a, a = r.onStage fun g => { g with supplyOn := true, recallTimer := some r.now } := ⟨_, rfl⟩
  obtain ⟨b, hb⟩ : ∃ b, b = (((a.heatConfigure (a.stage.nodes.map Node.expected)).postCharger 1).postCharger 2).postCharger 3 :=
    ⟨_, rfl⟩
  obtain ⟨c, hc⟩ : ∃ c, c = b.fullRollCall := ⟨_, rfl⟩
  obtain ⟨d, hd⟩ : ∃ d, d = c.periodsStarted := ⟨_, rfl⟩
  have stage : r.stageStart = c := by
    rw [stageStart, ← ha, ← hb, ← hc]
  have step : s.started = d.evalBudget := by
    rw [started, ← hr, stage, hd, periodsStarted, budgetStart]
  have heated : Heated a b := by
    rw [hb]
    exact (((heatConfigure_heated a _).trans (postCharger_heated _ 1)).trans (postCharger_heated _ 2)).trans (postCharger_heated _ 3)
  have calledFrame : onlyChanges [.stage] b c := by
    rw [hc]
    exact rollCallFor_frame _ _
  have called := rollCallFor_outlying (addresses.filter fun a => (b.node a).expected != .none) b
  rw [← fullRollCall, ← hc] at called
  obtain ⟨l, hl⟩ := periodsStarted_eq c
  rw [← hd] at hl
  have eval := Outlying.evalBudget d
  obtain ⟨⟨last, -, -, -, -, frame⟩, input, params, table, period⟩ := evalBudget_evaluated d
  have watch := Watched.evalBudget d
  obtain ⟨e, he⟩ : ∃ e, e = d.evalBudget := ⟨_, rfl⟩
  rw [← he] at step eval last input params table period frame watch
  have now : c.now = s.now := by
    rw [called.now, onlyChanges_now heated.frame, ha, hr]
    rfl
  have budget : c.budget = s.budget := by
    rw [onlyChanges_budget calledFrame, onlyChanges_budget heated.frame, ha, hr]
    rfl
  have budgetD : d.budget = { s.budget with period := some s.now } := by
    rw [hl]
    show ({ c.budget with period := some c.now } : Budget) = _
    rw [budget, now]
  have stageD : d.stage = c.stage := by rw [hl]
  have onwards : Watched s c := by
    have first : Watched s a := by
      rw [ha, hr]
      exact ⟨rfl, rfl, rfl, rfl, rfl, rfl⟩
    exact (first.trans (.of_frame heated.frame)).trans (.of_frame calledFrame)
  rw [step]
  refine ⟨?power, ?supplyOn, ?recallTimer, fun n hn expected => ?rollCalls, ?meter, ?heatPeriod, ?budget, ?last, ?billing, ?watched⟩
  case power =>
    rw [eval.power, hl]
    show c.power = _
    rw [called.power, onlyChanges_power heated.frame, ha, hr]
    rfl
  case supplyOn =>
    rw [eval.stage, stageD, called.stage, heated.commands.stage, ha, hr]
    rfl
  case recallTimer =>
    rw [eval.stage, stageD, called.stage, heated.commands.stage, ha, hr]
    rfl
  case rollCalls =>
    refine eval.normal.subset ?_
    rw [stageD, hc]
    have node : (b.node n).expected = (s.node n).expected := by
      obtain ⟨w, hw⟩ := heated.commands.rows n
      rw [hw, ha, hr]
      rfl
    exact rollCallFor_mem _ b (.inl (List.mem_filter.2 ⟨hn, by rw [node]; simpa using expected⟩))
  case meter =>
    rw [eval.meter, hl]
    show some c.now = _
    rw [now]
  case heatPeriod =>
    rw [eval.heating, hl]
    show some c.now = _
    rw [now]
  case budget => rw [period, budgetD]
  case last => rw [last, input, params, table, budgetD]
  case billing =>
    have kept : c.billing = s.billing := by
      rw [onlyChanges_billing calledFrame, onlyChanges_billing heated.frame, ha, hr]
      rfl
    rw [onlyChanges_billing frame, hl, kept]
  case watched =>
    refine (onwards.trans ?_).trans watch
    rw [hl]
    exact ⟨rfl, rfl, rfl, rfl, rfl, rfl⟩

/-- R175: the session's part of a RESET request. -/
def resetAsked (s : State) : State := s.onPower fun p => { p with hostReset := true, resetAcked := false }

/-- R193: a state with the reply that the host reset waits for. -/
def resetPlaced (s : State) (tag : Byte) : State :=
  s.onLink fun l => { l with replies := l.replies ++ [⟨0x83, tag, [byte Status.ok.code], .resetAck⟩] }

theorem stopDone_resetPlaced {cause : Option StopCause} {fault : Option FaultKind} {s t : State} (h : stopDone cause fault s t)
    (tag : Byte) : stopDone cause fault s (t.resetPlaced tag) := by
  simp only [stopDone] at h ⊢
  obtain ⟨kept, driven, reached, faulted, acK, dcK, openTimer, ramp, station, phases, absent, cause', load, kac, kdcp, kdcn, iso,
    closed, frame⟩ := h
  exact ⟨kept, driven, reached, faulted, acK, dcK, openTimer, ramp, station, phases, absent, cause', load, kac, kdcp, kdcn, iso,
    recordClosed_of closed rfl rfl rfl rfl rfl fun _ h => h, onlyChanges_trans frame (onLink_frame _ _)⟩

theorem load_resetLine (s : State) (cause : ResetCause) : (s.load cause).pins.resetLine = s.pins.resetLine := by
  rw [load_eq]
  show (s.reloaded cause).loadLog.pins.resetLine = _
  rw [onlyChanges_pins (loadLog_loaded _).frame]
  rfl

theorem exec_reset {s : State} {tag : Byte} (h : mayServe s) {t : State}
    (stopped : (s.resetAsked.doIf (s.resetAsked.session.st == .energising || s.resetAsked.session.st == .active ||
      s.resetAsked.session.st == .paused) fun s => s.takeStop .hostReset) = t) :
    exec (.reset tag) s = .next (t.resetPlaced tag) := by
  rw [← stopped]
  exact exec_served (c := .reset tag) h rfl

end Sys2Proof.Machine.State

namespace Sys2Proof.Proofs

open Machine Safety

/-- R175: a RESET in a charging session begins its stop. -/
theorem reset_charging {s : State} {tag : Byte} (h : mayServe s)
    (hs : s.session.st = .energising ∨ s.session.st = .active ∨ s.session.st = .paused) :
    exec (.reset tag) s = .next ((s.resetAsked.beginStop .hostReset).resetPlaced tag) := by
  refine State.exec_reset h ?_
  have charging : s.resetAsked.session.st = .energising ∨ s.resetAsked.session.st = .active ∨ s.resetAsked.session.st = .paused := hs
  rw [← State.takeStop_charging charging]
  rcases charging with hs | hs | hs <;> simp [State.doIf, hs]

/-- R176: a start-up that does not complete is its loads. -/
theorem exec_startUp {s t : State} (loaded : s.startLoad = t) : exec (.startUp false) s = .next t := by
  show Host.Outcome.next (s.startUpSeq false) = _
  rw [State.startUpSeq, loaded]
  rfl

theorem exec_startUp_stays {s : State} (part : s.power.part ≠ .startUp) (stays : s.startLoad = s) (b : Bool) :
    exec (.startUp b) s = .next s := by
  show Host.Outcome.next (s.startUpSeq b) = _
  rw [State.startUpSeq, stays, State.doIf_eq, if_neg (by simp [part])]

/-- R176: start-up in a part that is already starting. -/
theorem startUp_completes {s : State} (starting : s.power.part = .startUp) :
    exec (.startUp false) s = .next s ∧ exec (.startUp true) s = .next s.completeStartUp := by
  have stays : s.startLoad = s := by rw [State.startLoad, starting]
  refine ⟨exec_startUp stays, ?_⟩
  show Host.Outcome.next (s.startUpSeq true) = _
  rw [State.startUpSeq, stays, State.doIf_eq, if_pos (by simp [starting])]

/-- R175, R193: what a pending host reset waits for. -/
theorem resetReady_iff (s : State) : s.resetReady = true ↔
    s.power.part = .run ∧ s.power.hostReset = true ∧ s.billing.openSlot = none ∧
      (s.nv.queue = [] ∧ s.nv.inFlight = none ∧ s.nv.deferred = none) ∧ s.power.resetAcked = true ∧
      s.link.replies = [] ∧ ∀ f, s.link.tx = some f → f.notice = true := by
  have sent : s.repliesSent = true ↔ s.link.replies = [] ∧ ∀ f, s.link.tx = some f → f.notice = true := by
    unfold State.repliesSent
    cases htx : s.link.tx <;> simp
  rw [State.resetReady, Bool.and_eq_true, sent]
  simp [State.inRun, State.nvIdle, and_assoc]

/-- R29, R37, R63, R127, R130, R143, R176: what the completion of start-up leaves. -/
theorem completeStartUp_facts (s : State) :
    let t := s.completeStartUp
    t.power = { s.power with part := .run, started := true, lastWake := .none } ∧
      t.stage.supplyOn = true ∧ t.stage.recallTimer = some s.now ∧
      (∀ a ∈ addresses, (s.node a).expected ≠ .none → (⟨.rollCall, a⟩ : StageEntry) ∈ t.stage.normal) ∧
      t.meter.period = some s.now ∧ t.budget.period = some s.now ∧ t.heating.heatPeriod = some s.now ∧
      t.budget.last = evaluate s.budget.input s.budget.params s.budget.table ∧
      (s.billing.openSlot = none → t.billing.cursor = s.billing.located) ∧ NoticeKind.part ∈ t.link.notices ∧
      (s.session.following = false → s.session.proxTaken = true → s.session.pilotTaken = true →
        s.session.watchProx.present = true → s.pins.lockFb = true →
        t.session.st = if s.session.watchPilot = .absent then .unlocking else .authorising) := by
  have first := State.started_facts s
  have moved := ((Steered.refl s.started).actOnInputs).raise .part
  have move (idle prox pilot present locked) := State.actOnInputs_first (s := s.started) idle prox pilot present locked
  obtain ⟨following, proxTaken, pilotTaken, watchProx, watchPilot, lockFb⟩ := first.watched
  rw [following, proxTaken, pilotTaken, watchProx, watchPilot, lockFb] at move
  have raised := onlyChanges_session (State.raise_frame s.started.actOnInputs .part)
  have stage := onlyChanges_stage moved.frame
  have budget := onlyChanges_budget moved.frame
  rw [State.completeStartUp_eq]
  refine ⟨(onlyChanges_power moved.frame).trans first.power, by rw [stage, first.supplyOn], by rw [stage, first.recallTimer],
    by rw [stage]; exact first.rollCalls, by rw [moved.meter, first.meter], by rw [budget, first.budget],
    by rw [moved.heating, first.heatPeriod], by rw [budget, first.last], fun shut => ?_, ?_, fun idle prox pilot present locked => ?_⟩
  · have none : s.started.billing.openSlot = none := by
      rw [first.billing]
      exact shut
    rw [moved.shut none, first.billing]
  · rw [State.raise_notices]
    split
    · assumption
    · simp
  · rw [raised]
    exact move idle prox pilot present locked

/-- Settles O58, by the reset that clears the part, the load that fills it and the completion that starts its periods. -/
theorem resetsAndStartUp : Obligations.ResetsAndStartUp := by
  unfold Obligations.ResetsAndStartUp
  intro s
  refine ⟨fun tag h => ⟨fun hs => ?idle, fun hs ho => ?begun, fun hs ho => ?ended⟩, fun h => ?waits, fun h => ?goes,
    fun off => ?lineOff, fun on => ?held, ?failed, fun off => ?powerOn, fun line => ?release, fun hold due quiet => ?dip,
    fun hold h b => ?waitsDip, fun run b => ?running, fun starting => ?completes⟩
  case idle =>
    refine State.exec_reset (t := s.resetAsked) h ?_
    rw [State.doIf_eq, if_neg]
    · have (st : SessState) (hst : st ∈ [.energising, .active, .paused]) : s.resetAsked.session.st ≠ st := fun e => hs (e ▸ hst)
      simp [this]
  case begun =>
    have charging : s.session.st = .energising ∨ s.session.st = .active ∨ s.session.st = .paused := by simpa using hs
    refine ⟨_, reset_charging h charging, ?_⟩
    by_cases ramp : s.session.st ≠ .energising ∧ 10 ≤ s.inletCurrent
    · rw [State.beginStop_ramp (s := s.resetAsked) rfl ramp.1 ramp.2]
      simp [State.resetPlaced, State.resetAsked, State.stopBegun, State.onSession, State.onLink, State.onPower, noticed, onlyChanges]
    · have atOnce : s.session.st = .energising ∨ s.inletCurrent < 10 := by
        by_contra none
        exact ramp ⟨fun e => none (.inl e), by omega⟩
      rw [State.beginStop_waiting (s := s.resetAsked) (.inr atOnce) ho, State.commandOpen_eq]
      simp [State.resetPlaced, State.resetAsked, State.stopBegun, State.onLink, State.onPower, noticed, onlyChanges]
  case ended =>
    obtain ⟨done, onward⟩ := State.beginStop_done (s := s.resetAsked) (k := .hostReset) h.1 (.inr (.inl hs)) ho
    refine ⟨_, reset_charging h (.inl hs), State.stopDone_resetPlaced done tag, ?_⟩
    have replies := onward.replies
    simp only [State.resetPlaced, State.onLink, replies]
    rfl
  case waits =>
    show Host.Outcome.next s.hostResetGo = _
    rw [State.hostResetGo, State.doIf_eq, if_neg (mt (resetReady_iff s).1 h)]
  case goes =>
    refine ⟨_, ?_, State.load_restarted s .hostRequest⟩
    show Host.Outcome.next s.hostResetGo = _
    rw [State.hostResetGo, State.doIf_eq, if_pos ((resetReady_iff s).2 h)]
  case lineOff =>
    show Host.Outcome.next s.holdReset = _
    exact congrArg _ (if_pos off)
  case held =>
    obtain ⟨drives, nv⟩ := State.cleared_released (s.onPins fun p => { p with resetLine := true }) .heldInReset false
    exact ⟨_, congrArg Host.Outcome.next (if_neg on), rfl, rfl, drives, nv, rfl, rfl, rfl, rfl, rfl⟩
  case failed =>
    obtain ⟨drives, nv⟩ := State.cleared_released s .off true
    exact ⟨_, rfl, rfl, nv, drives⟩
  case powerOn =>
    refine ⟨_, exec_startUp (t := (s.onPins fun p => { p with resetLine := false }).load .powerOn) ?_, ?_⟩
    · rw [State.startLoad, off]
    · exact State.load_restarted (s.onPins fun p => { p with resetLine := false }) .powerOn
  case release =>
    have after := State.load_restarted (s.onPins fun p => { p with resetLine := false }) .resetLine
    refine ⟨_, exec_startUp (t := (s.onPins fun p => { p with resetLine := false }).load .resetLine) ?_, after, ?_⟩
    · rw [State.startLoad, line]
    · exact State.load_resetLine _ _
  case dip =>
    obtain ⟨queue, inFlight, deferred⟩ := quiet
    refine ⟨_, exec_startUp (t := s.load .supplyDip) ?_, State.load_restarted s .supplyDip⟩
    rw [State.startLoad, hold]
    show State.doIf _ _ _ = _
    rw [State.doIf_eq, if_pos (by simp [due, State.nvIdle, queue, inFlight, deferred])]
  case waitsDip =>
    refine exec_startUp_stays (by simp [hold]) ?_ b
    rw [State.startLoad, hold]
    show State.doIf _ _ _ = _
    rw [State.doIf_eq, if_neg]
    rcases h with due | busy
    · simp [due]
    · simpa [State.nvIdle, and_assoc] using fun _ a b c => busy ⟨a, b, c⟩
  case running =>
    have part : s.power.part = .run ∨ s.power.part = .standby ∨ s.power.part = .sleep := by simpa using run
    refine exec_startUp_stays (by rcases part with h | h | h <;> simp [h]) ?_ b
    rcases part with h | h | h <;> rw [State.startLoad, h]
  case completes =>
    obtain ⟨stays, goes⟩ := startUp_completes starting
    exact ⟨stays, _, goes, completeStartUp_facts s⟩

end Sys2Proof.Proofs
end

section
/-! The end of an injection period: the profile, the grading, and what a result does to a search (R81 to R90, R98, R100). -/

-- One declaration at a time: each thread the elaborator opens takes its whole stack from the memory limit.
set_option Elab.async false

namespace Sys2Proof.Machine

open Safety

/-! ### The profile (R83, R84) -/

theorem Profile.slower_ne {p : Profile} (h : p ≠ .p3) : p.slower ≠ p := by
  cases p <;> simp_all [Profile.slower]

theorem Profile.faster_ne {p : Profile} (h : p ≠ .p0) : p.faster ≠ p := by
  cases p <;> simp_all [Profile.faster]

namespace Insulation

variable {x : Insulation}

theorem useProfile_profile (x : Insulation) (p : Profile) (now : Nat) :
    x.useProfile p now = { x with profile := p, period := (x.useProfile p now).period } := by
  unfold useProfile
  split
  · next h => rw [h]
  · rfl

/-- What the profile rules of a settled period leave alone. -/
theorem profileSettled_eq (x : Insulation) (now : Nat) :
    x.profileSettled now =
      { x with
        profile := (x.profileSettled now).profile, period := (x.profileSettled now).period
        streaks := { x.streaks with
          settled := (x.profileSettled now).streaks.settled, p3Unsettled := (x.profileSettled now).streaks.p3Unsettled } } := by
  unfold profileSettled
  dsimp only
  split_ifs
  · rfl
  · rfl
  · rw [useProfile_profile]
  · rfl

theorem profileSettled_fixed (h : x.params.profMode = .fixed) (now : Nat) : x.profileSettled now = x := if_pos h

theorem profileSettled_auto (h : x.params.profMode = .auto) (now : Nat) :
    (x.profileSettled now).streaks.p3Unsettled = 0 ∧
      (16 ≤ x.streaks.settled + 1 ∧ x.profile ≠ .p0 →
        (x.profileSettled now).profile = x.profile.faster ∧ (x.profileSettled now).streaks.settled = 0) ∧
      (x.streaks.settled + 1 < 16 ∨ x.profile = .p0 →
        (x.profileSettled now).profile = x.profile ∧
          (x.profileSettled now).streaks.settled = min 16 (x.streaks.settled + 1)) := by
  unfold profileSettled
  rw [if_neg (by simp [h])]
  dsimp only
  split_ifs with slowest full
  · simp [slowest]
  · rw [useProfile_profile]
    simp [slowest, Nat.not_lt.2 full]
  · simp only [true_and]
    exact ⟨fun g => absurd g.1 full, fun _ => by omega⟩

theorem profileUnsettled_fixed (h : x.params.profMode = .fixed) (now : Nat) :
    x.profileUnsettled now = { x with streaks := { x.streaks with settled := 0 } } := if_pos h

theorem profileUnsettled_slower (h : x.params.profMode = .auto) (hp : x.profile ≠ .p3) (now : Nat) :
    ∃ period, x.profileUnsettled now =
      { x with streaks := { x.streaks with settled := 0 }, profile := x.profile.slower, period := period } := by
  rw [profileUnsettled, if_neg (by simp [h]), if_neg hp]
  exact ⟨_, useProfile_profile _ _ _⟩

theorem profileUnsettled_waits (h : x.params.profMode = .auto) (hp : x.profile = .p3) (hn : x.streaks.p3Unsettled + 1 < 3) (now : Nat) :
    x.profileUnsettled now = { x with streaks := { x.streaks with settled := 0, p3Unsettled := x.streaks.p3Unsettled + 1 } } := by
  rw [profileUnsettled, if_neg (by simp [h]), if_pos hp, if_neg (by omega)]

theorem profileUnsettled_third (h : x.params.profMode = .auto) (hp : x.profile = .p3) (hn : 3 ≤ x.streaks.p3Unsettled + 1) (now : Nat) :
    x.profileUnsettled now =
      if x.st ≠ .searching ∧ (x.assess ≠ .unknown ∨ x.source ≠ .own) then
        { x with assess := .unknown, source := .own, streaks := {} }
      else { x with streaks := { x.streaks with settled := 0, p3Unsettled := 0 } } := by
  rw [profileUnsettled, if_neg (by simp [h]), if_pos hp, if_pos hn]

end Insulation

/-! ### What a stop and a search leave of the monitor's record -/

/-- The parameters, the profile in use, the working thresholds, the assessment and the profile counters stand, and the result
but for its EXTERNAL flag. -/
structure Steady (x y : Insulation) : Prop where
  params : y.params = x.params
  profile : y.profile = x.profile
  working : y.working = x.working
  assess : y.assess = x.assess
  source : y.source = x.source
  last : ∀ r, x.last = some r → ∃ ext, y.last = some { r with external := ext }
  streaks : y.streaks = x.streaks ∨ y.streaks = x.streaks.profileOnly

/-- A search that has begun has also kept its origin and an outcome. -/
structure Sought (x y : Insulation) : Prop extends Steady x y where
  origin : y.search.origin = x.search.origin
  outcome : x.search.outcome ≠ .none → y.search.outcome ≠ .none

namespace Steady

variable {x y z : Insulation}

theorem refl (x : Insulation) : Steady x x := ⟨rfl, rfl, rfl, rfl, rfl, fun r h => ⟨r.external, h⟩, .inl rfl⟩

theorem trans (h : Steady x y) (k : Steady y z) : Steady x z where
  params := k.params.trans h.params
  profile := k.profile.trans h.profile
  working := k.working.trans h.working
  assess := k.assess.trans h.assess
  source := k.source.trans h.source
  last r hr := by
    obtain ⟨e, he⟩ := h.last r hr
    obtain ⟨e', he'⟩ := k.last _ he
    exact ⟨e', he'⟩
  streaks := by
    rcases h.streaks with a | a <;> rcases k.streaks with b | b <;> simp [b, a, Streaks.profileOnly]

theorem settled (h : Steady x y) : y.streaks.settled = x.streaks.settled := by
  rcases h.streaks with a | a <;> simp [a, Streaks.profileOnly]

theorem cleared (h : Steady x y) (hx : x.streaks = {}) : y.streaks = {} := by
  rcases h.streaks with a | a <;> simp [a, hx, Streaks.profileOnly]

end Steady

namespace Sought

variable {x y z : Insulation}

theorem refl (x : Insulation) : Sought x x := ⟨.refl x, rfl, id⟩

theorem trans (h : Sought x y) (k : Sought y z) : Sought x z :=
  ⟨h.toSteady.trans k.toSteady, k.origin.trans h.origin, fun o => k.outcome (h.outcome o)⟩

theorem search {q : Search} (origin : q.origin = x.search.origin) (outcome : x.search.outcome ≠ .none → q.outcome ≠ .none) :
    Sought x { x with search := q } := ⟨⟨rfl, rfl, rfl, rfl, rfl, fun r h => ⟨r.external, h⟩, .inl rfl⟩, origin, outcome⟩

theorem yielded (x : Insulation) : Sought x x.yielded :=
  ⟨⟨rfl, rfl, rfl, rfl, rfl, fun r h => ⟨true, by simp [Insulation.yielded, h]⟩, .inl rfl⟩, rfl, id⟩

theorem dcOpened (x : Insulation) (now : Nat) : Sought x (x.dcOpened now) := by
  unfold Insulation.dcOpened
  cases x.st <;> exact ⟨⟨rfl, rfl, rfl, rfl, rfl, fun r h => ⟨r.external, h⟩, .inl rfl⟩, rfl, id⟩

theorem searchOver (x : Insulation) {o : SearchOutcome} (ho : o ≠ .none) (a : Option AbortCause) (c : Option Nat) :
    Sought x (x.searchOver o a c) :=
  ⟨⟨rfl, rfl, rfl, rfl, rfl, fun r h => ⟨r.external, h⟩, .inr rfl⟩, rfl, fun _ => ho⟩

theorem afterSearch (x : Insulation) : Sought x x.afterSearch := by
  unfold Insulation.afterSearch
  split
  · exact yielded x
  · exact ⟨⟨rfl, rfl, rfl, rfl, rfl, fun r h => ⟨r.external, h⟩, .inl rfl⟩, rfl, id⟩

end Sought

namespace State

variable {s : State}

/-! ### Stops (R20 to R23, R93) -/

theorem openContactors_iso (hs : s.session.st = .stopping) :
    s.openContactors.iso = s.iso ∨ s.openContactors.iso = s.iso.dcOpened s.now := by
  rw [openContactors, openingCheck, doIf_eq]
  split
  · obtain ⟨-, -, -, -, -, -, -, -, -, -, iso, -⟩ := stopEnd_facts s.commandOpen (by rw [commandOpen_eq]; exact hs) false
    rw [iso, commandOpen_eq]
    split
    · exact .inr rfl
    · exact .inl rfl
  · rw [commandOpen_eq]
    exact .inl rfl

theorem beginStop_iso (s : State) (k : StopCause) :
    (s.beginStop k).iso = s.iso ∨ (s.beginStop k).iso = s.iso.dcOpened s.now := by
  rw [beginStop_eq]
  split
  · exact openContactors_iso (s := s.stopBegun k) rfl
  · exact .inl rfl

theorem goUnlocking_iso (s : State) : s.goUnlocking.iso = s.iso := by
  cases h : s.pins.lockFb
  · rw [goUnlocking_reached h]
    rfl
  · rw [goUnlocking_driven h]
    rfl

/-- R93: a stop that ends at once tells the monitor that the DC contactors are open, and moves nothing else of it. -/
theorem takeStop_iso (s : State) (k : StopCause) :
    (s.takeStop k).iso = s.iso ∨ (s.takeStop k).iso = s.iso.dcOpened s.now := by
  unfold takeStop
  cases hs : s.session.st <;> dsimp only
  case energising => exact beginStop_iso s k
  case active => exact beginStop_iso s k
  case paused => exact beginStop_iso s k
  case stopping =>
    split_ifs
    · exact openContactors_iso (s := s.onSession fun x => { x with stopCause := some k }) hs
    · exact .inl rfl
    · exact .inl rfl
  case locking =>
    rw [doIf_eq]
    split <;> exact .inl rfl
  case authorising =>
    rw [doIf_eq]
    split
    · exact .inl (goUnlocking_iso s)
    · exact .inl rfl
  case finished =>
    rw [doIf_eq]
    split
    · exact .inl (goUnlocking_iso s)
    · exact .inl rfl
  all_goals exact .inl rfl

theorem takeStop_sought (s : State) (k : StopCause) : Sought s.iso (s.takeStop k).iso := by
  rcases takeStop_iso s k with h | h
  · rw [h]
    exact .refl _
  · rw [h]
    exact .dcOpened _ _

/-- R20, R90: with a contact closed, a stop of a charging session is in STOPPING with its cause, and SEARCH_HOLD as it stood. -/
theorem takeStop_stopping (hs : s.session.st = .energising ∨ s.session.st = .active ∨ s.session.st = .paused) (closed : ¬ contactsOpen s)
    (k : StopCause) :
    (s.takeStop k).session.st = .stopping ∧ (s.takeStop k).session.stopCause = some k ∧
      (s.takeStop k).session.causes.searchHold = s.session.causes.searchHold := by
  rw [takeStop_charging hs, beginStop_eq]
  split
  · rw [openContactors_waiting (s := s.stopBegun k) closed, commandOpen_eq]
    exact ⟨rfl, rfl, rfl⟩
  · exact ⟨rfl, rfl, rfl⟩

/-! ### A search that begins (R96, R97, R100) -/

theorem searchNotFound_sought (s : State) : Sought s.iso s.searchNotFound.iso := by
  have ended : Sought s.iso (s.isoChange fun x => (x.searchOver .notFound none none).afterSearch).iso := by
    rw [isoChange_iso]
    exact (Sought.searchOver _ (by decide) _ _).trans (.afterSearch _)
  rw [searchNotFound, doIf_eq]
  split
  · exact ended.trans (takeStop_sought _ _)
  · exact ended

theorem searchFrom_sought (l : List Nat) (s : State) : Sought s.iso (searchFrom l s).iso := by
  induction l generalizing s with
  | nil => exact searchNotFound_sought s
  | cons a l ih =>
    rw [searchFrom]
    split
    · have marked : Sought s.iso ((s.markEntry .skipped).onSearch fun x => { x with cursor := x.cursor + 1 }).iso :=
        .search rfl id
      exact marked.trans (ih _)
    · rw [beginTest_eq]
      split
      · exact .search rfl id
      · rw [isolateNow_iso]
        exact .search rfl id

/-- R96: a search that begins has its origin and an outcome. -/
theorem beginSearch_facts (s : State) (o : SearchOrigin) :
    Steady s.iso (s.beginSearch o).iso ∧ (s.beginSearch o).iso.search.origin = o ∧ (s.beginSearch o).iso.search.outcome ≠ .none := by
  obtain ⟨u, hu⟩ : ∃ u, u = s.isoChange fun x =>
    { x with st := .searching, streaks := x.streaks.profileOnly, search := searchBegun x o } := ⟨_, rfl⟩
  have begun : u.iso = { s.iso with st := .searching, streaks := s.iso.streaks.profileOnly, search := searchBegun s.iso o } := by
    rw [hu, isoChange_iso]
  have step : s.beginSearch o = searchFrom u.iso.searchList u := by
    rw [hu]
    rfl
  have first : Steady s.iso u.iso := by
    rw [begun]
    exact ⟨rfl, rfl, rfl, rfl, rfl, fun r h => ⟨r.external, h⟩, .inr rfl⟩
  have sought := searchFrom_sought u.iso.searchList u
  rw [step]
  refine ⟨first.trans sought.toSteady, ?_, sought.outcome ?_⟩
  · rw [sought.origin, begun]
    rfl
  · rw [begun]
    exact fun h => by cases h

/-- R90: the effects of an assessment leave it as it is. -/
theorem assessEffects_steady (s : State) : Steady s.iso s.assessEffects.iso := by
  unfold assessEffects
  split_ifs
  · exact (takeStop_sought _ _).toSteady
  · exact (takeStop_sought _ _).toSteady
  · exact (beginSearch_facts _ _).1
  · exact .refl _

theorem takeStop_frame (s : State) (k : StopCause) :
    onlyChanges [.session, .pins, .heating, .iso, .meter, .billing, .nv, .link, .budgetIn] s (s.takeStop k) :=
  ((Steered.refl s).takeStop k).frame

end State

/-- What the end of an injection period may move. -/
def injected : List Piece := [.iso, .session, .pins, .heating, .stage, .meter, .billing, .nv, .link, .budgetIn]

namespace State

theorem searchFrom_frame (l : List Nat) (s : State) : onlyChanges injected s (searchFrom l s) := by
  induction l generalizing s with
  | nil => exact onlyChanges_trans (isoChange_frame s _) (onlyChanges_doIf (takeStop_frame _ _))
  | cons a l ih =>
    rw [searchFrom]
    split
    · have marked : onlyChanges [.iso] s ((s.markEntry .skipped).onSearch fun x => { x with cursor := x.cursor + 1 }) :=
        onlyChanges_trans (markEntry_frame s _) (onSearch_frame _ _)
      exact onlyChanges_trans marked (ih _)
    · rw [beginTest_eq]
      split
      · exact onlyChanges_mono (onSearch_frame s _)
      · exact onlyChanges_trans (onSearch_frame s _) (isolateNow_frame _ _)

theorem assessEffects_frame (s : State) : onlyChanges injected s s.assessEffects := by
  unfold assessEffects
  split_ifs
  · exact onlyChanges_mono (takeStop_frame s _)
  · exact onlyChanges_mono (takeStop_frame s _)
  · exact onlyChanges_trans (isoChange_frame s _) (searchFrom_frame _ _)
  · exact onlyChanges_refl _ s

end State

/-- R98: whether a result passes the culprit test. -/
def Reading.passes (rd : Reading) (w : Working) : Bool :=
  match rd with
  | .kOhm r => decide (w.warn ≤ r)
  | .invalid => false

/-! ### What a result leaves, whatever it is (R83, R84, R86) -/

/-- A result leaves the profile, the thresholds and itself, but for its EXTERNAL flag, and the settled streak unless the assessment or
its source moved. -/
structure Judged (s t : State) : Prop where
  params : t.iso.params = s.iso.params
  profile : t.iso.profile = s.iso.profile
  working : t.iso.working = s.iso.working
  last : ∀ r, s.iso.last = some r → ∃ ext, t.iso.last = some { r with external := ext }
  settled : t.iso.assess = s.iso.assess → t.iso.source = s.iso.source → t.iso.streaks.settled = s.iso.streaks.settled
  frame : onlyChanges injected s t

namespace Judged

variable {s t u : State}

theorem of_steady (h : Steady s.iso t.iso) (f : onlyChanges injected s t) : Judged s t :=
  ⟨h.params, h.profile, h.working, h.last, fun _ _ => h.settled, f⟩

/-- Streaks that moved beside the profile counters (R86). -/
theorem of_streaks {k : Streaks} (hk : k.settled = s.iso.streaks.settled) : Judged s (s.onIso fun x => { x with streaks := k }) :=
  ⟨rfl, rfl, rfl, fun r h => ⟨r.external, h⟩, fun _ _ => hk, onlyChanges_mono (State.onIso_frame s _)⟩

/-- A result that moved the assessment or its source, and what the move set off. -/
theorem of_regraded (params : u.iso.params = s.iso.params) (profile : u.iso.profile = s.iso.profile)
    (working : u.iso.working = s.iso.working) (last : u.iso.last = s.iso.last)
    (moved : u.iso.assess = s.iso.assess → u.iso.source ≠ s.iso.source) (rest : Steady u.iso t.iso)
    (f : onlyChanges injected s t) : Judged s t :=
  ⟨rest.params.trans params, rest.profile.trans profile, rest.working.trans working, fun r h => rest.last r (last.trans h),
    fun ha hs => absurd (rest.source.symm.trans hs) (moved (rest.assess.symm.trans ha)), f⟩

end Judged

namespace State

/-! ### Grading (R86 to R90) -/

theorem gradeResult_stands {s : State} {r : Nat} {w : Working}
    (h : gradedBy s.iso.assess (s.iso.streaks.value r w) r w = s.iso.assess) :
    s.gradeResult (.kOhm r) w = s.onIso fun x => { x with streaks := x.streaks.value r w } := if_pos h

/-- R87, R90: a result that moves the assessment, before what the move sets off. -/
def regraded (s : State) (r : Nat) (w : Working) : State :=
  (s.onIso fun x => { x with streaks := x.streaks.value r w }).isoChange fun x =>
    { x with assess := gradedBy s.iso.assess (s.iso.streaks.value r w) r w, source := .own, streaks := {} }

theorem gradeResult_moves {s : State} {r : Nat} {w : Working}
    (h : gradedBy s.iso.assess (s.iso.streaks.value r w) r w ≠ s.iso.assess) :
    s.gradeResult (.kOhm r) w = (s.regraded r w).assessEffects := if_neg h

theorem regraded_iso (s : State) (r : Nat) (w : Working) :
    (s.regraded r w).iso =
      { s.iso with assess := gradedBy s.iso.assess (s.iso.streaks.value r w) r w, source := .own, streaks := {} } :=
  isoChange_iso _ _

theorem regraded_moved (s : State) (r : Nat) (w : Working) : Moved s (s.regraded r w) := by
  have frame := onIso_frame s fun x => { x with streaks := x.streaks.value r w }
  exact (Moved.of_frame frame (Onward.of_frame frame)).trans (isoChange_moved _ _)

/-- R16, R90: the session is told of the hold that the assessment calls for. -/
theorem regraded_holds {s : State} {r : Nat} {w : Working}
    (h : gradedBy s.iso.assess (s.iso.streaks.value r w) r w ≠ s.iso.assess) :
    (s.regraded r w).session.causes.searchHold = (s.regraded r w).iso.hold := by
  rw [regraded_iso]
  exact (isoChange_tells fun same => h same.2.1).1

theorem regraded_frame (s : State) (r : Nat) (w : Working) :
    onlyChanges [.iso, .session, .pins, .heating, .link, .budgetIn] s (s.regraded r w) :=
  onlyChanges_trans (onIso_frame s _) (isoChange_frame _ _)

/-- R86: the streaks an INVALID result leaves. -/
def brokenStreaks (k : Streaks) : Streaks := { k.broken with invalid := min 3 (k.invalid + 1) }

theorem gradeResult_invalid (s : State) (w : Working) :
    s.gradeResult .invalid w =
      (let u := s.onIso fun x => { x with streaks := brokenStreaks x.streaks }
       if s.iso.dcContext then
         if 2 ≤ min 3 (s.iso.streaks.invalid + 1) then u.isoChange fun x => x.yielded else u
       else if 3 ≤ min 3 (s.iso.streaks.invalid + 1) ∧ (s.iso.assess ≠ .unknown ∨ s.iso.source ≠ .own) then
         u.isoChange fun x => { x with assess := .unknown, source := .own, streaks := {} }
       else u) := rfl

theorem gradeResult_judged (s : State) (rd : Reading) (w : Working) : Judged s (s.gradeResult rd w) := by
  cases rd with
  | kOhm r =>
    by_cases h : gradedBy s.iso.assess (s.iso.streaks.value r w) r w = s.iso.assess
    · rw [gradeResult_stands h]
      exact .of_streaks rfl
    · rw [gradeResult_moves h]
      have frame := onlyChanges_trans (rs := injected) (regraded_frame s r w) (assessEffects_frame (s.regraded r w))
      refine .of_regraded ?_ ?_ ?_ ?_ (fun same => absurd ?_ h) (assessEffects_steady (s.regraded r w)) frame
      · rw [regraded_iso]
      · rw [regraded_iso]
      · rw [regraded_iso]
      · rw [regraded_iso]
      · rw [regraded_iso] at same
        exact same
  | invalid =>
    have broken : Judged s (s.onIso fun x => { x with streaks := brokenStreaks x.streaks }) := .of_streaks rfl
    have frame (f : Insulation → Insulation) :
        onlyChanges injected s ((s.onIso fun x => { x with streaks := brokenStreaks x.streaks }).isoChange f) :=
      onlyChanges_trans (onIso_frame s _) (isoChange_frame _ _)
    rw [gradeResult_invalid]
    dsimp only
    split_ifs with dc twice third
    · have yielded := (Sought.yielded { s.iso with streaks := brokenStreaks s.iso.streaks }).toSteady
      refine ⟨?_, ?_, ?_, ?_, fun _ _ => ?_, frame _⟩ <;> rw [isoChange_iso]
      · exact yielded.params
      · exact yielded.profile
      · exact yielded.working
      · exact yielded.last
      · exact yielded.settled
    · exact broken
    · refine .of_regraded ?_ ?_ ?_ ?_ ?_ (.refl _) (frame _) <;> rw [isoChange_iso]
      · rfl
      · rfl
      · rfl
      · rfl
      · intro unknown own
        exact third.2.elim (fun h => h unknown.symm) fun h => h own.symm
    · exact broken

/-! ### Results during a search (R89, R98, R100) -/

theorem abortSearch_frame (s : State) (c : AbortCause) (f : Insulation → Insulation) :
    onlyChanges injected s (s.abortSearch c f) :=
  onlyChanges_trans (dropBranch_kept s).1 (isoChange_frame _ _)

/-- R89: a result below the CRITICAL threshold aborts the search. -/
theorem searchResult_critical {s : State} {r : Nat} {w : Working} (h : r < w.critical) :
    s.searchResult (.kOhm r) w =
      if s.iso.assess = .critical then s.abortSearch .critical fun x => { x with st := .measuring }
      else
        (s.abortSearch .critical fun x =>
          { x with st := .measuring, assess := .critical, source := .own, streaks := {} }).takeStop .isoCritical :=
  if_pos (decide_eq_true h)

/-- R89: what the abort leaves of the monitor. -/
theorem searchResult_aborted {s : State} {r : Nat} {w : Working} (h : r < w.critical) :
    (s.searchResult (.kOhm r) w).iso.st = .measuring ∧ (s.searchResult (.kOhm r) w).iso.assess = .critical ∧
      (s.searchResult (.kOhm r) w).iso.search.outcome = .aborted ∧
      (s.searchResult (.kOhm r) w).iso.search.abort = some .critical ∧ (s.searchResult (.kOhm r) w).iso.search.under = none := by
  rw [searchResult_critical h]
  split
  · next grave =>
    rw [abortSearch_iso]
    exact ⟨rfl, grave, rfl, rfl, rfl⟩
  · obtain ⟨u, hu⟩ : ∃ u, u = s.abortSearch .critical fun x =>
      { x with st := .measuring, assess := .critical, source := .own, streaks := {} } := ⟨_, rfl⟩
    have iso : u.iso = { s.iso.searchOver .aborted (some .critical) none with
        st := .measuring, assess := .critical, source := .own, streaks := {} } := by
      rw [hu, abortSearch_iso]
    rw [← hu]
    rcases takeStop_iso u .isoCritical with h | h
    · rw [h, iso]
      exact ⟨rfl, rfl, rfl, rfl, rfl⟩
    · rw [h, iso]
      exact ⟨rfl, rfl, rfl, rfl, rfl⟩

/-- R98: outside the RESULTS phase a result that is not CRITICAL does nothing to the search. -/
theorem searchResult_waits {s : State} {rd : Reading} {w : Working} (safe : ∀ r, rd = .kOhm r → w.critical ≤ r)
    (h : s.iso.search.phase ≠ some .results) : s.searchResult rd w = s := by
  cases rd with
  | kOhm r =>
    rw [searchResult]
    simp [Nat.not_lt.2 (safe r rfl), h]
  | invalid =>
    rw [searchResult]
    simp [h]

theorem searchResult_steps {s : State} {rd : Reading} {w : Working} (safe : ∀ r, rd = .kOhm r → w.critical ≤ r)
    (h : s.iso.search.phase = some .results) : s.searchResult rd w = s.stepResult rd w := by
  cases rd with
  | kOhm r =>
    rw [searchResult]
    simp [Nat.not_lt.2 (safe r rfl), h]
  | invalid =>
    rw [searchResult]
    simp [h]

section Step

variable {s : State} {rd : Reading} {w : Working} {b : Nat} (under : s.iso.search.under = some b)

include under

/-- R98: the first result of a step is discarded. -/
theorem stepResult_first (h : s.iso.search.discarded = none) :
    s.stepResult rd w = s.onSearch fun x => { x with discarded := some rd } := by
  simp only [stepResult, under, h]

/-- R98: the second result of a step is taken. -/
theorem stepResult_second (h : s.iso.search.discarded ≠ none) (h' : s.iso.search.first = none) :
    s.stepResult rd w = s.onSearch fun x => { x with first := some ⟨rd, Reading.passes rd w⟩ } := by
  obtain ⟨d, hd⟩ := Option.ne_none_iff_exists'.1 h
  simp only [stepResult, under, hd, h']
  rfl

/-- R98: the third result of a step decides. -/
theorem stepResult_third {u : Taken} (h : s.iso.search.discarded ≠ none) (h' : s.iso.search.first = some u) :
    s.stepResult rd w =
      (let t := s.onSearch fun x => { x with second := some ⟨rd, Reading.passes rd w⟩ }
       if u.passes ∧ Reading.passes rd w then t.searchFound b else (t.markEntry .cleared).reconnectStep b) := by
  obtain ⟨d, hd⟩ := Option.ne_none_iff_exists'.1 h
  simp only [stepResult, under, hd, h']
  rfl

end Step

/-- R100, R102: what a culprit leaves of the monitor. -/
theorem searchFound_facts (s : State) (b : Nat) :
    Sought s.iso (s.searchFound b).iso ∧ (s.searchFound b).iso.search.outcome = .found ∧
      (s.searchFound b).iso.search.under = none ∧
      (s.searchFound b).iso.search.marks = s.iso.search.marks.set s.iso.search.cursor .culprit ∧
      b ∈ (s.searchFound b).iso.memory ∧ waits (s.searchFound b) (.isoMemory (s.searchFound b).iso.memory) ∧
      (s.searchFound b).iso.st = (if s.iso.dcContext && s.iso.stationMon then .yielded else .measuring) ∧
      onlyChanges injected s (s.searchFound b) := by
  obtain ⟨u, hu⟩ : ∃ u, u = (s.markEntry .culprit).isoChange fun x =>
    { x.searchOver .found none (some b) with
      memory := if x.memory.contains b then x.memory else x.memory ++ [b] }.afterSearch := ⟨_, rfl⟩
  have step : s.searchFound b = u.queueNv (.isoMemory u.iso.memory) false := by
    rw [hu]
    rfl
  have queued : onlyChanges [.nv] u (s.searchFound b) := by
    rw [step]
    simp [queueNv, onlyChanges, onNv]
  obtain ⟨x, hx⟩ : ∃ x, x = { (s.markEntry .culprit).iso.searchOver .found none (some b) with
    memory := if s.iso.memory.contains b then s.iso.memory else s.iso.memory ++ [b] } := ⟨_, rfl⟩
  have iso : u.iso = x.afterSearch := by
    rw [hu, isoChange_iso, hx]
    rfl
  have ended : Sought (s.markEntry .culprit).iso x := by
    have outcome : x.search.outcome = .found := by
      rw [hx]
      rfl
    refine ⟨?_, ?_, fun _ => by simp [outcome]⟩ <;> rw [hx]
    · exact ⟨rfl, rfl, rfl, rfl, rfl, fun r h => ⟨r.external, h⟩, .inr rfl⟩
    · rfl
  have marked : Sought s.iso (s.markEntry .culprit).iso := .search rfl id
  obtain ⟨st, search, -⟩ := Insulation.afterSearch_facts x
  have memory : x.afterSearch.memory = x.memory := by
    unfold Insulation.afterSearch
    split <;> rfl
  rw [onlyChanges_iso queued, iso, st, search, memory, step, iso, memory]
  refine ⟨(marked.trans ended).trans (.afterSearch x), ?_, ?_, ?_, ?_, queueNv_waits _ _ _, ?_, ?_⟩
  · rw [hx]
    rfl
  · rw [hx]
    rfl
  · rw [hx]
    rfl
  · rw [hx]
    by_cases known : b ∈ s.iso.memory <;> simp [known]
  · rw [hx]
    rfl
  · rw [← memory, ← iso, ← step]
    refine onlyChanges_trans (rs := injected) (ps := [.iso, .session, .pins, .heating, .link, .budgetIn]) ?_ queued
    rw [hu]
    exact onlyChanges_trans (markEntry_frame s _) (isoChange_frame _ _)

/-- R99: what a cleared branch leaves of the search. -/
theorem cleared_facts (s : State) (b : Nat) :
    ((s.markEntry .cleared).reconnectStep b).iso =
        { s.iso with
          search := { s.iso.search with marks := s.iso.search.marks.set s.iso.search.cursor .cleared }.reconnecting s.now } ∧
      ((s.node b).st = .active → (⟨.reconnect, b⟩ : StageEntry) ∈ ((s.markEntry .cleared).reconnectStep b).stage.urgent) ∧
      onlyChanges injected s ((s.markEntry .cleared).reconnectStep b) :=
  ⟨reconnectStep_iso _ _, fun active => mem_queueReconnect (s := s.markEntry .cleared) active,
    onlyChanges_trans (markEntry_frame s _) (reconnectStep_frame _ _)⟩

theorem stepResult_judged (s : State) (rd : Reading) (w : Working) : Judged s (s.stepResult rd w) := by
  have marked {u : State} (h : onlyChanges [.iso] s u) (iso : Sought s.iso u.iso) : Judged s u :=
    .of_steady iso.toSteady (onlyChanges_mono h)
  cases under : s.iso.search.under with
  | none =>
    have stays : s.stepResult rd w = s := by simp only [stepResult, under]
    rw [stays]
    exact .of_steady (.refl _) (onlyChanges_refl _ s)
  | some b =>
    cases hd : s.iso.search.discarded with
    | none =>
      rw [stepResult_first under hd]
      exact marked (onSearch_frame s _) (.search rfl id)
    | some d =>
      have discarded : s.iso.search.discarded ≠ none := by simp [hd]
      cases hf : s.iso.search.first with
      | none =>
        rw [stepResult_second under discarded hf]
        exact marked (onSearch_frame s _) (.search rfl id)
      | some u =>
        rw [stepResult_third under discarded hf]
        obtain ⟨v, hv⟩ : ∃ v, v = s.onSearch fun x => { x with second := some ⟨rd, Reading.passes rd w⟩ } := ⟨_, rfl⟩
        have taken : Sought s.iso v.iso := by
          rw [hv]
          exact .search rfl id
        have frame : onlyChanges [.iso] s v := by
          rw [hv]
          exact onSearch_frame s _
        simp only [← hv]
        split
        · obtain ⟨found, -, -, -, -, -, -, after⟩ := searchFound_facts v b
          exact .of_steady (taken.trans found).toSteady (onlyChanges_trans frame after)
        · obtain ⟨iso, -, after⟩ := cleared_facts v b
          refine .of_steady (taken.toSteady.trans ?_) (onlyChanges_trans frame after)
          rw [iso]
          exact ⟨rfl, rfl, rfl, rfl, rfl, fun r h => ⟨r.external, h⟩, .inl rfl⟩

theorem searchResult_judged (s : State) (rd : Reading) (w : Working) : Judged s (s.searchResult rd w) := by
  have ended (c : AbortCause) : Steady s.iso { s.iso.searchOver .aborted (some c) none with st := .measuring } :=
    ⟨rfl, rfl, rfl, rfl, rfl, fun r h => ⟨r.external, h⟩, .inr rfl⟩
  have safe (h : ∀ r, rd = .kOhm r → w.critical ≤ r) : Judged s (s.searchResult rd w) := by
    by_cases results : s.iso.search.phase = some .results
    · rw [searchResult_steps h results]
      exact stepResult_judged s rd w
    · rw [searchResult_waits h results]
      exact .of_steady (.refl _) (onlyChanges_refl _ s)
  by_cases grave : ∃ r, rd = .kOhm r ∧ r < w.critical
  · obtain ⟨r, rfl, low⟩ := grave
    rw [searchResult_critical low]
    split
    · refine .of_steady ?_ (abortSearch_frame s _ _)
      rw [abortSearch_iso]
      exact ended .critical
    · next better =>
      have aborted := abortSearch_iso s .critical fun x =>
        { x with st := .measuring, assess := .critical, source := .own, streaks := {} }
      refine .of_regraded ?_ ?_ ?_ ?_ (fun same => absurd ?_ better) (takeStop_sought _ .isoCritical).toSteady
        (onlyChanges_trans (rs := injected) (abortSearch_frame s _ _) (takeStop_frame _ _))
      · rw [aborted]
        rfl
      · rw [aborted]
        rfl
      · rw [aborted]
        rfl
      · rw [aborted]
        rfl
      · rw [aborted] at same
        exact same.symm
  · exact safe fun r hr => Nat.le_of_not_lt fun low => grave ⟨r, hr, low⟩

end State

end Sys2Proof.Machine
end

section
/-! The end of an injection period settles O42 (R81 to R90, R98, R100). -/

-- One declaration at a time: each thread the elaborator opens takes its whole stack from the memory limit.
set_option Elab.async false

namespace Sys2Proof.Machine.State

open Safety

/-! ### The period's end (R80 to R82) -/

/-- R80: a new period begins as one ends. -/
def periodBegun (s : State) : State := s.onIso fun x => { x with period := some s.now }

/-- R85: the thresholds in force at the end of a period. -/
def workingNow (s : State) : Working := workingOf s.iso.params (s.iso.vPack.getD 0)

/-- R82, R85: the thresholds and the result of a settled period of amplitude `um`. -/
def resultTaken (s : State) (um : Int) : State :=
  s.onIso fun x => { x with working := some s.workingNow, last := some ⟨readingOf um, um, x.profile, s.now, false⟩ }

/-- R86 to R90, R98: the result given to the search or graded. -/
def resultGiven (s : State) (um : Int) : State :=
  if (s.resultTaken um).iso.st = .searching then (s.resultTaken um).searchResult (readingOf um) s.workingNow
  else (s.resultTaken um).gradeResult (readingOf um) s.workingNow

theorem resultGiven_judged (s : State) (um : Int) : Judged (s.resultTaken um) (s.resultGiven um) := by
  unfold resultGiven
  split
  · exact searchResult_judged _ _ _
  · exact gradeResult_judged _ _ _

/-- R80: with no injection the end of a period is none. -/
theorem exec_periodEnd {s : State} {p3 pe n3 ne : Int} (run : s.power.part = .run) :
    exec (.injectionPeriodEnd p3 pe n3 ne) s =
      .next (if s.iso.period = none then s else s.injectionEnd p3 pe n3 ne) := by
  show Host.Outcome.next (s.whenRun fun s => s.periodEnd p3 pe n3 ne) = _
  rw [whenRun_run run, periodEnd, doIf_eq]
  cases s.iso.period <;> rfl

/-- R81, R82: the end of a settled period. -/
theorem injectionEnd_settled (s : State) {p3 pe n3 ne : Int}
    (h : (pe - p3).natAbs * 32 ≤ pe.natAbs ∧ (ne - n3).natAbs * 32 ≤ ne.natAbs) :
    s.injectionEnd p3 pe n3 ne =
      (s.periodBegun.resultGiven ((pe - ne).tdiv 2)).onIso fun x =>
        x.profileSettled (s.periodBegun.resultGiven ((pe - ne).tdiv 2)).now := by
  have settled : (halfSettled p3 pe && halfSettled n3 ne) = true := by simp [halfSettled, h]
  rw [injectionEnd, if_pos settled]
  rfl

/-- R83, R84: the end of an unsettled period. -/
theorem injectionEnd_unsettled (s : State) {p3 pe n3 ne : Int}
    (h : ¬ ((pe - p3).natAbs * 32 ≤ pe.natAbs ∧ (ne - n3).natAbs * 32 ≤ ne.natAbs)) :
    s.injectionEnd p3 pe n3 ne =
      (s.periodBegun.onIso fun x => { x with streaks := x.streaks.broken }).isoChange fun x => x.profileUnsettled s.now := by
  have unsettled : ¬ (halfSettled p3 pe && halfSettled n3 ne) = true := by
    simpa [halfSettled] using fun hp hn => h ⟨hp, hn⟩
  exact if_neg unsettled

/-! ### A graded result (R86 to R90) -/

/-- R86, R87, R90: what a value leaves in MEASURING. -/
theorem graded_value (s : State) (r : Nat) (w : Working) :
    let k := s.iso.streaks.value r w
    let a := gradedBy s.iso.assess k r w
    let u := s.gradeResult (.kOhm r) w
    let charging := (s.session.st = .energising ∨ s.session.st = .active ∨ s.session.st = .paused) ∧ ¬ contactsOpen s
    u.iso.assess = a ∧ u.iso.streaks = (if a = s.iso.assess then k else {}) ∧
      (a = .critical → a ≠ s.iso.assess → charging →
        u.session.st = .stopping ∧ u.session.stopCause = some .isoCritical ∧ u.session.causes.searchHold = true) ∧
      (a = .fault → a ≠ s.iso.assess → s.iso.searchList = [] → charging →
        u.session.st = .stopping ∧ u.session.stopCause = some .isoFault) ∧
      (a = .fault → a ≠ s.iso.assess → s.iso.searchList ≠ [] →
        u.iso.search.origin = .fault ∧ u.iso.search.outcome ≠ .none) := by
  intro k a u charging
  by_cases h : a = s.iso.assess
  · have step : u = s.onIso fun x => { x with streaks := x.streaks.value r w } := gradeResult_stands h
    rw [if_pos h, step]
    exact ⟨h.symm, rfl, fun _ ne => absurd h ne, fun _ ne => absurd h ne, fun _ ne => absurd h ne⟩
  · obtain ⟨v, hv⟩ : ∃ v, v = s.regraded r w := ⟨_, rfl⟩
    have step : u = v.assessEffects := by
      rw [hv]
      exact gradeResult_moves h
    have iso : v.iso = { s.iso with assess := a, source := .own, streaks := {} } := by
      rw [hv]
      exact regraded_iso s r w
    have holds : v.session.causes.searchHold = v.iso.hold := by
      rw [hv]
      exact regraded_holds h
    have moved : Moved s v := by
      rw [hv]
      exact regraded_moved s r w
    have charges (c : charging) :
        (v.session.st = .energising ∨ v.session.st = .active ∨ v.session.st = .paused) ∧ ¬ contactsOpen v := by
      obtain ⟨st, b, session, same⟩ := moved.session
      obtain ⟨load, pins⟩ := moved.pins
      obtain ⟨draws, closed⟩ := c
      refine ⟨?_, ?_⟩
      · rw [session]
        rcases same with same | ⟨-, same⟩
        · rw [show ({ s.session with st := st, causes := { s.session.causes with searchHold := b } } : Session).st = st from rfl, same]
          exact draws
        · exact .inr same
      · rw [contactsOpen, pins]
        exact closed
    have rest := assessEffects_steady v
    rw [← step] at rest
    rw [if_neg h]
    refine ⟨?_, rest.cleared (by rw [iso]), fun ha _ c => ?_, fun ha _ hl c => ?_, fun ha _ hl => ?_⟩
    · rw [rest.assess, iso]
    · have critical : v.iso.assess = .critical := by rw [iso, ← ha]
      obtain ⟨draws, closed⟩ := charges c
      obtain ⟨st, cause, hold⟩ := takeStop_stopping draws closed .isoCritical
      rw [step, assessEffects, if_pos critical]
      refine ⟨st, cause, ?_⟩
      rw [hold, holds]
      simp [Insulation.hold, critical]
    · have fault : v.iso.assess = .fault := by rw [iso, ← ha]
      have bare : v.iso.searchList.isEmpty = true := by rw [iso]; simp [hl]
      obtain ⟨draws, closed⟩ := charges c
      obtain ⟨st, cause, -⟩ := takeStop_stopping draws closed .isoFault
      rw [step, assessEffects, if_neg (by simp [fault]), if_pos fault, if_pos bare]
      exact ⟨st, cause⟩
    · have fault : v.iso.assess = .fault := by rw [iso, ← ha]
      have listed : ¬ v.iso.searchList.isEmpty = true := by rw [iso]; simpa using hl
      rw [step, assessEffects, if_neg (by simp [fault]), if_pos fault, if_neg listed]
      exact (beginSearch_facts v .fault).2

/-- R86, R88: what an INVALID result leaves in MEASURING. -/
theorem graded_invalid {s : State} (hs : s.iso.st = .measuring) (w : Working) :
    let u := s.gradeResult .invalid w
    (s.iso.dcContext = true → 1 ≤ s.iso.streaks.invalid → u.iso.st = .yielded ∧ u.iso.assess = s.iso.assess) ∧
      (s.iso.dcContext = false → 2 ≤ s.iso.streaks.invalid →
        u.iso.st = .measuring ∧ u.iso.assess = .unknown ∧ u.iso.source = .own) ∧
      (s.iso.streaks.invalid = 0 → u.iso.st = .measuring ∧ u.iso.assess = s.iso.assess) := by
  dsimp only
  rw [gradeResult_invalid]
  dsimp only
  refine ⟨fun dc h => ?_, fun dc h => ?_, fun h => ?_⟩
  · rw [if_pos dc, if_pos (by omega), isoChange_iso]
    exact ⟨rfl, rfl⟩
  · rw [if_neg (by simp [dc])]
    split
    · rw [isoChange_iso]
      exact ⟨hs, rfl, rfl⟩
    · next same =>
      have given : s.iso.assess = .unknown ∧ s.iso.source = .own := by
        by_contra other
        refine same ⟨by omega, ?_⟩
        by_cases unknown : s.iso.assess = .unknown
        · exact .inr fun own => other ⟨unknown, own⟩
        · exact .inl unknown
      exact ⟨hs, given⟩
  · rw [if_neg (by omega : ¬ 2 ≤ min 3 (s.iso.streaks.invalid + 1)),
      if_neg (by omega : ¬ (3 ≤ min 3 (s.iso.streaks.invalid + 1) ∧ _)), ite_self]
    exact ⟨hs, rfl⟩

/-! ### A result during a search (R98, R100) -/

section Step

variable {s : State} {rd : Reading} {w : Working} {b : Nat}

/-- R98: the third result of a step clears its branch. -/
theorem step_clears (under : s.iso.search.under = some b) {u : Taken} (hd : s.iso.search.discarded ≠ none)
    (hf : s.iso.search.first = some u) (fails : ¬ (u.passes ∧ Reading.passes rd w)) :
    let t := s.stepResult rd w
    t.iso.search.marks = s.iso.search.marks.set s.iso.search.cursor .cleared ∧ t.iso.search.phase = some .reconnectWait ∧
      t.iso.search.reconnectTimer = some s.now ∧ t.iso.search.under = some b ∧
      ((s.node b).st = .active → (⟨.reconnect, b⟩ : StageEntry) ∈ t.stage.urgent) ∧
      t.iso.st = s.iso.st ∧ t.iso.assess = s.iso.assess := by
  dsimp only
  rw [stepResult_third under hd hf]
  dsimp only
  rw [if_neg fails]
  obtain ⟨iso, queued, -⟩ := cleared_facts (s.onSearch fun x => { x with second := some ⟨rd, Reading.passes rd w⟩ }) b
  rw [iso]
  exact ⟨rfl, rfl, rfl, under, queued, rfl, rfl⟩

/-- R98, R100: the third result of a step finds its branch the culprit. -/
theorem step_finds (under : s.iso.search.under = some b) {u : Taken} (hd : s.iso.search.discarded ≠ none)
    (hf : s.iso.search.first = some u) (passes : u.passes ∧ Reading.passes rd w) :
    let t := s.stepResult rd w
    t.iso.search.outcome = .found ∧ t.iso.search.under = none ∧
      t.iso.search.marks = s.iso.search.marks.set s.iso.search.cursor .culprit ∧ b ∈ t.iso.memory ∧
      waits t (.isoMemory t.iso.memory) ∧
      t.iso.st = if s.iso.dcContext && s.iso.stationMon then .yielded else .measuring := by
  dsimp only
  rw [stepResult_third under hd hf]
  dsimp only
  rw [if_pos passes]
  obtain ⟨-, outcome, under', marks, memory, waiting, st, -⟩ :=
    searchFound_facts (s.onSearch fun x => { x with second := some ⟨rd, Reading.passes rd w⟩ }) b
  exact ⟨outcome, under', marks, memory, waiting, st⟩

end Step

/-- R98: an INVALID result moves neither the monitor's state nor its assessment. -/
theorem searchResult_invalid {s : State} {w : Working} {b : Nat} (under : s.iso.search.under = some b) :
    (s.searchResult .invalid w).iso.st = s.iso.st ∧ (s.searchResult .invalid w).iso.assess = s.iso.assess := by
  by_cases results : s.iso.search.phase = some .results
  · rw [searchResult_steps (by simp) results]
    by_cases hd : s.iso.search.discarded = none
    · rw [stepResult_first under hd]
      exact ⟨rfl, rfl⟩
    · cases hf : s.iso.search.first with
      | none =>
        rw [stepResult_second under hd hf]
        exact ⟨rfl, rfl⟩
      | some u =>
        obtain ⟨-, -, -, -, -, st, assess⟩ := step_clears (rd := .invalid) (w := w) under hd hf (by simp [Reading.passes])
        exact ⟨st, assess⟩
  · rw [searchResult_waits (by simp) results]
    exact ⟨rfl, rfl⟩

end Sys2Proof.Machine.State

namespace Sys2Proof.Proofs

open Machine Safety

/-- R82: the reading of an amplitude. -/
theorem readingOf_facts :
    (∀ um, um < 0 → readingOf um = .invalid) ∧ (∀ um : Int, 40000 ≤ um → readingOf um = .kOhm 10000) ∧
      ∀ um : Nat, um < 40000 → readingOf um = .kOhm (min 10000 (200 * um / (40000 - um))) := by
  refine ⟨fun um h => if_pos h, fun um h => ?_, fun um h => ?_⟩
  · rw [readingOf, if_neg (by omega), if_neg (by omega)]
  · rw [readingOf, if_neg (by omega), if_pos (by omega)]
    simp

/-- R83, R84, R86: the end of an unsettled period. -/
theorem unsettled_facts (s : State) :
    let t := (s.periodBegun.onIso fun x => { x with streaks := x.streaks.broken }).isoChange fun x => x.profileUnsettled s.now
    (t.iso.last = s.iso.last ∧ t.iso.working = s.iso.working ∧ t.iso.st = s.iso.st ∧
      { t.iso.streaks with settled := 0, p3Unsettled := 0, invalid := 0 } = ({} : Streaks) ∧ t.iso.streaks.settled = 0 ∧
      (s.iso.params.profMode = .auto → s.iso.profile ≠ .p3 →
        t.iso.profile = s.iso.profile.slower ∧ t.iso.assess = s.iso.assess) ∧
      (s.iso.params.profMode = .auto → s.iso.profile = .p3 →
        let n := s.iso.streaks.p3Unsettled + 1
        t.iso.profile = .p3 ∧
        (n < 3 → t.iso.streaks.p3Unsettled = n ∧ t.iso.assess = s.iso.assess ∧ t.iso.source = s.iso.source) ∧
        (3 ≤ n → t.iso.streaks.p3Unsettled = 0) ∧
        (3 ≤ n → s.iso.st = .searching → t.iso.assess = s.iso.assess ∧ t.iso.source = s.iso.source) ∧
        (3 ≤ n → s.iso.st ≠ .searching →
          t.iso.assess = .unknown ∧ t.iso.source = .own ∧
            (s.iso.assess ≠ .unknown ∨ s.iso.source ≠ .own →
              t.session.causes.searchHold = false ∧ NoticeKind.insulation ∈ t.link.notices)))) ∧
      (s.iso.params.profMode = .fixed → t.iso.profile = s.iso.profile) ∧
      onlyChanges injected s t := by
  intro t
  obtain ⟨x, hx⟩ : ∃ x : Insulation, x = { s.iso with period := some s.now, streaks := s.iso.streaks.broken } := ⟨_, rfl⟩
  have iso : t.iso = x.profileUnsettled s.now := by
    rw [hx]
    exact State.isoChange_iso _ _
  have frame : onlyChanges injected s t :=
    onlyChanges_trans (ps := [.iso]) (onlyChanges_trans (State.onIso_frame s _) (State.onIso_frame _ _)) (State.isoChange_frame _ _)
  cases mode : s.iso.params.profMode with
  | fixed =>
    have same := Insulation.profileUnsettled_fixed (x := x) (by rw [hx]; exact mode) s.now
    rw [iso, same, hx]
    exact ⟨⟨rfl, rfl, rfl, rfl, rfl, by simp, by simp⟩, fun _ => rfl, frame⟩
  | auto =>
    have auto : x.params.profMode = .auto := by rw [hx]; exact mode
    by_cases slowest : s.iso.profile = .p3
    · have p3 : x.profile = .p3 := by rw [hx]; exact slowest
      have count : x.streaks.p3Unsettled = s.iso.streaks.p3Unsettled := by rw [hx]; rfl
      by_cases third : 3 ≤ s.iso.streaks.p3Unsettled + 1
      · have same := Insulation.profileUnsettled_third auto p3 (by omega) s.now
        by_cases moves : s.iso.st ≠ .searching ∧ (s.iso.assess ≠ .unknown ∨ s.iso.source ≠ .own)
        · rw [if_pos (by rw [hx]; exact moves)] at same
          have changed : ¬ ((x.profileUnsettled s.now).st = x.st ∧ (x.profileUnsettled s.now).assess = x.assess ∧
              (x.profileUnsettled s.now).source = x.source) := by
            rw [same, hx]
            exact fun ⟨_, unknown, own⟩ => moves.2.elim (fun h => h unknown.symm) fun h => h own.symm
          rw [hx] at changed
          obtain ⟨hold, -, notice⟩ := State.isoChange_tells
            (s := s.periodBegun.onIso fun x => { x with streaks := x.streaks.broken })
            (f := fun x => x.profileUnsettled s.now) changed
          have free : (x.profileUnsettled s.now).hold = false := by
            rw [same, hx]
            simp [Insulation.hold, moves.1]
          rw [hx] at free
          rw [iso, same, hx]
          exact ⟨⟨rfl, rfl, rfl, rfl, rfl, fun _ h => absurd slowest h, fun _ _ => ⟨slowest, fun h => by omega, fun _ => rfl,
            fun _ h => absurd h moves.1, fun _ _ => ⟨rfl, rfl, fun _ => ⟨hold.trans free, notice⟩⟩⟩⟩, by simp, frame⟩
        · rw [if_neg (by rw [hx]; exact moves)] at same
          rw [iso, same, hx]
          refine ⟨⟨rfl, rfl, rfl, rfl, rfl, fun _ h => absurd slowest h, fun _ _ => ⟨slowest, fun h => by omega, fun _ => rfl,
            fun _ _ => ⟨rfl, rfl⟩, fun _ idle => ?_⟩⟩, by simp, frame⟩
          have given : s.iso.assess = .unknown ∧ s.iso.source = .own := by simpa [idle] using moves
          exact ⟨given.1, given.2, fun h => by simp [given] at h⟩
      · have same := Insulation.profileUnsettled_waits auto p3 (by omega) s.now
        rw [iso, same, hx]
        exact ⟨⟨rfl, rfl, rfl, rfl, rfl, fun _ h => absurd slowest h, fun _ _ => ⟨slowest, fun _ => ⟨rfl, rfl, rfl⟩,
          fun h => absurd h third, fun h => absurd h third, fun h => absurd h third⟩⟩, by simp, frame⟩
    · obtain ⟨period, same⟩ := Insulation.profileUnsettled_slower auto (by rw [hx]; exact slowest) s.now
      rw [iso, same, hx]
      exact ⟨⟨rfl, rfl, rfl, rfl, rfl, fun _ _ => ⟨rfl, rfl⟩, fun _ h => absurd h slowest⟩, by simp, frame⟩

/-- What the profile rules of a settled period leave of the monitor (R83, R84). -/
theorem profileSettled_keeps (x : Insulation) (now : Nat) :
    let y := x.profileSettled now
    y.st = x.st ∧ y.assess = x.assess ∧ y.source = x.source ∧ y.search = x.search ∧ y.memory = x.memory ∧
      y.working = x.working ∧ y.last = x.last ∧
      { y.streaks with settled := 0, p3Unsettled := 0 } = { x.streaks with settled := 0, p3Unsettled := 0 } := by
  dsimp only
  rw [Insulation.profileSettled_eq]
  exact ⟨rfl, rfl, rfl, rfl, rfl, rfl, rfl, rfl⟩

/-- Settles O42: an unsettled period by the profile rules alone; a settled one by what its result leaves whatever it is, and by
the rule of the state it was given in. -/
theorem injectionResultGraded : Obligations.InjectionResultGraded := by
  unfold Obligations.InjectionResultGraded
  obtain ⟨invalid, high, value⟩ := readingOf_facts
  refine ⟨invalid, high, value, fun s p3 pe n3 ne run => ⟨fun h => ?none, fun injects => ?ends⟩⟩
  case none => rw [State.exec_periodEnd run, if_pos h]
  case ends =>
    have ran := State.exec_periodEnd (p3 := p3) (pe := pe) (n3 := n3) (ne := ne) run
    rw [if_neg injects] at ran
    by_cases settled : (pe - p3).natAbs * 32 ≤ pe.natAbs ∧ (ne - n3).natAbs * 32 ≤ ne.natAbs
    case neg =>
      rw [State.injectionEnd_unsettled s settled] at ran
      obtain ⟨unsettled, fixed, frame⟩ := unsettled_facts s
      exact ⟨_, ran, fun _ => unsettled, fixed, fun h => absurd h settled, fun h => absurd h settled, frame⟩
    case pos =>
      rw [State.injectionEnd_settled s settled] at ran
      obtain ⟨um, hum⟩ : ∃ um, um = (pe - ne).tdiv 2 := ⟨_, rfl⟩
      obtain ⟨w, hw⟩ : ∃ w, w = workingOf s.iso.params (s.iso.vPack.getD 0) := ⟨_, rfl⟩
      obtain ⟨e, he⟩ : ∃ e, e = s.periodBegun.resultTaken um := ⟨_, rfl⟩
      obtain ⟨u, hu⟩ : ∃ u, u = s.periodBegun.resultGiven um := ⟨_, rfl⟩
      have judged := State.resultGiven_judged s.periodBegun um
      rw [← hum, ← hu] at ran
      rw [← he, ← hu] at judged
      have taken : e.iso = { s.iso with
          period := some s.now, working := some w, last := some ⟨readingOf um, um, s.iso.profile, s.now, false⟩ } := by
        rw [he, hw]
        rfl
      have searching (hs : s.iso.st = .searching) : u = e.searchResult (readingOf um) w := by
        rw [hu, he, hw]
        exact if_pos hs
      have grading (hs : s.iso.st ≠ .searching) : u = e.gradeResult (readingOf um) w := by
        rw [hu, he, hw]
        exact if_neg hs
      have first : onlyChanges [.iso] s e := by
        rw [he]
        exact onlyChanges_trans (State.onIso_frame s _) (State.onIso_frame _ _)
      obtain ⟨st, assess, source, search, memory, working, last, streaks⟩ := profileSettled_keeps u.iso u.now
      have params : u.iso.params = s.iso.params := by rw [judged.params, taken]
      have profile : u.iso.profile = s.iso.profile := by rw [judged.profile, taken]
      rw [← hum, ← hw]
      refine ⟨_, ran, fun h => absurd settled h, fun fixed => ?fixed, fun _ auto sameA sameS => ?auto, fun _ => ⟨?working, ?last,
        fun hs r hr => ?value, fun r b hs hr under => ?tested, fun b hs low under => ?failed, fun hs low => ?invalid⟩, ?frame⟩
      case fixed =>
        have same := Insulation.profileSettled_fixed (by rw [params]; exact fixed) u.now
        exact (congrArg Insulation.profile same).trans profile
      case auto =>
        have kept : u.iso.streaks.settled = s.iso.streaks.settled := by
          rw [judged.settled (by rw [taken]; exact assess.symm.trans sameA) (by rw [taken]; exact source.symm.trans sameS), taken]
        have rules := Insulation.profileSettled_auto (by rw [params]; exact auto) u.now
        rw [kept, profile] at rules
        exact rules
      case working =>
        refine working.trans ?_
        rw [judged.working, taken]
      case last =>
        obtain ⟨ext, h⟩ := judged.last ⟨readingOf um, um, s.iso.profile, s.now, false⟩ (by rw [taken])
        exact ⟨ext, last.trans h⟩
      case value =>
        have graded := State.graded_value e r w
        rw [taken] at graded
        have result : u = e.gradeResult (.kOhm r) w := by rw [← hr]; exact grading (by simp [hs])
        rw [← result] at graded
        obtain ⟨same, moved, critical, stops, searches⟩ := graded
        have charges (c : s.session.st ∈ [.energising, .active, .paused] ∧ ¬ contactsOpen s) :
            (e.session.st = .energising ∨ e.session.st = .active ∨ e.session.st = .paused) ∧ ¬ contactsOpen e := by
          rw [contactsOpen, onlyChanges_session first, onlyChanges_pins first]
          exact ⟨by simpa using c.1, c.2⟩
        refine ⟨assess.trans same, streaks.trans ?_, fun ha hn c => critical ha hn (charges c),
          fun ha hn hl c => stops ha hn hl (charges c), fun ha hn hl => ?_⟩
        · rw [moved]
          split <;> rfl
        · obtain ⟨origin, outcome⟩ := searches ha hn hl
          exact ⟨(congrArg Search.origin search).trans origin, fun h => outcome ((congrArg Search.outcome search).symm.trans h)⟩
      case tested =>
        have result : u = e.searchResult (.kOhm r) w := by rw [← hr]; exact searching hs
        have atBranch : e.iso.search.under = some b := by rw [taken]; exact under
        have same : e.iso.search = s.iso.search := by rw [taken]
        have node : e.node b = s.node b := State.node_congr (by rw [onlyChanges_stage first]) b
        refine ⟨fun low => ?grave, fun fair waits => ?waits, fun fair results => ⟨fun hd => ?first, fun hd hf => ?second,
          fun v hd hf => ⟨fun passes reaches => ?found, fun fails => ?cleared⟩⟩⟩
        case grave =>
          obtain ⟨st', assess', outcome, abort, under'⟩ := State.searchResult_aborted (s := e) low
          rw [← result] at st' assess' outcome abort under'
          exact ⟨st.trans st', assess.trans assess', (congrArg Search.outcome search).trans outcome,
            (congrArg Search.abort search).trans abort, (congrArg Search.under search).trans under'⟩
        case waits =>
          have stays := State.searchResult_waits (s := e) (rd := .kOhm r) (w := w) (by simpa using fair) (by rw [same]; exact waits)
          rw [← result] at stays
          exact search.trans (by rw [stays, same])
        all_goals
          have steps := result.trans (State.searchResult_steps (s := e) (by simpa using fair) (by rw [same]; exact results))
        case first =>
          refine search.trans ?_
          rw [steps, State.stepResult_first atBranch (by rw [same]; exact hd)]
          exact congrArg (fun q : Search => { q with discarded := some (.kOhm r) }) same
        case second =>
          refine search.trans ?_
          rw [steps, State.stepResult_second atBranch (by rw [same]; exact hd) (by rw [same]; exact hf)]
          exact congrArg (fun q : Search => { q with first := some ⟨.kOhm r, decide (w.warn ≤ r)⟩ }) same
        case found =>
          obtain ⟨outcome, under', marks, found, waiting, st'⟩ := State.step_finds (rd := .kOhm r) (w := w) atBranch
            (by rw [same]; exact hd) (by rw [same]; exact hf) ⟨passes, decide_eq_true reaches⟩
          rw [← steps] at outcome under' marks found waiting st'
          rw [same] at marks
          refine ⟨(congrArg Search.outcome search).trans outcome, (congrArg Search.under search).trans under',
            (congrArg Search.marks search).trans marks, ?_, ?_, st.trans (by rw [st', taken])⟩
          · exact (congrArg (b ∈ ·) memory).mpr found
          · show waits u (.isoMemory (u.iso.profileSettled u.now).memory)
            rw [memory]
            exact waiting
        case cleared =>
          have missed : ¬ (v.passes ∧ Reading.passes (.kOhm r) w) := by
            rintro ⟨passes, reaches⟩
            have reaches : w.warn ≤ r := of_decide_eq_true reaches
            rcases fails with fails | fails
            · simp [fails] at passes
            · omega
          obtain ⟨marks, phase, timer, under', queued, -⟩ := State.step_clears (rd := .kOhm r) (w := w) atBranch
            (by rw [same]; exact hd) (by rw [same]; exact hf) missed
          rw [← steps] at marks phase timer under' queued
          rw [same] at marks
          rw [node] at queued
          exact ⟨(congrArg Search.marks search).trans marks, (congrArg Search.phase search).trans phase,
            (congrArg Search.reconnectTimer search).trans (timer.trans (by rw [onlyChanges_now first])),
            (congrArg Search.under search).trans under', queued⟩
      case failed =>
        have result : u = e.searchResult .invalid w := by rw [← invalid um low]; exact searching hs
        have atBranch : e.iso.search.under = some b := by rw [taken]; exact under
        have same : e.iso.search = s.iso.search := by rw [taken]
        have node : e.node b = s.node b := State.node_congr (by rw [onlyChanges_stage first]) b
        have moved : u.iso.st = s.iso.st ∧ u.iso.assess = s.iso.assess := by
          have stays := State.searchResult_invalid (w := w) atBranch
          rw [← result, taken] at stays
          exact stays
        refine ⟨st.trans (moved.1.trans hs), assess.trans moved.2, fun waits => ?waits, fun results =>
          ⟨fun hd => ?first, fun hd hf => ?second, fun hd hf => ?cleared⟩⟩
        case waits =>
          have stays := State.searchResult_waits (s := e) (rd := .invalid) (w := w) (by simp) (by rw [same]; exact waits)
          rw [← result] at stays
          exact search.trans (by rw [stays, same])
        all_goals
          have steps := result.trans (State.searchResult_steps (s := e) (by simp) (by rw [same]; exact results))
        case first =>
          refine search.trans ?_
          rw [steps, State.stepResult_first atBranch (by rw [same]; exact hd)]
          exact congrArg (fun q : Search => { q with discarded := some .invalid }) same
        case second =>
          refine search.trans ?_
          rw [steps, State.stepResult_second atBranch (by rw [same]; exact hd) (by rw [same]; exact hf)]
          exact congrArg (fun q : Search => { q with first := some ⟨.invalid, false⟩ }) same
        case cleared =>
          obtain ⟨v, hv⟩ := Option.ne_none_iff_exists'.1 hf
          obtain ⟨marks, phase, timer, under', queued, -⟩ := State.step_clears (rd := .invalid) (w := w) atBranch
            (by rw [same]; exact hd) (by rw [same]; exact hv) (by simp [Reading.passes])
          rw [← steps] at marks phase timer under' queued
          rw [same] at marks
          rw [node] at queued
          exact ⟨(congrArg Search.marks search).trans marks, (congrArg Search.phase search).trans phase,
            (congrArg Search.reconnectTimer search).trans (timer.trans (by rw [onlyChanges_now first])),
            (congrArg Search.under search).trans under', queued⟩
      case invalid =>
        have result : u = e.gradeResult .invalid w := by rw [← invalid um low]; exact grading (by simp [hs])
        have graded := State.graded_invalid (s := e) (by rw [taken]; exact hs) w
        rw [← result, taken] at graded
        show (_ → _ → (u.iso.profileSettled u.now).st = _ ∧ (u.iso.profileSettled u.now).assess = _) ∧
          (_ → _ → (u.iso.profileSettled u.now).st = _ ∧ (u.iso.profileSettled u.now).assess = _ ∧
            (u.iso.profileSettled u.now).source = _) ∧
          (_ → (u.iso.profileSettled u.now).st = _ ∧ (u.iso.profileSettled u.now).assess = _)
        rw [st, assess, source]
        exact graded
      case frame => exact onlyChanges_trans (onlyChanges_trans (rs := injected) first judged.frame) (State.onIso_frame _ _)

end Sys2Proof.Proofs
end

section
/-! Shedding (R67): which zones go off, in which order, and where it ends. -/

-- One declaration at a time: each thread the elaborator opens takes its whole stack from the memory limit.
set_option Elab.async false

namespace Sys2Proof.Machine

open Safety

/-! ### Rows of a zone table -/

/-- The row at an index; outside the table one that heats nothing. -/
def row (zs : List Zone) (i : Nat) : Zone := zs.getD i {}

theorem State.zone_eq_row (s : State) (i : Nat) : s.zone (i + 1) = row s.heating.zones i := rfl

theorem row_of_lt {zs : List Zone} {i : Nat} (h : i < zs.length) : row zs i = zs[i] := by simp [row, h]

theorem row_mem {zs : List Zone} {i : Nat} (h : i < zs.length) : row zs i ∈ zs := by
  rw [row_of_lt h]
  exact List.getElem_mem h

theorem lt_of_heating {zs : List Zone} {i : Nat} (h : (row zs i).heat = .heating) : i < zs.length := by
  by_contra hl
  simp [row, hl] at h

theorem row_map {zs : List Zone} (f : Zone → Zone) {i : Nat} (h : i < zs.length) : row (zs.map f) i = f (row zs i) := by
  simp [row, h]

theorem row_modify {zs : List Zone} (f : Zone → Zone) {i : Nat} (h : i < zs.length) (j : Nat) :
    row (zs.modify i f) j = if j = i then f (row zs i) else row zs j := by
  by_cases hj : j = i
  · subst hj
    simp [row, h]
  · simp [row, Ne.symm hj, hj]

/-- A figure of the rows is the same over two tables that agree on it row by row. -/
theorem map_of_rows {α : Type} (g : Zone → α) {zs us : List Zone} (hl : us.length = zs.length)
    (h : ∀ i, i < zs.length → g (row us i) = g (row zs i)) : us.map g = zs.map g :=
  List.ext_getElem (by simpa using hl) fun i h1 h2 => by
    have h1' : i < us.length := by simpa using h1
    have h2' : i < zs.length := by simpa using h2
    have := h i h2'
    rw [row_of_lt h1', row_of_lt h2'] at this
    simpa using this

/-- The sum of a figure over a table with one row changed. -/
theorem sum_modify (g : Zone → Nat) (f : Zone → Zone) {zs : List Zone} {i : Nat} (h : i < zs.length) :
    ((zs.modify i f).map g).sum + g (row zs i) = (zs.map g).sum + g (f (row zs i)) := by
  induction zs generalizing i with
  | nil => simp at h
  | cons z zs ih =>
    cases i with
    | zero =>
      simp only [List.modify_zero_cons, List.map_cons, List.sum_cons, row, List.getD_cons_zero]
      omega
    | succ i =>
      have := ih (i := i) (by simpa using h)
      simp only [List.modify_succ_cons, List.map_cons, List.sum_cons, row, List.getD_cons_succ] at this ⊢
      omega

/-- Whether a zone is HEATING, as a number. -/
def Zone.lit (z : Zone) : Nat := if z.heat = .heating then 1 else 0

/-- The number of zones HEATING. -/
def litCount (zs : List Zone) : Nat := (zs.map Zone.lit).sum

theorem litCount_le (zs : List Zone) : litCount zs ≤ zs.length := by
  induction zs with
  | nil => simp [litCount]
  | cons z zs ih =>
    have : z.lit ≤ 1 := by
      unfold Zone.lit
      split <;> omega
    simp only [litCount, List.map_cons, List.sum_cons, List.length_cons] at ih ⊢
    omega

theorem heatSum_zero {zs : List Zone} (h : litCount zs = 0) : heatSum zs = 0 := by
  induction zs with
  | nil => rfl
  | cons z zs ih =>
    simp only [litCount, List.map_cons, List.sum_cons] at h
    have off : z.heat ≠ .heating := fun hz => by simp [Zone.lit, hz] at h
    have tail := ih (by simp only [litCount]; omega)
    simp only [heatSum, List.map_cons, List.sum_cons] at tail ⊢
    simp [Zone.watts, off, tail]

/-! ### One round (R67) -/

/-- R67: `x` goes off no later than `y`. -/
def Zone.noLater (x y : Zone) : Prop :=
  x.deficit < y.deficit ∨ (x.deficit = y.deficit ∧ x.rank.getD 0 ≤ y.rank.getD 0)

theorem Zone.noLater_refl (x : Zone) : x.noLater x := .inr ⟨rfl, le_rfl⟩

theorem Zone.noLater_trans {x y z : Zone} (h : x.noLater y) (h' : y.noLater z) : x.noLater z := by
  unfold Zone.noLater at *
  omega

theorem shedBefore_eq_false {x y : Zone} : shedBefore y x = false ↔ x.noLater y := by
  simp only [shedBefore, Bool.or_eq_false_iff, decide_eq_false_iff_not, Bool.and_eq_false_iff, beq_eq_false_iff_ne, Zone.noLater]
  omega

theorem shedBefore_eq_true {x y : Zone} (h : shedBefore y x = true) : y.noLater x := by
  simp only [shedBefore, Bool.or_eq_true, decide_eq_true_eq, Bool.and_eq_true, beq_iff_eq] at h
  unfold Zone.noLater
  omega

theorem shedIndex_none {zs : List Zone} {i : Nat} (h : shedIndex zs i = none) : ∀ z ∈ zs, z.heat ≠ .heating := by
  induction zs generalizing i with
  | nil => simp
  | cons z zs ih =>
    unfold shedIndex at h
    split at h
    · next hn =>
      split at h
      · simp at h
      · next cold => exact List.forall_mem_cons.2 ⟨cold, ih hn⟩
    · split at h <;> simp at h

/-- R67: the zone that a round sheds. -/
theorem shedIndex_some {zs : List Zone} {i j : Nat} {z : Zone} (h : shedIndex zs i = some (j, z)) :
    i ≤ j ∧ zs[j - i]? = some z ∧ z.heat = .heating ∧ ∀ y ∈ zs, y.heat = .heating → z.noLater y := by
  induction zs generalizing i j z with
  | nil => simp [shedIndex] at h
  | cons y ys ih =>
    unfold shedIndex at h
    split at h
    · next hn =>
      split at h
      · next hot =>
        simp only [Option.some.injEq, Prod.mk.injEq] at h
        obtain ⟨rfl, rfl⟩ := h
        refine ⟨le_rfl, by simp, hot, List.forall_mem_cons.2 ⟨fun _ => y.noLater_refl, fun x hx hot' => ?_⟩⟩
        exact absurd hot' (shedIndex_none hn x hx)
      · simp at h
    · next k b hb =>
      obtain ⟨le, at_, hot, first⟩ := ih hb
      split at h
      · next sooner =>
        simp only [Option.some.injEq, Prod.mk.injEq] at h
        obtain ⟨rfl, rfl⟩ := h
        have before : y.noLater b := shedBefore_eq_false.1 (by simpa using sooner.2)
        exact ⟨le_rfl, by simp, sooner.1, List.forall_mem_cons.2 ⟨fun _ => y.noLater_refl,
          fun x hx hot' => Zone.noLater_trans before (first x hx hot')⟩⟩
      · next later =>
        simp only [Option.some.injEq, Prod.mk.injEq] at h
        obtain ⟨rfl, rfl⟩ := h
        refine ⟨by omega, ?_, hot, List.forall_mem_cons.2 ⟨fun hot' => ?_, first⟩⟩
        · rw [show k - i = (k - (i + 1)) + 1 by omega]
          simpa using at_
        · have : shedBefore b y = true := by
            by_contra no
            exact later ⟨hot', by simpa using no⟩
          exact shedBefore_eq_true this

/-! ### The rounds (R67) -/

/-- R67: the rounds from a table of zones: the indexes shed, in order, and the table they leave. -/
inductive Sheds (limit : Nat) : List Zone → List Nat → List Zone → Prop
  | fits {zs : List Zone} (h : heatSum zs ≤ limit) : Sheds limit zs [] zs
  | round {zs us : List Zone} {i : Nat} {z : Zone} {l : List Nat} (above : limit < heatSum zs)
      (first : shedIndex zs 0 = some (i, z)) (rest : Sheds limit (zs.modify i Zone.takeOff) l us) : Sheds limit zs (i :: l) us

/-- R67: one round for each HEATING zone is enough. -/
theorem shed_sheds {fuel limit : Nat} {zs : List Zone} (h : litCount zs ≤ fuel) :
    Sheds limit zs (shed fuel limit zs).2 (shed fuel limit zs).1 := by
  induction fuel generalizing zs with
  | zero => exact .fits (by rw [heatSum_zero (by omega)]; omega)
  | succ fuel ih =>
    unfold shed
    split
    · next le => exact .fits le
    · next above =>
      split
      · next none =>
        refine absurd ?_ above
        have cold := shedIndex_none none
        have : litCount zs = 0 := List.sum_eq_zero fun x hx => by
          obtain ⟨z, hz, rfl⟩ := List.mem_map.1 hx
          simp [Zone.lit, cold z hz]
        rw [heatSum_zero this]
        omega
      · next i z first =>
        obtain ⟨-, at_, hot, -⟩ := shedIndex_some first
        have lt : i < zs.length := (List.getElem?_eq_some_iff.1 at_).1
        have lit : (row zs i).heat = .heating := by
          rw [row, List.getD_eq_getElem?_getD, show zs[i]? = some z from at_]
          exact hot
        refine .round (by omega) first (ih ?_)
        have := sum_modify Zone.lit Zone.takeOff lt
        have on : (row zs i).lit = 1 := if_pos lit
        have off : (row zs i).takeOff.lit = 0 := if_neg (Zone.takeOff_heat _)
        simp only [litCount] at h ⊢
        omega

/-- R67: what the rounds of shedding leave of a table. -/
structure ShedOut (limit : Nat) (zs : List Zone) (l : List Nat) (us : List Zone) : Prop where
  length : us.length = zs.length
  rows : ∀ j, row us j = if j ∈ l then (row zs j).takeOff else row zs j
  hot : ∀ j ∈ l, (row zs j).heat = .heating
  nodup : l.Nodup
  order : l.Pairwise fun i j => (row zs i).noLater (row zs j)
  kept : ∀ i ∈ l, ∀ j, j ∉ l → (row zs j).heat = .heating → (row zs i).noLater (row zs j)
  fits : heatSum us ≤ limit
  needed : ∀ m, l.getLast? = some m → limit < heatSum us + (row zs m).watts

theorem Sheds.out {limit : Nat} {zs us : List Zone} {l : List Nat} (h : Sheds limit zs l us) : ShedOut limit zs l us := by
  induction h with
  | fits le => exact ⟨rfl, by simp, by simp, .nil, .nil, by simp, le, by simp⟩
  | @round zs us i z l above first rest ih =>
    obtain ⟨-, at_, lit, sooner⟩ := shedIndex_some first
    have lt : i < zs.length := (List.getElem?_eq_some_iff.1 at_).1
    have here : row zs i = z := by
      rw [row, List.getD_eq_getElem?_getD, show zs[i]? = some z from at_]
      rfl
    have turned (j : Nat) : row (zs.modify i Zone.takeOff) j = if j = i then z.takeOff else row zs j := by
      rw [row_modify _ lt, here]
    have other {j : Nat} (hj : j ≠ i) : row (zs.modify i Zone.takeOff) j = row zs j := by rw [turned, if_neg hj]
    have apart : i ∉ l := fun hi => by
      have := ih.hot i hi
      rw [turned, if_pos rfl] at this
      exact Zone.takeOff_heat z this
    have ne {j : Nat} (hj : j ∈ l) : j ≠ i := fun e => apart (e ▸ hj)
    have least (j : Nat) (hj : (row zs j).heat = .heating) : (row zs i).noLater (row zs j) := by
      rw [here]
      exact sooner _ (row_mem (lt_of_heating hj)) hj
    refine ⟨by simpa using ih.length, fun j => ?_, ?_, List.nodup_cons.2 ⟨apart, ih.nodup⟩, List.pairwise_cons.2 ⟨fun j hj => ?_, ?_⟩,
      ?_, ih.fits, fun m hm => ?_⟩
    · rw [ih.rows, turned]
      by_cases hi : j = i
      · subst hi
        simp [apart, here]
      · simp [hi]
    · refine List.forall_mem_cons.2 ⟨here ▸ lit, fun j hj => ?_⟩
      rw [← other (ne hj)]
      exact ih.hot j hj
    · have := ih.hot j hj
      rw [other (ne hj)] at this
      exact least j this
    · refine ih.order.imp_of_mem fun ha hb hab => ?_
      rwa [other (ne ha), other (ne hb)] at hab
    · refine List.forall_mem_cons.2 ⟨fun j _ hot => least j hot, fun k hk j hj hot => ?_⟩
      obtain ⟨hji, hjl⟩ := not_or.1 (mt List.mem_cons.2 hj)
      have := ih.kept k hk j hjl (by rw [other hji]; exact hot)
      rwa [other (ne hk), other hji] at this
    · cases l with
      | nil =>
        obtain rfl : i = m := by simpa using hm
        cases rest
        have := sum_modify Zone.watts Zone.takeOff lt
        have off : (row zs i).takeOff.watts = 0 := if_neg (Zone.takeOff_heat _)
        simp only [heatSum] at above ⊢
        omega
      | cons k l =>
        have last : (k :: l).getLast? = some m := by simpa using hm
        have := ih.needed m last
        rwa [other (ne (List.mem_of_getLast? last))] at this

end Sys2Proof.Machine
end

section
/-! A grant taken and shed to settles O37 (R62, R67). -/

-- One declaration at a time: each thread the elaborator opens takes its whole stack from the memory limit.
set_option Elab.async false

namespace Sys2Proof.Machine

open Safety

/-! ### Ranks of two zones (R53) -/

/-- R53: two configured zones have different ranks. -/
theorem Ranked.distinct {zs : List Zone} (h : Ranked zs) {i j : Nat} (hij : i ≠ j) (hi : i < zs.length) (hj : j < zs.length)
    (ci : (row zs i).configured = true) (cj : (row zs j).configured = true) :
    (row zs i).rank.getD 0 ≠ (row zs j).rank.getD 0 := by
  obtain ⟨perm, -⟩ := h
  have nodup : ((zs.filter Zone.configured).map Zone.rank).Nodup :=
    perm.nodup_iff.2 (List.Nodup.map (Option.some_injective _) List.nodup_range)
  have apart : zs.Pairwise fun a b => a.configured = true → b.configured = true → a.rank ≠ b.rank := by
    have := List.pairwise_map.1 nodup
    exact List.pairwise_filter.1 this
  have ranked {k : Nat} (hk : k < zs.length) (ck : (row zs k).configured = true) : ∃ r, (row zs k).rank = some r := by
    have : (row zs k).rank ∈ (zs.filter Zone.configured).map Zone.rank :=
      List.mem_map_of_mem (List.mem_filter.2 ⟨row_mem hk, ck⟩)
    obtain ⟨r, -, hr⟩ := List.mem_map.1 (perm.subset this)
    exact ⟨r, hr.symm⟩
  obtain ⟨a, ha⟩ := ranked hi ci
  obtain ⟨b, hb⟩ := ranked hj cj
  have ne : (row zs i).rank ≠ (row zs j).rank := by
    rw [row_of_lt hi] at ci ⊢
    rw [row_of_lt hj] at cj ⊢
    rcases Nat.lt_or_gt_of_ne hij with lt | lt
    · exact List.pairwise_iff_getElem.1 apart i j hi hj lt ci cj
    · exact (List.pairwise_iff_getElem.1 apart j i hj hi lt cj ci).symm
  rw [ha, hb] at ne ⊢
  simpa using ne

/-- R56: a zone that has its state by its row is HEATING only if it is configured. -/
theorem Zone.heating_configured {z : Zone} (law : z.refresh = z) (h : z.heat = .heating) :
    z.configured = true ∧ z.failed = false := by
  have state : z.stateNow = .heating := (congrArg Zone.heat law).trans h
  unfold Zone.stateNow at state
  split_ifs at state
  all_goals simp_all

/-! ### Sums over the zones by number (R62) -/

/-- The zones by number. -/
def zoneNumbers : List Nat := [1, 2, 3, 4, 5, 6, 7, 8]

theorem mem_zoneNumbers {n : Nat} : n ∈ zoneNumbers ↔ 1 ≤ n ∧ n ≤ 8 := by
  simp only [zoneNumbers, List.mem_cons, List.not_mem_nil, or_false]
  omega

theorem sum_map_filter (p : Nat → Bool) (g : Nat → Nat) (l : List Nat) :
    ((l.filter p).map g).sum = (l.map fun n => if p n then g n else 0).sum := by
  induction l with
  | nil => rfl
  | cons n l ih => cases h : p n <;> simp [h, ih]

/-- R62: the sum over a table is that of the ratings of the zones that count. -/
theorem heatSum_eq_watts {s : State} {us : List Zone} (hl : us.length = 8) (p : Nat → Bool)
    (h : ∀ i, i < 8 → (row us i).watts = if p (i + 1) then ((s.zone (i + 1)).rating).getD 0 else 0) :
    heatSum us = watts s (zoneNumbers.filter p) := by
  rw [watts, sum_map_filter, heatSum]
  congr 1
  refine List.ext_getElem (by simpa [zoneNumbers] using hl) fun i h1 h2 => ?_
  have hi : i < us.length := by simpa using h1
  have number : zoneNumbers[i]'(by simpa using h2) = i + 1 := by
    have : i < 8 := hl ▸ hi
    interval_cases i <;> rfl
  simp only [List.getElem_map, number, ← h i (hl ▸ hi), row_of_lt hi]

/-! ### Shedding by number (R67) -/

section Shed

variable {s : State} {limit : Nat} {zs us : List Zone} {l : List Nat}

/-- R67: the zones that stay HEATING when a table is shed. -/
theorem ShedOut.stays (out : ShedOut limit zs l us) (j : Nat) :
    (row us j).heat = .heating ↔ (row zs j).heat = .heating ∧ j ∉ l := by
  rw [out.rows]
  split
  · next h => simp [Zone.takeOff_heat, h]
  · next h => simp [h]

/-- R67: a shed table whose rows rank and rate as the zones of `s` is one that `s` was shed to. -/
theorem ShedOut.shedTo (out : ShedOut limit zs l us) (hl : zs.length = 8) (ranked : Ranked zs)
    (configured : ∀ i, (row zs i).heat = .heating → (row zs i).configured = true)
    (same : ∀ i, i < 8 → (row zs i).rank = (s.zone (i + 1)).rank ∧ (row zs i).deficit = (s.zone (i + 1)).deficit ∧
      (row zs i).rating = (s.zone (i + 1)).rating) :
    shedTo s limit (zoneNumbers.filter fun n => decide ((row zs (n - 1)).heat = .heating))
      (zoneNumbers.filter fun n => decide ((row us (n - 1)).heat = .heating)) := by
  have on {n : Nat} : n ∈ zoneNumbers.filter (fun n => decide ((row zs (n - 1)).heat = .heating)) ↔
      ∃ i, n = i + 1 ∧ i < 8 ∧ (row zs i).heat = .heating := by
    rw [List.mem_filter, mem_zoneNumbers, decide_eq_true_eq]
    constructor
    · rintro ⟨⟨one, eight⟩, hot⟩
      exact ⟨n - 1, by omega, by omega, hot⟩
    · rintro ⟨i, rfl, hi, hot⟩
      exact ⟨by omega, hot⟩
  have kept {n : Nat} : n ∈ zoneNumbers.filter (fun n => decide ((row us (n - 1)).heat = .heating)) ↔
      ∃ i, n = i + 1 ∧ i < 8 ∧ (row zs i).heat = .heating ∧ i ∉ l := by
    rw [List.mem_filter, mem_zoneNumbers, decide_eq_true_eq, out.stays]
    constructor
    · rintro ⟨⟨one, eight⟩, hot⟩
      exact ⟨n - 1, by omega, by omega, hot⟩
    · rintro ⟨i, rfl, hi, hot⟩
      exact ⟨by omega, hot⟩
  have strict {i j : Nat} (hi : (row zs i).heat = .heating) (hj : (row zs j).heat = .heating) (hij : i ≠ j)
      (h : (row zs i).noLater (row zs j)) : needsMore s (j + 1) (i + 1) := by
    have ne := ranked.distinct hij (lt_of_heating hi) (lt_of_heating hj) (configured i hi) (configured j hj)
    obtain ⟨ri, di, -⟩ := same i (hl ▸ lt_of_heating hi)
    obtain ⟨rj, dj, -⟩ := same j (hl ▸ lt_of_heating hj)
    rw [ri, rj] at ne
    rw [Zone.noLater, ri, rj, di, dj] at h
    unfold needsMore
    omega
  have sum : heatSum us = watts s (zoneNumbers.filter fun n => decide ((row us (n - 1)).heat = .heating)) := by
    refine heatSum_eq_watts (by rw [out.length, hl]) _ fun i hi => ?_
    obtain ⟨-, -, rating⟩ := same i hi
    rw [← rating]
    show _ = if decide ((row us i).heat = .heating) = true then _ else _
    by_cases hot : (row us i).heat = .heating
    · have shed : i ∉ l := ((out.stays i).1 hot).2
      have alike : row us i = row zs i := by rw [out.rows, if_neg shed]
      rw [Zone.watts, if_pos hot, if_pos (decide_eq_true hot), alike]
    · rw [Zone.watts, if_neg hot, if_neg (by simpa using hot)]
  refine ⟨sum ▸ out.fits, fun k hk off n hn => ?_, fun changed => ?_⟩
  · obtain ⟨i, rfl, hi, hot⟩ := on.1 hk
    obtain ⟨j, rfl, hj, warm, stays⟩ := kept.1 hn
    have gone : i ∈ l := by
      by_contra stays'
      exact off (kept.2 ⟨i, rfl, hi, hot, stays'⟩)
    exact strict hot warm (fun e => stays (e ▸ gone)) (out.kept i gone j stays warm)
  · have some_shed : l ≠ [] := by
      rintro rfl
      refine changed (List.filter_congr fun n _ => ?_)
      rw [out.rows]
      rfl
    obtain ⟨pre, m, rfl⟩ := List.eq_nil_or_concat' l |>.resolve_left some_shed
    have last : m ∈ pre ++ [m] := by simp
    have warm := out.hot m last
    have lt : m < 8 := hl ▸ lt_of_heating warm
    obtain ⟨-, -, rating⟩ := same m lt
    refine ⟨m + 1, on.2 ⟨m, rfl, lt, warm⟩, fun stays => ?_, ?_, fun k hk off ne => ?_⟩
    · obtain ⟨i, hi, -, -, gone⟩ := kept.1 stays
      obtain rfl : m = i := by omega
      exact gone last
    · rw [← sum, ← rating]
      have := out.needed m (by simp)
      rwa [Zone.watts, if_pos warm] at this
    · obtain ⟨i, rfl, hi, hot⟩ := on.1 hk
      have gone : i ∈ pre ++ [m] := by
        by_contra stays
        exact off (kept.2 ⟨i, rfl, hi, hot, stays⟩)
      have hm : i ≠ m := fun e => ne (by rw [e])
      have before : i ∈ pre := by simpa [hm] using gone
      exact strict hot warm hm ((List.pairwise_append.1 out.order).2.2 i before m (by simp))

end Shed

namespace State

/-! ### A grant taken (R62, R67) -/

theorem takeGrant_posted {s : State} {p : HeatPosting} {rest : List HeatPosting} (h : s.heatIn = p :: rest) :
    s.takeGrant =
      (let x := { s.heating with grant := p.grant, allowance := p.allowance }
       let f := shed 8 x.limit x.zones
       { s with heatIn := rest }.heatStep f.2 [] false fun _ => { x with zones := f.1 }) := by
  rw [takeGrant, h]

end State

theorem Zone.refresh_hot {z : Zone} (h : z.refresh.heat = .heating) : z.heat = .heating := by
  have state : z.stateNow = .heating := h
  unfold Zone.stateNow at state
  split_ifs at state with _ _ _ keeps
  simp only [Zone.keepsHeating, Bool.and_eq_true, beq_iff_eq] at keeps
  exact keeps.1.1

/-- R57: rows worked again heat no more than before. -/
theorem heatSum_refresh_le (zs : List Zone) : heatSum (zs.map Zone.refresh) ≤ heatSum zs := by
  have le (z : Zone) : z.refresh.watts ≤ z.watts := by
    by_cases hot : z.refresh.heat = .heating
    · rw [Zone.watts, Zone.watts, if_pos hot, if_pos (Zone.refresh_hot hot)]
      exact le_rfl
    · rw [Zone.watts, if_neg hot]
      exact Nat.zero_le _
  induction zs with
  | nil => exact le_rfl
  | cons z zs ih =>
    simp only [heatSum, List.map_cons, List.sum_cons] at ih ⊢
    have := le z
    omega

/-- R67: a zone shed off a lawful row is off when its row is worked again, and any other stays as it is. -/
theorem shed_row {limit : Nat} {zs us : List Zone} {l : List Nat} (out : ShedOut limit zs l us)
    (law : ∀ z ∈ zs, z.refresh = z) (j : Nat) :
    row (us.map Zone.refresh) j = if j ∈ l then (row zs j).takeOff.refresh else row zs j := by
  by_cases hj : j < zs.length
  · rw [row_map _ (by rw [out.length]; exact hj), out.rows]
    split
    · rfl
    · exact law _ (row_mem hj)
  · have off : j ∉ l := fun h => hj (lt_of_heating (out.hot j h))
    rw [if_neg off]
    simp [row, out.length, hj]

end Sys2Proof.Machine

namespace Sys2Proof.Proofs

open Machine Safety

/-- Settles O37, by what the rounds of shedding leave of the zones. -/
theorem heatGrantTakenAndShed : Obligations.HeatGrantTakenAndShed := by
  unfold Obligations.HeatGrantTakenAndShed
  refine ⟨fun s run none => ?_, fun s p rest run posted eight law => ?_⟩
  · show Host.Outcome.next (s.whenRun State.takeGrant) = _
    rw [State.whenRun_run run, State.takeGrant, none]
  obtain ⟨x, hx⟩ : ∃ x : Heating, x = { s.heating with grant := p.grant, allowance := p.allowance } := ⟨_, rfl⟩
  obtain ⟨f, hf⟩ : ∃ f, f = shed 8 x.limit x.zones := ⟨_, rfl⟩
  obtain ⟨t, ht⟩ : ∃ t, t = { s with heatIn := rest }.heatStep f.2 [] false fun _ => { x with zones := f.1 } := ⟨_, rfl⟩
  have ran : exec .heatGrantTaken s = .next t := by
    show Host.Outcome.next (s.whenRun State.takeGrant) = _
    rw [State.whenRun_run run, State.takeGrant_posted posted, ht, hf, hx]
  have zones : x.zones = s.heating.zones := by rw [hx]
  have out : ShedOut x.limit s.heating.zones f.2 f.1 := by
    rw [hf, zones]
    exact (shed_sheds (eight ▸ litCount_le _)).out
  obtain ⟨rows, -, frame, -⟩ := State.heatStep_stepped { s with heatIn := rest } f.2 [] false fun _ => { x with zones := f.1 }
  rw [← ht] at rows frame
  obtain ⟨zonesT, -, -, source, grant, allowance, -⟩ := rows.fields
  have limit : t.heating.limit = x.limit := by simp [Heating.limit, source, grant, allowance]
  have rowT (i : Nat) : t.zone (i + 1) =
      if i ∈ f.2 then (row s.heating.zones i).takeOff.refresh else row s.heating.zones i := by
    show row t.heating.zones i = _
    rw [zonesT]
    exact shed_row out law i
  have stays (i : Nat) : (t.zone (i + 1)).heat = .heating ↔ (s.zone (i + 1)).heat = .heating ∧ i ∉ f.2 := by
    rw [rowT]
    split
    · next h => simp [Zone.refresh_takeOff, h]
    · next h => simp [h, State.zone_eq_row]
  have taken {n : Nat} (on : n ∈ heatingZones s) (off : n ∉ heatingZones t) : ∃ i, n = i + 1 ∧ i < 8 ∧ i ∈ f.2 := by
    obtain ⟨number, hot⟩ := List.mem_filter.1 on
    obtain ⟨one, -⟩ := mem_zoneNumbers.1 number
    obtain ⟨i, rfl⟩ : ∃ i, n = i + 1 := ⟨n - 1, by omega⟩
    have hot : (s.zone (i + 1)).heat = .heating := of_decide_eq_true hot
    refine ⟨i, rfl, by have := lt_of_heating hot; omega, ?_⟩
    by_contra kept
    exact off (List.mem_filter.2 ⟨number, decide_eq_true ((stays i).2 ⟨hot, kept⟩)⟩)
  refine ⟨t, ran, ?grant, ?allowance, ?source, ?heatIn, ?law, fun fits => ?fits, fun n hot => ?still, fun m n h1 h8 k1 k8 hm hn hk =>
    ?first, fun ranked => ?shed, ?ranks, fun n on off nodes => ?commanded, ?frame⟩
  case grant =>
    rw [grant, hx]
  case allowance =>
    rw [allowance, hx]
  case source =>
    rw [source, hx]
  case heatIn =>
    rw [onlyChanges_heatIn frame]
  case law =>
    rw [heatLaw, limit, zonesT]
    exact (heatSum_refresh_le _).trans out.fits
  case fits =>
    have same : f.1 = s.heating.zones := by
      rw [hf, zones, shed, if_pos (limit ▸ fits)]
    rw [zonesT]
    show f.1.map Zone.refresh = _
    rw [same]
    exact (List.map_congr_left (g := id) law).trans (List.map_id _)
  case still =>
    cases n with
    | zero => simp [State.zone] at hot
    | succ i => exact ((stays i).1 hot).1
  case first =>
    obtain ⟨i, rfl⟩ : ∃ i, m = i + 1 := ⟨m - 1, by omega⟩
    obtain ⟨j, rfl⟩ : ∃ j, n = j + 1 := ⟨n - 1, by omega⟩
    have gone : i ∈ f.2 := by
      by_contra kept
      exact hn ((stays i).2 ⟨hm, kept⟩)
    obtain ⟨hot, kept⟩ := (stays j).1 hk
    exact out.kept i gone j kept hot
  case shed =>
    have shed := out.shedTo (s := s) eight ranked
      (fun i hot => (Zone.heating_configured (law _ (row_mem (lt_of_heating hot))) hot).1) fun _ _ => ⟨rfl, rfl, rfl⟩
    have on : zoneNumbers.filter (fun n => decide ((row s.heating.zones (n - 1)).heat = .heating)) = heatingZones s :=
      List.filter_congr fun n hn => by
        obtain ⟨i, rfl⟩ : ∃ i, n = i + 1 := ⟨n - 1, by have := (mem_zoneNumbers.1 hn).1; omega⟩
        rfl
    have kept : zoneNumbers.filter (fun n => decide ((row f.1 (n - 1)).heat = .heating)) = heatingZones t :=
      List.filter_congr fun n hn => by
        obtain ⟨i, rfl⟩ : ∃ i, n = i + 1 := ⟨n - 1, by have := (mem_zoneNumbers.1 hn).1; omega⟩
        exact decide_eq_decide.2 ((out.stays i).trans (stays i).symm)
    rw [limit, ← on, ← kept]
    exact shed
  case ranks =>
    refine map_of_rows Zone.rank (by rw [zonesT]; simpa using out.length) fun i _ => ?_
    show (t.zone (i + 1)).rank = _
    rw [rowT]
    split <;> rfl
  case commanded =>
    obtain ⟨i, rfl, hi, gone⟩ := taken on off
    obtain ⟨offs, -⟩ := State.heatStep_setpoints { s with heatIn := rest } f.2 [] false (fun _ => { x with zones := f.1 }) hi (by
      show i + 4 ≤ s.stage.nodes.length
      omega)
    rw [← ht] at offs
    refine offs (by simp) (out.hot i gone) ?_
    have off : (t.zone (i + 1)).heat ≠ .heating := fun h => ((stays i).1 h).2 gone
    show (row (f.1.map Zone.refresh) i).heat ≠ .heating
    rw [shed_row out law, ← rowT]
    exact off
  case frame =>
    exact onlyChanges_trans (ps := [.heatIn]) (by simp [onlyChanges]) frame

end Sys2Proof.Proofs
end

section
/-! Arbitration (R65): who wins its rounds, in which order, and what becomes of the ranks. -/

-- One declaration at a time: each thread the elaborator opens takes its whole stack from the memory limit.
set_option Elab.async false

namespace Sys2Proof.Machine

open Safety

/-! ### One round (R65) -/

/-- R65: `x` needs heat more than `y`. -/
def Zone.beats (x y : Zone) : Prop :=
  y.deficit < x.deficit ∨ (y.deficit = x.deficit ∧ y.rank.getD 0 < x.rank.getD 0)

theorem winsOver_eq_false {x y : Zone} : winsOver y x = false ↔ y.noLater x := by
  simp only [winsOver, Bool.or_eq_false_iff, decide_eq_false_iff_not, Bool.and_eq_false_iff, beq_eq_false_iff_ne, Zone.noLater]
  omega

theorem winsOver_eq_true {x y : Zone} (h : winsOver y x = true) : x.noLater y := by
  simp only [winsOver, Bool.or_eq_true, decide_eq_true_eq, Bool.and_eq_true, beq_iff_eq] at h
  unfold Zone.noLater
  omega

theorem winner_none {zs : List Zone} {remainder i : Nat} (h : winner zs remainder i = none) :
    ∀ z ∈ zs, z.candidate remainder = false := by
  induction zs generalizing i with
  | nil => simp
  | cons z zs ih =>
    unfold winner at h
    split at h
    · next hn =>
      split at h
      · simp at h
      · next out => exact List.forall_mem_cons.2 ⟨by simpa using out, ih hn⟩
    · split at h <;> simp at h

/-- R65: no candidate of the round needs more than its winner. -/
theorem winner_greatest {zs : List Zone} {remainder i j : Nat} {z : Zone} (h : winner zs remainder i = some (j, z)) :
    ∀ y ∈ zs, y.candidate remainder = true → y.noLater z := by
  induction zs generalizing i j z with
  | nil => simp [winner] at h
  | cons y ys ih =>
    unfold winner at h
    split at h
    · next hn =>
      split at h
      · simp only [Option.some.injEq, Prod.mk.injEq] at h
        obtain ⟨-, rfl⟩ := h
        refine List.forall_mem_cons.2 ⟨fun _ => y.noLater_refl, fun x hx cand => ?_⟩
        simp [winner_none hn x hx] at cand
      · simp at h
    · next k b hb =>
      have greatest := ih hb
      split at h
      · next sooner =>
        simp only [Option.some.injEq, Prod.mk.injEq] at h
        obtain ⟨-, rfl⟩ := h
        simp only [Bool.and_eq_true, Bool.not_eq_true'] at sooner
        exact List.forall_mem_cons.2 ⟨fun _ => y.noLater_refl, fun x hx cand =>
          Zone.noLater_trans (greatest x hx cand) (winsOver_eq_false.1 sooner.2)⟩
      · next later =>
        simp only [Option.some.injEq, Prod.mk.injEq] at h
        obtain ⟨-, rfl⟩ := h
        refine List.forall_mem_cons.2 ⟨fun cand => ?_, greatest⟩
        have : winsOver b y = true := by
          by_contra no
          exact later (by simp [cand, no])
        exact winsOver_eq_true this

/-- R65: what rotation makes of a rank. -/
def raisedBelow (w r : Nat) : Nat := if r < w then r + 1 else r

/-- R65: the table after a round that `z`, at `i`, has won. -/
def crowned (i : Nat) (z : Zone) (zs : List Zone) : List Zone :=
  (rotate i (z.rank.getD 0) zs).modify i fun x => { x with heat := .heating }

theorem row_rotate {zs : List Zone} {i : Nat} {z : Zone} (h : zs[i]? = some z) (j : Nat) :
    row (rotate i (z.rank.getD 0) zs) j =
      if j = i then { z with rank := some 0 }
      else { row zs j with rank := (row zs j).rank.map (raisedBelow (z.rank.getD 0)) } := by
  have lt : i < zs.length := (List.getElem?_eq_some_iff.1 h).1
  have here : row zs i = z := by
    rw [row, List.getD_eq_getElem?_getD, h]
    rfl
  have raised : row (zs.map fun x => { x with rank := x.rank.map fun r => if r < z.rank.getD 0 then r + 1 else r }) j =
      { row zs j with rank := (row zs j).rank.map (raisedBelow (z.rank.getD 0)) } := by
    by_cases hj : j < zs.length
    · rw [row_map _ hj]
      rfl
    · simp [row, hj]
  rw [rotate, row_modify _ (by simpa using lt), raised, row_map _ lt, here]

theorem rotate_length (i w : Nat) (zs : List Zone) : (rotate i w zs).length = zs.length := by simp [rotate]

theorem crowned_length (i : Nat) (z : Zone) (zs : List Zone) : (crowned i z zs).length = zs.length := by
  rw [crowned, List.length_modify, rotate_length]

theorem row_crowned {zs : List Zone} {i : Nat} {z : Zone} (h : zs[i]? = some z) (j : Nat) :
    row (crowned i z zs) j =
      if j = i then { z with rank := some 0, heat := .heating }
      else { row zs j with rank := (row zs j).rank.map (raisedBelow (z.rank.getD 0)) } := by
  have lt : i < zs.length := (List.getElem?_eq_some_iff.1 h).1
  rw [crowned, row_modify _ (by rw [rotate_length]; exact lt)]
  by_cases hj : j = i
  · rw [if_pos hj, if_pos hj, row_rotate h, if_pos rfl]
  · rw [if_neg hj, if_neg hj, row_rotate h, if_neg hj]

/-- The sum of a figure that no rank changes, after a round. -/
theorem sum_crowned (g : Zone → Nat) (hg : ∀ (x : Zone) (k : Option Nat), g { x with rank := k } = g x) {zs : List Zone} {i : Nat}
    {z : Zone} (h : zs[i]? = some z) :
    ((crowned i z zs).map g).sum + g z = (zs.map g).sum + g { z with heat := .heating } := by
  have lt : i < zs.length := (List.getElem?_eq_some_iff.1 h).1
  have here : row zs i = z := by
    rw [row, List.getD_eq_getElem?_getD, h]
    rfl
  have rotated : (rotate i (z.rank.getD 0) zs).map g = zs.map g := by
    refine map_of_rows g (rotate_length ..) fun j _ => ?_
    rw [row_rotate h]
    split
    · next e => rw [hg, e, here]
    · rw [hg]
  have := sum_modify g (fun x => { x with heat := .heating }) (zs := rotate i (z.rank.getD 0) zs) (i := i)
    (by rw [rotate_length]; exact lt)
  rw [row_rotate h, if_pos rfl, rotated, hg] at this
  exact this.trans (congrArg _ (hg { z with heat := .heating } (some 0)))

/-- R65: a candidate is dark, and fits. -/
theorem Zone.candidate_dark {z : Zone} {remainder : Nat} (h : z.candidate remainder = true) :
    z.heat ≠ .heating ∧ z.rating.getD 0 ≤ remainder ∧ z.demands = true ∧ z.failed = false := by
  simp only [Zone.candidate, Bool.and_eq_true, Bool.not_eq_true', bne_iff_ne, decide_eq_true_eq] at h
  obtain ⟨⟨⟨demands, sound⟩, dark⟩, fits⟩ := h
  exact ⟨dark, fits, demands, sound⟩

theorem Zone.candidate_of {z : Zone} {remainder : Nat} (dark : z.heat ≠ .heating) (fits : z.rating.getD 0 ≤ remainder)
    (demands : z.demands = true) (sound : z.failed = false) : z.candidate remainder = true := by
  simp [Zone.candidate, dark, fits, demands, sound]

/-! ### The rounds (R65) -/

/-- R65: the rounds from a table of zones: the indexes of the winners, in order, and the table they leave. -/
inductive Rounds : Nat → List Zone → List Nat → List Zone → Prop
  | done {remainder : Nat} {zs : List Zone} (none : winner zs remainder 0 = none) : Rounds remainder zs [] zs
  | round {remainder : Nat} {zs us : List Zone} {i : Nat} {z : Zone} {l : List Nat} (first : winner zs remainder 0 = some (i, z))
      (rest : Rounds (remainder - z.rating.getD 0) (crowned i z zs) l us) : Rounds remainder zs (i :: l) us

theorem litCount_crowned {remainder : Nat} {zs : List Zone} {i : Nat} {z : Zone} (first : winner zs remainder 0 = some (i, z)) :
    litCount (crowned i z zs) = litCount zs + 1 := by
  obtain ⟨cand, -, at_⟩ := winner_spec first
  have sum := sum_crowned Zone.lit (fun _ _ => rfl) at_
  have dark : z.lit = 0 := if_neg (Zone.candidate_dark cand).1
  have lit : ({ z with heat := .heating } : Zone).lit = 1 := rfl
  rw [dark, lit] at sum
  exact sum

/-- R65: one round for each zone that is dark is enough. -/
theorem arbitrate_rounds {fuel remainder : Nat} {zs : List Zone} (h : zs.length ≤ litCount zs + fuel) :
    ∃ l, (arbitrate fuel remainder zs).2 = l.map (· + 1) ∧ Rounds remainder zs l (arbitrate fuel remainder zs).1 := by
  induction fuel generalizing remainder zs with
  | zero =>
    refine ⟨[], rfl, .done ?_⟩
    cases first : winner zs remainder 0 with
    | none => rfl
    | some p =>
      have more := litCount_crowned first
      have most := litCount_le (crowned p.1 p.2 zs)
      rw [crowned_length] at most
      omega
  | succ fuel ih =>
    unfold arbitrate
    split
    · next none => exact ⟨[], rfl, .done none⟩
    · next i z first =>
      have more := litCount_crowned first
      obtain ⟨l, hl, rounds⟩ := ih (remainder := remainder - z.rating.getD 0) (zs := crowned i z zs)
        (by rw [crowned_length]; omega)
      exact ⟨i :: l, congrArg (List.cons (i + 1)) hl, .round first rounds⟩

/-- R65: what the rounds leave of a table. -/
structure RoundsOut (remainder : Nat) (zs : List Zone) (l : List Nat) (us : List Zone) : Prop where
  length : us.length = zs.length
  won : ∀ i ∈ l, (row zs i).candidate remainder = true
  rows : ∀ j, ∃ k, row us j = { row zs j with rank := k, heat := if j ∈ l then .heating else (row zs j).heat }
  nodup : l.Nodup
  spent : ∃ left, left + heatSum us = remainder + heatSum zs ∧ winner us left 0 = none

theorem Rounds.out {remainder : Nat} {zs us : List Zone} {l : List Nat} (h : Rounds remainder zs l us) :
    RoundsOut remainder zs l us := by
  induction h with
  | done none => exact ⟨rfl, by simp, fun j => ⟨_, rfl⟩, .nil, _, rfl, none⟩
  | @round remainder zs us i z l first rest ih =>
    obtain ⟨cand, -, at_⟩ := winner_spec first
    rw [Nat.sub_zero] at at_
    have here : row zs i = z := by
      rw [row, List.getD_eq_getElem?_getD, at_]
      rfl
    obtain ⟨dark, fits, -, -⟩ := Zone.candidate_dark cand
    have turned := row_crowned at_
    have apart : i ∉ l := fun hi => by
      have lit := (Zone.candidate_dark (ih.won i hi)).1
      rw [turned, if_pos rfl] at lit
      exact lit rfl
    refine ⟨ih.length.trans (crowned_length ..), List.forall_mem_cons.2 ⟨here ▸ cand, fun j hj => ?_⟩, fun j => ?_,
      List.nodup_cons.2 ⟨apart, ih.nodup⟩, ?_⟩
    · have ne : j ≠ i := fun e => apart (e ▸ hj)
      have won := ih.won j hj
      rw [turned, if_neg ne] at won
      obtain ⟨dark', fits', demands, sound⟩ := Zone.candidate_dark won
      exact Zone.candidate_of dark' (fits'.trans (Nat.sub_le ..)) demands sound
    · obtain ⟨k, hk⟩ := ih.rows j
      refine ⟨k, ?_⟩
      rw [hk, turned]
      by_cases e : j = i
      · subst e
        simp [apart, here]
      · simp [e]
    · obtain ⟨left, sum, none⟩ := ih.spent
      refine ⟨left, ?_, none⟩
      have step := sum_crowned Zone.watts (fun _ _ => rfl) at_
      have off : z.watts = 0 := if_neg dark
      have on : ({ z with heat := .heating } : Zone).watts = z.rating.getD 0 := rfl
      simp only [heatSum] at sum ⊢
      omega

/-! ### Ranks and the order of winning (R65) -/

theorem raisedBelow_le {w a b : Nat} (h : a ≤ b) : raisedBelow w a ≤ raisedBelow w b := by
  unfold raisedBelow
  split <;> split <;> omega

theorem raisedBelow_lt_iff {w a b : Nat} (hb : b ≠ w) : raisedBelow w a < raisedBelow w b ↔ a < b := by
  unfold raisedBelow
  split <;> split <;> omega

/-- R53: a configured zone holds a rank. -/
theorem Ranked.holds {zs : List Zone} (h : Ranked zs) {i : Nat} (hi : i < zs.length) (hc : (row zs i).configured = true) :
    ∃ r, (row zs i).rank = some r := by
  have : zs[i]? = some (row zs i) := by
    rw [row_of_lt hi]
    exact List.getElem?_eq_getElem hi
  obtain ⟨w, hw, -⟩ := h.configured_row this hc
  exact ⟨w, hw⟩

/-- R65: the ranks rise together, so a zone that needs more after a round did so before it. -/
theorem beats_of_raised {x y : Zone} {w : Nat} (hx : ∃ r, x.rank = some r) (hy : ∃ r, y.rank = some r)
    (h : Zone.beats { x with rank := x.rank.map (raisedBelow w) } { y with rank := y.rank.map (raisedBelow w) }) : x.beats y := by
  obtain ⟨a, ha⟩ := hx
  obtain ⟨b, hb⟩ := hy
  rcases h with h | ⟨h, lt⟩
  · exact .inl h
  · refine .inr ⟨h, ?_⟩
    simp only [ha, hb, Option.map_some, Option.getD_some] at lt ⊢
    by_contra le
    have := raisedBelow_le (w := w) (Nat.le_of_not_lt le)
    omega

/-- R65: what the rounds leave of the ranks, and the order of the winners. -/
structure RoundsRanked (zs : List Zone) (l : List Nat) (us : List Zone) : Prop where
  losers : ∀ j, j ∉ l → (row us j).rank = (row zs j).rank.map fun r =>
    r + l.countP fun i => decide (r < (row zs i).rank.getD 0)
  winners : ∀ pre i post, l = pre ++ i :: post → (row us i).rank = some post.length ∧
    (∀ m ∈ post, (row zs i).beats (row zs m)) ∧
    ∀ j, j ∉ l → (row zs j).candidate ((row zs i).rating.getD 0) = true → (row zs i).beats (row zs j)

theorem Rounds.ranked {remainder : Nat} {zs us : List Zone} {l : List Nat} (h : Rounds remainder zs l us) (law : Ranked zs) :
    RoundsRanked zs l us := by
  induction h with
  | done none => exact ⟨fun j _ => by simp, fun pre i post h => by simp at h⟩
  | @round remainder zs us i z l first rest ih =>
    obtain ⟨cand, -, at_⟩ := winner_spec first
    rw [Nat.sub_zero] at at_
    have lt : i < zs.length := (List.getElem?_eq_some_iff.1 at_).1
    have here : row zs i = z := by
      rw [row, List.getD_eq_getElem?_getD, at_]
      rfl
    obtain ⟨dark, fits, -, -⟩ := Zone.candidate_dark cand
    have configured := Zone.candidate_configured cand
    have turned := row_crowned at_
    have out := (Rounds.round first rest).out
    have outRest := rest.out
    obtain ⟨apart, -⟩ := List.nodup_cons.1 out.nodup
    have ne {j : Nat} (hj : j ∈ l) : j ≠ i := fun e => apart (e ▸ hj)
    have other {j : Nat} (hj : j ≠ i) :
        row (crowned i z zs) j = { row zs j with rank := (row zs j).rank.map (raisedBelow (z.rank.getD 0)) } := by
      rw [turned, if_neg hj]
    have inside {j : Nat} (hj : j ∈ l) : j < zs.length ∧ (row zs j).configured = true := by
      have won := Zone.candidate_configured (out.won j (List.mem_cons_of_mem _ hj))
      refine ⟨?_, won⟩
      by_contra no
      simp [row, no] at won
    have lawNext : Ranked (crowned i z zs) :=
      Ranked.modify (law.rotate at_ configured) i fun _ => ⟨rfl, rfl⟩
    obtain ⟨losers, winners⟩ := ih lawNext
    have greatest (j : Nat) (hj : j ≠ i) (cand' : (row zs j).candidate remainder = true) : z.beats (row zs j) := by
      have conf := Zone.candidate_configured cand'
      have ltj : j < zs.length := by
        by_contra no
        simp [row, no] at conf
      have le := winner_greatest first _ (row_mem ltj) cand'
      have ranks := law.distinct hj ltj lt conf (here ▸ configured)
      rw [here] at ranks
      unfold Zone.noLater at le
      unfold Zone.beats
      omega
    have rankOf {k : Nat} (hk : k ∈ l) : ∃ q, (row zs k).rank = some q ∧ q ≠ z.rank.getD 0 ∧
        (row (crowned i z zs) k).rank = some (raisedBelow (z.rank.getD 0) q) := by
      obtain ⟨ltk, confk⟩ := inside hk
      obtain ⟨q, hq⟩ := law.holds ltk confk
      have apart := law.distinct (ne hk) ltk lt confk (here ▸ configured)
      rw [hq, here] at apart
      exact ⟨q, hq, apart, by rw [other (ne hk), hq]; rfl⟩
    refine ⟨fun j hj => ?_, fun pre k post split => ?_⟩
    · obtain ⟨hji, hjl⟩ := not_or.1 (mt List.mem_cons.2 hj)
      have moved := losers j hjl
      rw [other hji] at moved
      rw [moved]
      cases hr : (row zs j).rank with
      | none => simp
      | some r =>
        have count : (l.countP fun k => decide (raisedBelow (z.rank.getD 0) r < (row (crowned i z zs) k).rank.getD 0)) =
            l.countP fun k => decide (r < (row zs k).rank.getD 0) :=
          List.countP_congr fun k hk => by
            obtain ⟨q, hq, hne, hq'⟩ := rankOf hk
            rw [hq, hq']
            simpa using raisedBelow_lt_iff hne
        simp only [Option.map_some, count, List.countP_cons, here, decide_eq_true_eq]
        unfold raisedBelow
        split <;> exact congrArg some (by omega)
    · cases pre with
      | nil =>
        obtain ⟨rfl, rfl⟩ : i = k ∧ l = post := by simpa using split
        refine ⟨?_, fun m hm => ?_, fun j hj candj => ?_⟩
        · rw [losers i apart, turned, if_pos rfl]
          have count : (l.countP fun k => decide (0 < (row (crowned i z zs) k).rank.getD 0)) = l.length :=
            List.countP_eq_length.2 fun k hk => by
              obtain ⟨q, -, hne, hq'⟩ := rankOf hk
              rw [hq']
              simp only [Option.getD_some, decide_eq_true_eq]
              unfold raisedBelow
              split <;> omega
          simp [count]
        · rw [here]
          exact greatest m (ne hm) (out.won m (List.mem_cons_of_mem _ hm))
        · obtain ⟨hji, -⟩ := not_or.1 (mt List.mem_cons.2 hj)
          obtain ⟨dark', fits', demands, sound⟩ := Zone.candidate_dark candj
          rw [here] at fits' ⊢
          exact greatest j hji (Zone.candidate_of dark' (fits'.trans fits) demands sound)
      | cons p pre =>
        obtain ⟨rfl, rfl⟩ : i = p ∧ l = pre ++ k :: post := by simpa using split
        obtain ⟨rank, before, over_⟩ := winners pre k post rfl
        have hk : k ∈ pre ++ k :: post := by simp
        obtain ⟨ltk, confk⟩ := inside hk
        have holdsk := law.holds ltk confk
        refine ⟨rank, fun m hm => ?_, fun j hj candj => ?_⟩
        · have hm' : m ∈ pre ++ k :: post := by simp [hm]
          obtain ⟨ltm, confm⟩ := inside hm'
          have := before m hm
          rw [other (ne hk), other (ne hm')] at this
          exact beats_of_raised holdsk (law.holds ltm confm) this
        · obtain ⟨hji, hjl⟩ := not_or.1 (mt List.mem_cons.2 hj)
          have conf := Zone.candidate_configured candj
          have ltj : j < zs.length := by
            by_contra no
            simp [row, no] at conf
          have := over_ j hjl (by rw [other (ne hk), other hji]; exact candj)
          rw [other (ne hk), other hji] at this
          exact beats_of_raised holdsk (law.holds ltj conf) this

end Sys2Proof.Machine
end

section
/-! The heat period settles O36 (R61 to R67). -/

-- One declaration at a time: each thread the elaborator opens takes its whole stack from the memory limit.
set_option Elab.async false

namespace Sys2Proof.Machine

open Safety

/-! ### One zone's row (R55, R56) -/

/-- A zone's row but for its rank and its heat state. -/
def Zone.sameRow (y z : Zone) : Prop := ∃ k h, y = { z with rank := k, heat := h }

theorem Zone.sameRow_refl (z : Zone) : z.sameRow z := ⟨_, _, rfl⟩

theorem Zone.sameRow_trans {x y z : Zone} (h : y.sameRow z) (h' : x.sameRow y) : x.sameRow z := by
  obtain ⟨k, a, rfl⟩ := h
  obtain ⟨k', a', rfl⟩ := h'
  exact ⟨k', a', rfl⟩

/-- R55: what a demand takes. -/
theorem Zone.demands_iff (z : Zone) : z.demands = true ↔
    z.configured = true ∧ z.enabled = true ∧ z.isolation = .none ∧ z.node = .active ∧ z.rating.isSome = true ∧
      ∃ t, z.temp = some t ∧ if z.heat = .heating then t < z.target else t ≤ z.target - z.hyst := by
  unfold Zone.demands
  cases z.temp with
  | none => simp
  | some t => by_cases lit : z.heat = .heating <;> simp [lit, and_assoc]

/-- R56, R57: what the state HEATING by the row takes. -/
theorem Zone.stateNow_heating {z : Zone} (free : z.isolation = .none) (configured : z.configured = true) (enabled : z.enabled = true)
    (sound : z.failed = false) (keeps : z.keepsHeating = true) : z.stateNow = .heating := by
  rw [Zone.stateNow, if_neg (by simp [free]), if_neg (by simp [configured, enabled]), if_neg (by simp [sound]), if_pos keeps]

/-- R55: the demand of a zone that is not HEATING, whatever its state and rank. -/
theorem Zone.demands_dark {y z : Zone} (h : y.sameRow z) (dark : y.heat ≠ .heating) :
    y.demands = ({ z with heat := .idle } : Zone).demands := by
  obtain ⟨k, a, rfl⟩ := h
  have dark : a ≠ .heating := dark
  simp [Zone.demands, dark]

/-- R55: with a hysteresis band, a zone that demands while it is not HEATING demands in any state. -/
theorem Zone.demands_of_dark {z : Zone} (band : 1 ≤ z.hyst) (h : ({ z with heat := .idle } : Zone).demands = true) :
    z.demands = true := by
  obtain ⟨configured, enabled, free, active, rated, t, temp, cold⟩ := (Zone.demands_iff _).1 h
  refine (Zone.demands_iff z).2 ⟨configured, enabled, free, active, rated, t, temp, ?_⟩
  have cold : t ≤ z.target - (z.hyst : Int) := cold
  split
  · have : (1 : Int) ≤ z.hyst := by exact_mod_cast band
    exact lt_of_le_of_lt cold (sub_lt_self _ (lt_of_lt_of_le zero_lt_one this))
  · exact cold

/-- R56, R57: a zone chosen on its demand is HEATING by its row. -/
theorem Zone.refresh_chosen {y z : Zone} (h : y.sameRow z) (lit : y.heat = .heating) (sound : z.failed = false)
    (demands : z.demands = true) : y.refresh.heat = .heating := by
  obtain ⟨k, a, rfl⟩ := h
  obtain rfl : a = .heating := lit
  obtain ⟨configured, enabled, free, active, -, t, temp, -⟩ := (Zone.demands_iff z).1 demands
  exact Zone.stateNow_heating free configured enabled sound (by simp [Zone.keepsHeating, active, temp])

/-- R56: a zone that demands without heating is WAITING by its row. -/
theorem Zone.refresh_waits {z : Zone} (dark : z.refresh.heat ≠ .heating) (demands : z.refresh.demands = true)
    (sound : z.refresh.failed = false) : z.refresh.heat = .waiting := by
  obtain ⟨configured, enabled, free, active, rated, t, temp, cold⟩ := (Zone.demands_iff _).1 demands
  rw [if_neg dark] at cold
  have cold : t ≤ z.target - (z.hyst : Int) := cold
  have wants : ({ z with heat := .idle } : Zone).demands = true :=
    (Zone.demands_iff _).2 ⟨configured, enabled, free, active, rated, t, temp, cold⟩
  have keeps : ¬ z.keepsHeating = true := fun k => dark (Zone.stateNow_heating free configured enabled sound k)
  have free : z.isolation = .none := free
  have configured : z.configured = true := configured
  have enabled : z.enabled = true := enabled
  have sound : z.failed = false := sound
  show z.stateNow = .waiting
  rw [Zone.stateNow, if_neg (by simp [free]), if_neg (by simp [configured, enabled]), if_neg (by simp [sound]), if_neg keeps,
    if_pos wants]

/-- R56: what a zone that is WAITING by its row stands for. -/
theorem Zone.refresh_waiting {z : Zone} (h : z.refresh.heat = .waiting) :
    z.failed = false ∧ ({ z with heat := .idle } : Zone).demands = true ∧ z.heat ≠ .heating := by
  have state : z.stateNow = .waiting := h
  unfold Zone.stateNow at state
  split_ifs at state with _ _ failed keeps wants
  refine ⟨by simpa using failed, wants, fun lit => ?_⟩
  obtain ⟨-, -, -, active, -, t, temp, -⟩ := (Zone.demands_iff _).1 wants
  have active : z.node = .active := active
  have temp : z.temp = some t := temp
  exact keeps (by simp [Zone.keepsHeating, lit, active, temp])

/-! ### The allocation (R61, R64, R65) -/

theorem row_retire (zs : List Zone) (i : Nat) :
    (row (retire zs) i).sameRow (row zs i) ∧ (row (retire zs) i).rank = (row zs i).rank ∧
      ((row (retire zs) i).heat = .heating ↔ (row zs i).heat = .heating ∧ (row zs i).demands = true) := by
  by_cases hi : i < zs.length
  · rw [retire, row_map _ hi]
    split
    · next h =>
      have idle : ¬ (row zs i).demands = true := by simpa using h.2
      exact ⟨⟨(row zs i).rank, _, rfl⟩, rfl, ⟨fun lit => absurd lit (Zone.takeOff_heat _), fun lit => absurd lit.2 idle⟩⟩
    · next h => exact ⟨Zone.sameRow_refl _, rfl, ⟨fun lit => ⟨lit, by_contra fun idle => h ⟨lit, by simpa using idle⟩⟩, And.left⟩⟩
  · have out : row (retire zs) i = row zs i := by simp [row, retire, hi]
    rw [out]
    refine ⟨Zone.sameRow_refl _, rfl, ⟨fun lit => absurd (lt_of_heating lit) hi, And.left⟩⟩

/-- What an allocation does to a table of zones: which were chosen anew, and which were kept. -/
structure Allotted (zs us : List Zone) (won : List Nat) : Prop where
  length : us.length = zs.length
  rows : ∀ i, (row us i).sameRow (row zs i)
  kept : ∀ i, (row us i).heat = .heating → i ∉ won → (row zs i).heat = .heating ∧ (row zs i).demands = true
  won : ∀ i ∈ won, (row us i).heat = .heating ∧ (row zs i).failed = false ∧ ({ row zs i with heat := .idle } : Zone).demands = true

namespace Heating

/-- R61: the controller with the source chosen afresh. -/
def chosen (h : Heating) : Heating := { h with source := h.chooseSource }

theorem allocate_dark {h : Heating} (dark : h.chooseSource = .none) : allocate h = ({ h.chosen with zones := allOff h.zones }, [], []) :=
  if_pos dark

theorem allocate_lit {h : Heating} (lit : h.chooseSource ≠ .none) :
    allocate h =
      (let f := shed 8 h.chosen.limit (retire h.zones)
       let r := arbitrate 8 (h.chosen.limit - heatSum f.1) f.1
       ({ h.chosen with zones := r.1 }, f.2, r.2)) := if_neg lit

/-- R64, R65: the shedding and the rounds of an allocation with a source. -/
theorem allocate_rounds {h : Heating} (eight : h.zones.length = 8) (lit : h.chooseSource ≠ .none) :
    ∃ l fs won, ShedOut h.chosen.limit (retire h.zones) l fs ∧
      Rounds (h.chosen.limit - heatSum fs) fs won (allocate h).1.zones ∧ (allocate h).2.2 = won.map (· + 1) ∧
      (allocate h).1 = { h.chosen with zones := (allocate h).1.zones } := by
  have eight' : (retire h.zones).length = 8 := by simpa [retire] using eight
  have out := (shed_sheds (limit := h.chosen.limit) (zs := retire h.zones) (fuel := 8) (eight' ▸ litCount_le _)).out
  rw [allocate_lit lit]
  dsimp only
  obtain ⟨f, hf⟩ : ∃ f, f = shed 8 h.chosen.limit (retire h.zones) := ⟨_, rfl⟩
  rw [← hf] at out ⊢
  obtain ⟨won, numbers, rounds⟩ := arbitrate_rounds (fuel := 8) (remainder := h.chosen.limit - heatSum f.1) (zs := f.1)
    (by rw [out.length, eight']; omega)
  exact ⟨f.2, f.1, won, out, rounds, numbers, rfl⟩

end Heating

/-- R67: shedding moves the heat states of a table alone. -/
theorem shed_retired {limit : Nat} {zs fs : List Zone} {l : List Nat} (out : ShedOut limit (retire zs) l fs) (i : Nat) :
    (row fs i).sameRow (row zs i) ∧ (row fs i).rank = (row zs i).rank := by
  obtain ⟨same, rank, -⟩ := row_retire zs i
  rw [out.rows]
  split
  · exact ⟨Zone.sameRow_trans same ⟨(row (retire zs) i).rank, _, rfl⟩, rank⟩
  · exact ⟨same, rank⟩

/-- R64, R65: what shedding and the rounds of an arbitration leave of a table that was retired. -/
theorem allotted_of_rounds {limit remainder : Nat} {zs fs us : List Zone} {l won : List Nat} (out : ShedOut limit (retire zs) l fs)
    (rounds : RoundsOut remainder fs won us) : Allotted zs us won := by
  have shedRow (i : Nat) := (shed_retired out i).1
  refine ⟨rounds.length.trans (out.length.trans (by simp [retire])), fun i => ?_, fun i lit lost => ?_, fun i hi => ?_⟩
  · obtain ⟨k, hk⟩ := rounds.rows i
    exact Zone.sameRow_trans (shedRow i) ⟨k, _, hk⟩
  · obtain ⟨k, hk⟩ := rounds.rows i
    rw [hk, if_neg lost] at lit
    exact (row_retire zs i).2.2.1 ((out.stays i).1 lit).1
  · obtain ⟨k, hk⟩ := rounds.rows i
    obtain ⟨dark, -, demands, sound⟩ := Zone.candidate_dark (rounds.won i hi)
    obtain ⟨k', a, same⟩ := shedRow i
    refine ⟨by rw [hk, if_pos hi], ?_, ?_⟩
    · rw [same] at sound
      exact sound
    · rw [← Zone.demands_dark (shedRow i) dark]
      exact demands

theorem Heating.allocate_allotted {h : Heating} (eight : h.zones.length = 8) :
    ∃ won, (allocate h).2.2 = won.map (· + 1) ∧ Allotted h.zones (allocate h).1.zones won ∧
      heatSum (allocate h).1.zones ≤ h.chosen.limit ∧
      (allocate h).1 = { h.chosen with zones := (allocate h).1.zones } ∧
      (h.chooseSource = .none → (allocate h).1.zones = allOff h.zones) := by
  by_cases dark : h.chooseSource = .none
  · rw [allocate_dark dark]
    have off (i : Nat) : (row (allOff h.zones) i).sameRow (row h.zones i) ∧ (row (allOff h.zones) i).heat ≠ .heating := by
      by_cases hi : i < h.zones.length
      · rw [allOff, row_map _ hi]
        exact ⟨⟨(row h.zones i).rank, _, rfl⟩, Zone.takeOff_heat _⟩
      · have out : row (allOff h.zones) i = row h.zones i := by simp [row, allOff, hi]
        rw [out]
        exact ⟨Zone.sameRow_refl _, fun lit => hi (lt_of_heating lit)⟩
    refine ⟨[], rfl, ⟨by simp [allOff], fun i => (off i).1, fun i lit => absurd lit (off i).2, by simp⟩, ?_, rfl, fun _ => rfl⟩
    have cold : litCount (allOff h.zones) = 0 := List.sum_eq_zero fun x hx => by
      simp only [allOff, List.map_map, List.mem_map, Function.comp_apply] at hx
      obtain ⟨z, -, rfl⟩ := hx
      exact if_neg (Zone.takeOff_heat z)
    show heatSum (allOff h.zones) ≤ _
    rw [heatSum_zero cold]
    exact Nat.zero_le _
  · obtain ⟨l, fs, won, out, rounds, numbers, same⟩ := allocate_rounds eight dark
    obtain ⟨left, sum, -⟩ := rounds.out.spent
    have := out.fits
    exact ⟨won, numbers, allotted_of_rounds out rounds.out, by omega, same, fun h => absurd h dark⟩

namespace State

/-! ### The heat period's event (R64, R68) -/

/-- R68: a heat on figure that changed is posted. -/
theorem heatStep_posts (s : State) (shed chosen : List Nat) (ranked : Bool) (f : Heating → Heating)
    (changed : ({ f s.heating with zones := (f s.heating).zones.map Zone.refresh } : Heating).heatOn ≠ (f s.heating).postedHeatOn) :
    BudgetPosting.heatOn ({ f s.heating with zones := (f s.heating).zones.map Zone.refresh } : Heating).heatOn ∈
      (s.heatStep shed chosen ranked f).budgetIn := by
  obtain ⟨h, hh⟩ : ∃ h : Heating, h = { f s.heating with zones := (f s.heating).zones.map Zone.refresh } := ⟨_, rfl⟩
  obtain ⟨v, hv⟩ : ∃ v, v = ((s.onHeating fun h => let h := f h; { h with zones := h.zones.map Zone.refresh }).writeOffs
    s.heating.zones shed).writeOns chosen := ⟨_, rfl⟩
  have heating : v.heating = h := by
    rw [hv, onlyChanges_heating (writeOns_frame _ _), onlyChanges_heating (writeOffs_frame _ _ _), hh]
    rfl
  obtain ⟨b, c, step⟩ : ∃ b c, s.heatStep shed chosen ranked f = (v.postHeatOn b).postDemands.postMinTemp.doIf c (fun s => s.raise .heat) := by
    rw [hv]
    exact ⟨_, _, rfl⟩
  have posted : BudgetPosting.heatOn h.heatOn ∈ (v.postHeatOn b).budgetIn := by
    rw [postHeatOn, heating, if_pos (.inl (by rw [hh]; exact changed))]
    simp [postBudget]
  have onward := (((postDemands_rows (v.postHeatOn b)).2.trans (postMinTemp_rows _).2).doIf c _ fun t => Onward.raise t .heat).budgetIn
  rw [step, ← hh]
  exact onward.subset posted

/-- R64: a new heat period begins as one ends. -/
def heatBegun (s : State) : State := s.onHeating fun h => { h with heatPeriod := some s.now }

/-- R64: a heat period expires. -/
theorem exec_heatPeriod {s : State} (run : s.power.part = .run) (runs : s.heating.heatPeriod ≠ none) :
    exec .heatPeriodExpiry s = .next
      (s.heatBegun.heatStep (allocate s.heatBegun.heating).2.1 (allocate s.heatBegun.heating).2.2 true
        fun _ => (allocate s.heatBegun.heating).1) := by
  obtain ⟨n, hn⟩ := Option.ne_none_iff_exists'.1 runs
  show Host.Outcome.next (s.whenRun heatPeriodEvent) = _
  rw [whenRun_run run, heatPeriodEvent, doIf_eq, if_pos (by rw [hn]; rfl)]
  rfl

end State

end Sys2Proof.Machine

namespace Sys2Proof.Proofs

open Machine Safety

/-- R65 to R67: what the rounds of a heat period did, by the zones' numbers. -/
theorem heatPeriod_rounds {s t : State} {limit : Nat} {l won : List Nat} {fs us : List Zone} (eight : s.heating.zones.length = 8)
    (bands : ∀ z ∈ s.heating.zones, 1 ≤ z.hyst) (zlaw : zoneLaw s) (rlaw : rankLaw s)
    (out : ShedOut limit (retire s.heating.zones) l fs) (rounds : Rounds (limit - heatSum fs) fs won us)
    (zonesT : t.heating.zones = us.map Zone.refresh) (limitT : t.heating.limit = limit) :
    let focus := (heatingZones s).filter fun n => (s.zone n).demands
    ∃ won : List Nat,
      let kept := focus.filter fun n => decide (n ∈ heatingZones t ∧ n ∉ won)
      shedTo s limit focus kept ∧ (∀ n ∈ heatingZones t, n ∈ kept ∨ n ∈ won) ∧ arbitrated s t won := by
  intro focus
  have allotted := allotted_of_rounds out rounds.out
  have length : (retire s.heating.zones).length = 8 := by simpa [retire] using eight
  have numbered {n : Nat} (h : n ∈ zoneNumbers) : ∃ i, n = i + 1 ∧ i < 8 := by
    obtain ⟨one, most⟩ := mem_zoneNumbers.1 h
    exact ⟨n - 1, by omega, by omega⟩
  have number {i : Nat} (hi : i < 8) : i + 1 ∈ zoneNumbers := mem_zoneNumbers.2 (by omega)
  have rowT {i : Nat} (hi : i < 8) : t.zone (i + 1) = (row us i).refresh := by
    show row t.heating.zones i = _
    rw [zonesT]
    exact row_map _ (by rw [allotted.length, eight]; exact hi)
  have fsRow (i : Nat) := shed_retired out i
  have usRow {i : Nat} : (row us i).heat = if i ∈ won then .heating else (row fs i).heat := by
    obtain ⟨k, hk⟩ := rounds.out.rows i
    rw [hk]
  have rankedFs : Ranked fs := by
    refine Ranked.congr (zs := s.heating.zones) rlaw (map_of_rows (fun z => (z.configured, z.rank)) (out.length.trans (length.trans eight.symm)) fun i _ => ?_)
    obtain ⟨⟨k, a, same⟩, rank⟩ := fsRow i
    rw [rank, same]
  have lawful {i : Nat} (hi : i < 8) : (row s.heating.zones i).refresh = row s.heating.zones i :=
    zlaw _ (row_mem (by rw [eight]; exact hi))
  have lit {i : Nat} (hi : i < 8) : (t.zone (i + 1)).heat = .heating ↔ (row us i).heat = .heating := by
    rw [rowT hi]
    refine ⟨Zone.refresh_hot, fun hot => ?_⟩
    by_cases hw : i ∈ won
    · obtain ⟨-, sound, demands⟩ := allotted.won i hw
      exact Zone.refresh_chosen (allotted.rows i) hot sound (Zone.demands_of_dark (bands _ (row_mem (by rw [eight]; exact hi))) demands)
    · obtain ⟨was, demands⟩ := allotted.kept i hot hw
      exact Zone.refresh_chosen (allotted.rows i) hot (Zone.heating_configured (lawful hi) was).2 demands
  have inT {i : Nat} (hi : i < 8) : i + 1 ∈ heatingZones t ↔ (row us i).heat = .heating := by
    rw [heatingZones, List.mem_filter, decide_eq_true_eq, lit hi]
    exact and_iff_right (number hi)
  have inWon {i : Nat} : i + 1 ∈ won.map (· + 1) ↔ i ∈ won := List.mem_map_of_injective fun _ _ => Nat.succ.inj
  have stays {i : Nat} (hi : i < 8) : (row fs i).heat = .heating ↔
      (row (retire s.heating.zones) i).heat = .heating ∧ i + 1 ∈ heatingZones t ∧ i + 1 ∉ won.map (· + 1) := by
    rw [inT hi, inWon, usRow]
    constructor
    · intro hot
      have lost : i ∉ won := fun hw => (Zone.candidate_dark (rounds.out.won i hw)).1 hot
      exact ⟨((out.stays i).1 hot).1, by rw [if_neg lost, hot], lost⟩
    · rintro ⟨-, hot, lost⟩
      rwa [if_neg lost] at hot
  have focusEq : focus = zoneNumbers.filter fun n => decide ((row (retire s.heating.zones) (n - 1)).heat = .heating) := by
    show List.filter _ (List.filter _ zoneNumbers) = _
    rw [List.filter_filter]
    refine List.filter_congr fun n hn => ?_
    obtain ⟨i, rfl, hi⟩ := numbered hn
    rw [Bool.eq_iff_iff, Bool.and_eq_true, decide_eq_true_eq, decide_eq_true_eq]
    exact and_comm.trans (row_retire s.heating.zones i).2.2.symm
  have keptEq : focus.filter (fun n => decide (n ∈ heatingZones t ∧ n ∉ won.map (· + 1))) =
      zoneNumbers.filter fun n => decide ((row fs (n - 1)).heat = .heating) := by
    rw [focusEq, List.filter_filter]
    refine List.filter_congr fun n hn => ?_
    obtain ⟨i, rfl, hi⟩ := numbered hn
    rw [Bool.eq_iff_iff, Bool.and_eq_true, decide_eq_true_eq, decide_eq_true_eq, decide_eq_true_eq]
    exact and_comm.trans (stays hi).symm
  have shed : shedTo s limit focus (focus.filter fun n => decide (n ∈ heatingZones t ∧ n ∉ won.map (· + 1))) := by
    have rankedRetired : Ranked (retire s.heating.zones) :=
      Ranked.congr (zs := s.heating.zones) rlaw (map_of_rows (fun z => (z.configured, z.rank)) (length.trans eight.symm) fun i _ => by
        obtain ⟨⟨k, a, same⟩, rank, -⟩ := row_retire s.heating.zones i
        rw [rank, same])
    rw [keptEq, focusEq]
    refine out.shedTo length rankedRetired (fun i hot => ?_) fun i hi => ?_
    · have hi := length ▸ lt_of_heating hot
      obtain ⟨⟨k, a, same⟩, -, was⟩ := row_retire s.heating.zones i
      have configured := (Zone.heating_configured (lawful hi) (was.1 hot).1).1
      rw [same]
      exact configured
    · obtain ⟨⟨k, a, same⟩, rank, -⟩ := row_retire s.heating.zones i
      rw [rank, same]
      exact ⟨rfl, rfl, rfl⟩
  have sum : heatSum t.heating.zones = heatSum us := by
    rw [zonesT]
    refine congrArg List.sum (map_of_rows Zone.watts (by simp) fun i hi => ?_)
    have hi' : i < 8 := by rw [← eight, ← allotted.length]; exact hi
    have same := lit hi'
    rw [rowT hi'] at same
    rw [row_map _ hi]
    by_cases hot : (row us i).heat = .heating
    · rw [Zone.watts, Zone.watts, if_pos hot, if_pos (same.2 hot)]
      rfl
    · rw [Zone.watts, Zone.watts, if_neg hot, if_neg (mt same.1 hot)]
  have beats {i j : Nat} (h : (row fs i).beats (row fs j)) : needsMore s (i + 1) (j + 1) := by
    obtain ⟨⟨_, _, si⟩, ri⟩ := fsRow i
    obtain ⟨⟨_, _, sj⟩, rj⟩ := fsRow j
    rw [Zone.beats, ri, rj, si, sj] at h
    exact h
  have waiting {i : Nat} (hi : i < 8) (waits : (t.zone (i + 1)).heat = .waiting) :
      i ∉ won ∧ (row fs i).heat ≠ .heating ∧ (row fs i).demands = true ∧ (row fs i).failed = false := by
    rw [rowT hi] at waits
    obtain ⟨sound, demands, dark⟩ := Zone.refresh_waiting waits
    have lost : i ∉ won := fun hw => dark (allotted.won i hw).1
    rw [usRow, if_neg lost] at dark
    obtain ⟨k, hk⟩ := rounds.out.rows i
    rw [hk] at sound demands
    exact ⟨lost, dark, (Zone.demands_dark (Zone.sameRow_refl _) dark).trans demands, sound⟩
  refine ⟨won.map (· + 1), shed, fun n hn => ?_, ?_, fun n hn => ?_, fun m one most waits => ?_, fun pre n post split => ?_,
    fun m one most lost => ?_⟩
  · obtain ⟨i, rfl, hi⟩ := numbered (List.mem_filter.1 hn).1
    by_cases hw : i ∈ won
    · exact .inr (inWon.2 hw)
    · left
      rw [keptEq, List.mem_filter, decide_eq_true_eq]
      have hot := (inT hi).1 hn
      rw [usRow, if_neg hw] at hot
      exact ⟨number hi, hot⟩
  · exact rounds.out.nodup.map fun _ _ => Nat.succ.inj
  · obtain ⟨i, hw, rfl⟩ := List.mem_map.1 hn
    have hot : (row us i).heat = .heating := (allotted.won i hw).1
    exact (inT (by have := lt_of_heating hot; rw [allotted.length, eight] at this; exact this)).2 hot
  · obtain ⟨i, rfl, hi⟩ := numbered (mem_zoneNumbers.2 ⟨one, most⟩)
    obtain ⟨lost, dark, demands, sound⟩ := waiting hi waits
    obtain ⟨left, spent, none⟩ := rounds.out.spent
    obtain ⟨k, hk⟩ := rounds.out.rows i
    rw [if_neg lost] at hk
    obtain ⟨⟨_, _, same⟩, -⟩ := fsRow i
    have rating : (s.zone (i + 1)).rating = (row us i).rating := by
      rw [hk, same]
      rfl
    have rest := winner_none none (row us i) (row_mem (by rw [allotted.length, eight]; exact hi))
    have tooMuch : ¬ (row us i).rating.getD 0 ≤ left := fun fits => by
      rw [hk] at rest fits
      rw [Zone.candidate_of (z := { row fs i with rank := k, heat := (row fs i).heat }) dark fits demands sound] at rest
      cases rest
    have fits := out.fits
    rw [limitT, sum, rating]
    omega
  · obtain ⟨pre', rest, rfl, -, tail⟩ := List.map_eq_append_iff.1 split
    obtain ⟨i, post', rfl, rfl, rfl⟩ := List.map_eq_cons_iff.1 tail
    obtain ⟨rank, before, greatest⟩ := (rounds.ranked rankedFs).winners pre' i post' rfl
    have hw : i ∈ pre' ++ i :: post' := by simp
    have hi : i < 8 := by
      have := lt_of_heating (allotted.won i hw).1
      rwa [allotted.length, eight] at this
    refine ⟨?_, fun m hm => ?_, fun m one most waits fits => ?_⟩
    · rw [rowT hi]
      exact rank.trans (by rw [List.length_map])
    · obtain ⟨j, hj, rfl⟩ := List.mem_map.1 hm
      exact beats (before j hj)
    · obtain ⟨j, rfl, hj⟩ := numbered (mem_zoneNumbers.2 ⟨one, most⟩)
      obtain ⟨lost, dark, demands, sound⟩ := waiting hj waits
      obtain ⟨⟨_, _, si⟩, -⟩ := fsRow i
      obtain ⟨⟨_, _, sj⟩, -⟩ := fsRow j
      have fits' : (row fs j).rating.getD 0 ≤ (row fs i).rating.getD 0 := by
        rw [si, sj]
        exact fits
      exact beats (greatest j lost (Zone.candidate_of dark fits' demands sound))
  · obtain ⟨i, rfl, hi⟩ := numbered (mem_zoneNumbers.2 ⟨one, most⟩)
    have losers := (rounds.ranked rankedFs).losers i fun hw => lost (inWon.2 hw)
    rw [rowT hi]
    refine Eq.trans losers ?_
    rw [(fsRow i).2]
    refine congrArg (Option.map · (row s.heating.zones i).rank) (funext fun r => congrArg (r + ·) ?_)
    rw [List.countP_map]
    refine List.countP_congr fun k _ => ?_
    rw [(fsRow k).2]
    rfl

/-- Settles O36: what is allotted, whatever the source, and with one the rounds of shedding and of arbitration. -/
theorem heatPeriodStaysInLimit : Obligations.HeatPeriodStaysInLimit := by
  unfold Obligations.HeatPeriodStaysInLimit
  intro s run runs eight bands
  have ran := State.exec_heatPeriod run runs
  obtain ⟨h, hh⟩ : ∃ h, h = s.heatBegun.heating := ⟨_, rfl⟩
  rw [← hh] at ran
  obtain ⟨t, ht⟩ : ∃ t, t = s.heatBegun.heatStep (allocate h).2.1 (allocate h).2.2 true fun _ => (allocate h).1 := ⟨_, rfl⟩
  rw [← ht] at ran
  have begun : h = { s.heating with heatPeriod := some s.now } := by
    rw [hh]
    rfl
  have eight' : h.zones.length = 8 := by rw [begun]; exact eight
  have zonesH : h.zones = s.heating.zones := by rw [begun]
  obtain ⟨won, numbers, allotted, within, kept, dark⟩ := h.allocate_allotted eight'
  obtain ⟨us, hus⟩ : ∃ us, us = (allocate h).1.zones := ⟨_, rfl⟩
  rw [← hus] at allotted within kept dark
  rw [zonesH] at allotted dark
  obtain ⟨rows, -, frame, -⟩ := State.heatStep_stepped s.heatBegun (allocate h).2.1 (allocate h).2.2 true fun _ => (allocate h).1
  rw [← ht] at rows frame
  obtain ⟨zonesT, policy, departure, source, grant, allowance, sess, period, -⟩ := rows.fields
  rw [kept] at zonesT policy departure source grant allowance sess period
  have limit : t.heating.limit = h.chosen.limit := by simp [Heating.limit, source, grant, allowance]
  have rowT {i : Nat} (hi : i < 8) : t.zone (i + 1) = (row us i).refresh := by
    show row t.heating.zones i = _
    rw [zonesT]
    exact row_map _ (by rw [allotted.length, eight]; exact hi)
  have band {i : Nat} (hi : i < 8) : 1 ≤ (row s.heating.zones i).hyst := bands _ (row_mem (by rw [eight]; exact hi))
  have chosen {i : Nat} (hi : i < 8) (hw : i ∈ won) : (t.zone (i + 1)).heat = .heating := by
    obtain ⟨lit, sound, demands⟩ := allotted.won i hw
    rw [rowT hi]
    exact Zone.refresh_chosen (allotted.rows i) lit sound (Zone.demands_of_dark (band hi) demands)
  have numbered {n : Nat} (one : 1 ≤ n) (most : n ≤ 8) : ∃ i, n = i + 1 ∧ i < 8 := ⟨n - 1, by omega, by omega⟩
  have sameSource : t.heating.source = h.chooseSource := source
  refine ⟨t, ran, ?source, ?period, ?law, ?grant, ?allowance, ?policy, fun n one most lit => ?demanded,
    fun n one most dark demands sound => ?waiting, fun none => ?none, fun some zlaw rlaw => ?rounds,
    fun n one most lit was nodes free => ?on, fun n one most lit was nodes => ?off, fun changed grid => ?posted, ?frame⟩
  case source =>
    rw [sameSource, begun]
    rfl
  case period => rw [period, begun]; rfl
  case law =>
    rw [heatLaw, limit, zonesT]
    exact (heatSum_refresh_le _).trans within
  case grant => rw [grant, begun]; rfl
  case allowance => rw [allowance, begun]; rfl
  case policy => rw [policy, begun]; rfl
  case demanded =>
    obtain ⟨i, rfl, hi⟩ := numbered one most
    rw [rowT hi] at lit
    by_cases hw : i ∈ won
    · exact Zone.demands_of_dark (band hi) (allotted.won i hw).2.2
    · exact (allotted.kept i (Zone.refresh_hot lit) hw).2
  case waiting =>
    obtain ⟨i, rfl, hi⟩ := numbered one most
    rw [rowT hi] at dark demands sound ⊢
    exact Zone.refresh_waits dark demands sound
  case none =>
    have off := dark (sameSource.symm.trans none)
    refine ⟨List.filter_eq_nil_iff.2 fun n hn => ?_, ?_⟩
    · obtain ⟨one, most⟩ := mem_zoneNumbers.1 hn
      obtain ⟨i, rfl, hi⟩ := numbered one most
      rw [rowT hi, off, allOff, row_map _ (by rw [eight]; exact hi)]
      simpa using Zone.refresh_takeOff _
    · rw [zonesT]
      show (us.map Zone.refresh).map Zone.rank = _
      rw [off, allOff, List.map_map, List.map_map]
      rfl
  case rounds =>
    obtain ⟨l, fs, won', out, rounds, -, -⟩ := h.allocate_rounds eight' fun none => some (sameSource.trans none)
    rw [zonesH] at out
    rw [← hus] at rounds
    rw [limit]
    exact heatPeriod_rounds eight bands zlaw rlaw out rounds zonesT limit
  case on =>
    obtain ⟨i, rfl, hi⟩ := numbered one most
    have lit' := lit
    rw [rowT hi] at lit'
    have hw : i ∈ won := by
      by_contra lost
      exact was (allotted.kept i (Zone.refresh_hot lit') lost).1
    obtain ⟨-, on⟩ := State.heatStep_setpoints s.heatBegun (allocate h).2.1 (allocate h).2.2 true (fun _ => (allocate h).1) hi (by
      show i + 4 ≤ s.stage.nodes.length
      omega)
    rw [← ht] at on
    refine (on (by rw [numbers]; exact List.mem_map.2 ⟨i, hw, rfl⟩) free).trans ?_
    show ((row ((allocate h).1.zones.map Zone.refresh) i).rating).getD 0 = _
    rw [← hus, row_map _ (by rw [allotted.length, eight]; exact hi)]
    obtain ⟨k, a, same⟩ := allotted.rows i
    show (row us i).rating.getD 0 = _
    rw [same]
    rfl
  case off =>
    obtain ⟨i, rfl, hi⟩ := numbered one most
    have hw : i ∉ won := fun hw => lit (chosen hi hw)
    obtain ⟨off, -⟩ := State.heatStep_setpoints s.heatBegun (allocate h).2.1 (allocate h).2.2 true (fun _ => (allocate h).1) hi (by
      show i + 4 ≤ s.stage.nodes.length
      omega)
    rw [← ht] at off
    refine off (by rw [numbers]; simpa using hw) was ?_
    show (row ((allocate h).1.zones.map Zone.refresh) i).heat ≠ .heating
    rw [← hus, row_map _ (by rw [allotted.length, eight]; exact hi), ← rowT hi]
    exact lit
  case posted =>
    have on : ({ (allocate h).1 with zones := (allocate h).1.zones.map Zone.refresh } : Heating).heatOn = heatSum t.heating.zones := by
      have source' : (allocate h).1.source = .grid := by rw [kept]; exact sameSource.symm.trans grid
      rw [Heating.heatOn, if_pos source', zonesT, hus]
    have posts := State.heatStep_posts s.heatBegun (allocate h).2.1 (allocate h).2.2 true (fun _ => (allocate h).1)
    rw [← ht, on] at posts
    refine posts fun same => changed (same.trans ?_)
    rw [kept, begun]
    rfl
  case frame => exact onlyChanges_trans (State.onHeating_frame s _) frame

end Sys2Proof.Proofs
end
